-- ==== Sys2Proof/Word.lean ====
section
/-! DEFINITION. The plain quantities of the FC-512: the byte of the links, the numbers that name seats, wings and
positions, and the raw profile record as an order carries it. -/

namespace Sys2Proof

/-- One byte of the control link or of a trunk. -/
abbrev Byte := BitVec 8

/-- A two-byte unsigned quantity of a frame body, most significant byte first (chapter 11). -/
abbrev Half := BitVec 16

/-- The floor clock: a 32-bit count of decis that wraps (R166). -/
abbrev Clock := BitVec 32

/-- A wing, A to D, numbered 0–3. -/
abbrev Wing := Fin 4

/-- A seat number, 0–511. -/
abbrev Seat := Fin 512

/-- A position of a chain by its index: position n (1–128) has index n − 1. -/
abbrev Pos := Fin 128

/-- A delegate slot by its index: slot n (1–8) has index n − 1. -/
abbrev SlotNo := Fin 8

/-- An account number, 0–575 (R118). -/
abbrev AccountNo := Fin 576

/-- A profile number, 0–15. -/
abbrev ProfileNo := Fin 16

/-- The twenty bytes of a profile record, field by field, as PROFILE PUT carries them (R135, section 11.2). -/
structure RawProfile where
  mode : Byte
  speakerLimit : Byte
  autoAdvance : Byte
  queueWhenFull : Byte
  speakerMayClose : Byte
  speechLimit : Half
  warningLead : Half
  allowanceMode : Byte
  longPress : Byte
  voiceStep : Byte
  voiceAttack : Byte
  voiceRelease : Byte
  howlLimit : Byte
  howlCount : Byte
  blankCount : Byte
  lockKind : Byte
  softRelease : Byte
  priorityAction : Byte
  deriving DecidableEq, Repr

end Sys2Proof
end

