-- ==== Sys2Proof/Config.lean ====
section
/-! DEFINITION. What the manual fixes for every part (the count limits of R164 and the formats chapter) and the values it
leaves open. An open value is an opaque constant: nothing in Lean can evaluate it, so a claim that holds, holds for
every choice of it. -/

namespace Sys2Proof.Config

/-- The notice queue holds at most 32 notices (R159). -/
def noticeLimit : Nat := 32

/-- The request queue holds at most 128 entries (R59). -/
def queueLimit : Nat := 128

/-- At most four plan records have class CHAIR (R5). -/
def chairLimit : Nat := 4

/-- The longest nonzero speech limit, drain limit and limit override (R107, R114, R147). -/
def longestLimit : Nat := 36000

/-- Balances lie between −36000 and the cap (R118). -/
def deepestDebt : Int := -36000

/-- Elapsed saturates at 65535 (R109). -/
def elapsedTop : Nat := 65535

/-- A refused seat event shows REFUSED for 20 decis (R39). -/
def refusalDecis : Nat := 20

/-- Sixteen good answers in a row after the first complete settling (R22). -/
def settleTop : Nat := 16

/-- The third miss in a row loses a unit (R25). -/
def missTop : Nat := 3

/-- An assignment fails with TIMEOUT at its eighth poll (R35). -/
def assignPolls : Nat := 8

/-- The part code carried by the IDENTIFY answer (section 11.2). -/
def partCode : Half := 0xB512

/-- FREE VALUE (log entry 1). Whether a low pulse of RESET between 1 µs and 10 µs is taken as a reset: R170 allows
either outcome. The argument is the model's draw counter. -/
opaque shortPulseResets : Nat → Bool

/-- FREE VALUE (log entry 2). A byte of an answer for which the formats chapter gives a place and the manual states no
value: the fields of an ABSENT position in TRUNK READ and of a free slot in FLOOR READ, the place in the answer to a
QUEUE ADD whose entry is granted within the order, and places 3–7 of the flags byte of an ACCOUNT READ record. The
arguments are the model's draw counter and the byte's place among the open bytes of that answer. -/
opaque unstatedByte : Nat → Nat → Byte

end Sys2Proof.Config
end

