-- ==== Sys2Proof/Syntax.lean ====
section
/-! DEFINITION. The commands the block takes: one constructor per row of the opcode table. An order carries its body
fields as the bytes of its frame give them (section 11.2), so that a field out of range can be sent; an event names
what it happens to. -/

namespace Sys2Proof

/-- The commands of the FC-512. -/
inductive Instr where
  /-- POWER_RESET (R170). -/
  | powerReset
  /-- RESET_PIN (R170): RESET goes high after it was low for `lowNs` nanoseconds. -/
  | resetPin (lowNs : Nat)
  /-- RECEIVE_BYTE (R153): a byte arrives on the control link. -/
  | receiveByte (b : Byte)
  /-- RECEIVE_GAP_TIMEOUT (R153): the gap after the last byte passes 5 ms. -/
  | receiveGapTimeout
  /-- TRANSMIT_FRAME_END (R162): the last byte of the frame being sent has gone. -/
  | transmitFrameEnd
  /-- DECI_EXPIRY (R166): a deci ends. -/
  | deciExpiry
  /-- RESTARTED (R165): the order unit's deci expiry at which RESTARTED is posted. -/
  | restarted
  /-- SPEECH_TIMING_EXPIRY (R109): the deci expiry at the allocator. -/
  | speechTimingExpiry
  /-- TIME_LIMIT_CLOSE (R110): the limit test of slot `slot` (1–8). -/
  | timeLimitClose (slot : Nat)
  /-- ALLOWANCE_EXPIRY (R120): the deci expiry at the allowance unit. -/
  | allowanceExpiry
  /-- SEAT_INPUT_EXPIRY (R49): the deci expiry at the seat input unit. -/
  | seatInputExpiry
  /-- SILENCE (R88): the quiet count of a seat reaches the voice release value. -/
  | silence (seat : Seat)
  /-- PSEL_SAMPLE (R141): the deci expiry at the profile unit, with the pins showing `pins`. -/
  | pselSample (pins : BitVec 4)
  /-- PROFILE_PINS_QUALIFY (R141): the qualification test of the pin debounce state. -/
  | profilePinsQualify
  /-- REFUSAL_COUNT_EXPIRY (R39): the deci expiry at the trunk unit of a wing. -/
  | refusalCountExpiry (wing : Wing)
  /-- POLL_GOOD_ANSWER (R24): bytes answer the poll in progress on a wing within its window. -/
  | pollGoodAnswer (wing : Wing) (answer : List Byte)
  /-- POLL_MISSED_ANSWER (R25): the window of the poll in progress closes with no good answer. -/
  | pollMissedAnswer (wing : Wing)
  /-- SETTLE_COMPLETE (R23): the settle count of the unit at a position reaches 16. -/
  | settleComplete (wing : Wing) (position : Nat)
  /-- UNIT_LOST (R26): the miss count of the unit at a position reaches 3. -/
  | unitLost (wing : Wing) (position : Nat)
  /-- ASSIGN_TIMEOUT (R35): the assignment of a wing is not completed by its eighth poll. -/
  | assignTimeout (wing : Wing)
  /-- VOICE_START (R88): the attack run of a seat reaches the voice attack value. -/
  | voiceStart (seat : Seat)
  /-- HOWL (R95): the howl run of a seat reaches the howl count. -/
  | howl (seat : Seat)
  /-- HOWL_CLEAR (R95): the release run of a seat reaches the soft release value. -/
  | howlClear (seat : Seat)
  /-- PLAN_SEEK (R7). -/
  | planSeek (index : Half) (direction : Byte)
  /-- PLAN_PUT (R8). -/
  | planPut (cls locWing locPosition delegation voice : Byte)
  /-- PLAN_GET (R10). -/
  | planGet
  /-- SEAT_ASSIGN (R33). -/
  | seatAssign (wing position : Byte) (seat : Half)
  /-- TRUNK_READ (R37). -/
  | trunkRead (wing start count : Byte)
  /-- BLOCKED_READ (R32). -/
  | blockedRead (start : Half)
  /-- TRUNK_RESTART (R36). -/
  | trunkRestart (wing : Byte)
  /-- QUEUE_ADD (R65). -/
  | queueAdd (seat : Half) (kind : Byte) (target : Half)
  /-- QUEUE_DROP (R72). -/
  | queueDrop (seat : Half)
  /-- QUEUE_EMPTY (R73). -/
  | queueEmpty
  /-- QUEUE_READ (R74). -/
  | queueRead (start count : Byte)
  /-- FLOOR_GRANT (R100). -/
  | floorGrant (seat : Half) (protect : Byte)
  /-- FLOOR_NEXT (R101). -/
  | floorNext
  /-- FLOOR_REVOKE (R102). -/
  | floorRevoke (seat : Half)
  /-- FLOOR_CLEAR (R103). -/
  | floorClear
  /-- FLOOR_READ (R104). -/
  | floorRead (start : Half)
  /-- WING_MASK (R98). -/
  | wingMask (mask : Byte)
  /-- UNLOCK (R97). -/
  | unlock (seat : Half)
  /-- FLOOR_RESET (R105). -/
  | floorReset
  /-- FLOOR_EXTEND (R114). -/
  | floorExtend (seat decis : Half)
  /-- ACCOUNT_SET (R130). -/
  | accountSet (account : Half) (balance : BitVec 32) (cap rate low delta : Half)
  /-- ACCOUNT_READ (R132). -/
  | accountRead (start : Half) (count : Byte)
  /-- LOW_READ (R128). -/
  | lowRead (count : Byte)
  /-- RECOVERED_READ (R129). -/
  | recoveredRead (count : Byte)
  /-- PROFILE_PUT (R137). -/
  | profilePut (number : Byte) (record : RawProfile)
  /-- PROFILE_GET (R139). -/
  | profileGet (number : Byte)
  /-- PROFILE_SELECT (R142). -/
  | profileSelect (number : Byte)
  /-- PROFILE_SOURCE (R143). -/
  | profileSource (source : Byte)
  /-- PROFILE_IN_FORCE (R145). -/
  | profileInForce
  /-- LIST_CLOSE (R148). -/
  | listClose (limit : Half)
  /-- LIST_OPEN (R149). -/
  | listOpen
  /-- STATUS (R164). -/
  | status
  /-- NOTICE_MASK (R161). -/
  | noticeMask (mask : BitVec 24)
  /-- IDENTIFY (R164). -/
  | identify
  /-- POLL_SENT (R19): the trunk unit of a wing begins its next poll. -/
  | pollSent (wing : Wing)
  /-- RESET_HELD_LOW (R170): RESET goes low and is held. -/
  | resetHeldLow
  /-- REFCLK_RETURNS (R170): a stopped reference clock returns. -/
  | refclkReturns
  deriving DecidableEq, Repr

end Sys2Proof
end

