-- ==== Sys2Proof/Decode.lean ====
section
/-! DEFINITION. The frames of the two links. The control link: the kind code and the body layout of every order, the frame
an order is sent in, and the reading of a complete frame as R155 tests it. The trunks: the reading of the six bytes of
an answer by R169, and the frame a seat unit sends. The opcode table gives no row any bits, so
`decodeTableWord` answers none. -/

namespace Sys2Proof

/-! ### Bytes -/

/-- The two bytes of a half, most significant first (chapter 11). -/
def halfBytes (h : Half) : List Byte := [h.extractLsb' 8 8, h.extractLsb' 0 8]

/-- The three bytes of a 24-bit quantity, most significant first. -/
def tripleBytes (t : BitVec 24) : List Byte := [t.extractLsb' 16 8, t.extractLsb' 8 8, t.extractLsb' 0 8]

/-- The four bytes of a 32-bit quantity, most significant first. -/
def wordBytes (w : BitVec 32) : List Byte :=
  [w.extractLsb' 24 8, w.extractLsb' 16 8, w.extractLsb' 8 8, w.extractLsb' 0 8]

/-- The sum of bytes, modulo 256: the quantity both frame checks make zero. -/
def byteSum : List Byte → Byte
  | [] => 0
  | b :: bs => b + byteSum bs

/-- The CHECK byte that makes the sum of the bytes and itself a multiple of 256. -/
def checkOf (bytes : List Byte) : Byte := -(byteSum bytes)

/-- The twenty bytes of a profile record, in the field order of R135. -/
def recordBytes (r : RawProfile) : List Byte :=
  [r.mode, r.speakerLimit, r.autoAdvance, r.queueWhenFull, r.speakerMayClose] ++ halfBytes r.speechLimit
    ++ halfBytes r.warningLead
    ++ [r.allowanceMode, r.longPress, r.voiceStep, r.voiceAttack, r.voiceRelease, r.howlLimit, r.howlCount, r.blankCount,
        r.lockKind, r.softRelease, r.priorityAction]

/-- The profile record in twenty bytes; none for another number of bytes. -/
def recordOf : List Byte → Option RawProfile
  | [b0, b1, b2, b3, b4, b5, b6, b7, b8, b9, b10, b11, b12, b13, b14, b15, b16, b17, b18, b19] =>
    some ⟨b0, b1, b2, b3, b4, b5 ++ b6, b7 ++ b8, b9, b10, b11, b12, b13, b14, b15, b16, b17, b18, b19⟩
  | _ => none

/-! ### Frames of the control link -/

/-- The kind code of an order (section 11.1); none for a command that is no order. -/
def orderKind : Instr → Option Byte
  | .status => some 0x01
  | .identify => some 0x02
  | .noticeMask _ => some 0x03
  | .planSeek _ _ => some 0x08
  | .planPut _ _ _ _ _ => some 0x09
  | .planGet => some 0x0A
  | .seatAssign _ _ _ => some 0x10
  | .trunkRead _ _ _ => some 0x11
  | .blockedRead _ => some 0x12
  | .trunkRestart _ => some 0x13
  | .queueAdd _ _ _ => some 0x18
  | .queueDrop _ => some 0x19
  | .queueEmpty => some 0x1A
  | .queueRead _ _ => some 0x1B
  | .listClose _ => some 0x1C
  | .listOpen => some 0x1D
  | .floorGrant _ _ => some 0x20
  | .floorNext => some 0x21
  | .floorRevoke _ => some 0x22
  | .floorClear => some 0x23
  | .floorRead _ => some 0x24
  | .wingMask _ => some 0x25
  | .unlock _ => some 0x26
  | .floorReset => some 0x27
  | .floorExtend _ _ => some 0x28
  | .accountSet _ _ _ _ _ _ => some 0x30
  | .accountRead _ _ => some 0x31
  | .lowRead _ => some 0x32
  | .recoveredRead _ => some 0x33
  | .profilePut _ _ => some 0x38
  | .profileGet _ => some 0x39
  | .profileSelect _ => some 0x3A
  | .profileSource _ => some 0x3B
  | .profileInForce => some 0x3C
  | _ => none

/-- The body of an order's frame, by the layouts of section 11.2; empty for a command that is no order. Section 11.2 gives the
fields of PLAN SEEK, SEAT ASSIGN, TRUNK READ, QUEUE READ, FLOOR GRANT, FLOOR EXTEND and ACCOUNT READ their sizes and not their
order in the body; that they stand in the order in which R7, R33, R37, R74, R100, R114 and R132 name them is a DESIGN CHOICE
(log entry 42). -/
def orderBody : Instr → List Byte
  | .status => []
  | .identify => []
  | .noticeMask a => tripleBytes a
  | .planSeek a b => halfBytes a ++ [b]
  | .planPut a b c d e => [a] ++ [b] ++ [c] ++ [d] ++ [e]
  | .planGet => []
  | .seatAssign a b c => [a] ++ [b] ++ halfBytes c
  | .trunkRead a b c => [a] ++ [b] ++ [c]
  | .blockedRead a => halfBytes a
  | .trunkRestart a => [a]
  | .queueAdd a b c => halfBytes a ++ [b] ++ halfBytes c
  | .queueDrop a => halfBytes a
  | .queueEmpty => []
  | .queueRead a b => [a] ++ [b]
  | .listClose a => halfBytes a
  | .listOpen => []
  | .floorGrant a b => halfBytes a ++ [b]
  | .floorNext => []
  | .floorRevoke a => halfBytes a
  | .floorClear => []
  | .floorRead a => halfBytes a
  | .wingMask a => [a]
  | .unlock a => halfBytes a
  | .floorReset => []
  | .floorExtend a b => halfBytes a ++ halfBytes b
  | .accountSet a b c d e f => halfBytes a ++ wordBytes b ++ halfBytes c ++ halfBytes d ++ halfBytes e ++ halfBytes f
  | .accountRead a b => halfBytes a ++ [b]
  | .lowRead a => [a]
  | .recoveredRead a => [a]
  | .profilePut a b => [a] ++ recordBytes b
  | .profileGet a => [a]
  | .profileSelect a => [a]
  | .profileSource a => [a]
  | .profileInForce => []
  | _ => []

/-- The body length each known order kind calls for (section 11.1); none for an unknown kind. -/
def bodyLength : Byte → Option Nat
  | 0x01#8 => some 0
  | 0x02#8 => some 0
  | 0x03#8 => some 3
  | 0x08#8 => some 3
  | 0x09#8 => some 5
  | 0x0A#8 => some 0
  | 0x10#8 => some 4
  | 0x11#8 => some 3
  | 0x12#8 => some 2
  | 0x13#8 => some 1
  | 0x18#8 => some 5
  | 0x19#8 => some 2
  | 0x1A#8 => some 0
  | 0x1B#8 => some 2
  | 0x1C#8 => some 2
  | 0x1D#8 => some 0
  | 0x20#8 => some 3
  | 0x21#8 => some 0
  | 0x22#8 => some 2
  | 0x23#8 => some 0
  | 0x24#8 => some 2
  | 0x25#8 => some 1
  | 0x26#8 => some 2
  | 0x27#8 => some 0
  | 0x28#8 => some 4
  | 0x30#8 => some 14
  | 0x31#8 => some 3
  | 0x32#8 => some 1
  | 0x33#8 => some 1
  | 0x38#8 => some 21
  | 0x39#8 => some 1
  | 0x3A#8 => some 1
  | 0x3B#8 => some 1
  | 0x3C#8 => some 0
  | _ => none

/-- The order of a kind code and a body of its length, read field by field (R168), in the order of `orderBody`; for the seven
orders whose field order section 11.2 does not state that order is a DESIGN CHOICE (log entry 42). -/
def orderOf : Byte → List Byte → Option Instr
  | 0x01#8, [] => some (.status)
  | 0x02#8, [] => some (.identify)
  | 0x03#8, [x0, x1, x2] => some (.noticeMask (x0 ++ x1 ++ x2))
  | 0x08#8, [x0, x1, x2] => some (.planSeek (x0 ++ x1) x2)
  | 0x09#8, [x0, x1, x2, x3, x4] => some (.planPut x0 x1 x2 x3 x4)
  | 0x0A#8, [] => some (.planGet)
  | 0x10#8, [x0, x1, x2, x3] => some (.seatAssign x0 x1 (x2 ++ x3))
  | 0x11#8, [x0, x1, x2] => some (.trunkRead x0 x1 x2)
  | 0x12#8, [x0, x1] => some (.blockedRead (x0 ++ x1))
  | 0x13#8, [x0] => some (.trunkRestart x0)
  | 0x18#8, [x0, x1, x2, x3, x4] => some (.queueAdd (x0 ++ x1) x2 (x3 ++ x4))
  | 0x19#8, [x0, x1] => some (.queueDrop (x0 ++ x1))
  | 0x1A#8, [] => some (.queueEmpty)
  | 0x1B#8, [x0, x1] => some (.queueRead x0 x1)
  | 0x1C#8, [x0, x1] => some (.listClose (x0 ++ x1))
  | 0x1D#8, [] => some (.listOpen)
  | 0x20#8, [x0, x1, x2] => some (.floorGrant (x0 ++ x1) x2)
  | 0x21#8, [] => some (.floorNext)
  | 0x22#8, [x0, x1] => some (.floorRevoke (x0 ++ x1))
  | 0x23#8, [] => some (.floorClear)
  | 0x24#8, [x0, x1] => some (.floorRead (x0 ++ x1))
  | 0x25#8, [x0] => some (.wingMask x0)
  | 0x26#8, [x0, x1] => some (.unlock (x0 ++ x1))
  | 0x27#8, [] => some (.floorReset)
  | 0x28#8, [x0, x1, x2, x3] => some (.floorExtend (x0 ++ x1) (x2 ++ x3))
  | 0x30#8, [x0, x1, x2, x3, x4, x5, x6, x7, x8, x9, x10, x11, x12, x13] => some (.accountSet (x0 ++ x1) (x2 ++ x3 ++ x4 ++ x5) (x6 ++ x7) (x8 ++ x9) (x10 ++ x11) (x12 ++ x13))
  | 0x31#8, [x0, x1, x2] => some (.accountRead (x0 ++ x1) x2)
  | 0x32#8, [x0] => some (.lowRead x0)
  | 0x33#8, [x0] => some (.recoveredRead x0)
  | 0x38#8, number :: record => (recordOf record).map (.profilePut number)
  | 0x39#8, [x0] => some (.profileGet x0)
  | 0x3A#8, [x0] => some (.profileSelect x0)
  | 0x3B#8, [x0] => some (.profileSource x0)
  | 0x3C#8, [] => some (.profileInForce)
  | _, _ => none

/-- A frame after SYNC: LEN, KIND, the body and CHECK (section 11.1). -/
def encodeFrame (kind : Byte) (body : List Byte) : List Byte :=
  let counted := BitVec.ofNat 8 (body.length + 1) :: kind :: body
  counted ++ [checkOf counted]

/-- The frame the host sends an order in, after SYNC. -/
def orderFrame (i : Instr) : List Byte := encodeFrame ((orderKind i).getD 0) (orderBody i)

/-- What the tests of R155 find in a complete frame. -/
inductive FrameReading where
  /-- Test 1: the sum is not a multiple of 256. -/
  | badCheck
  /-- Test 2: KIND is no order's. -/
  | unknownKind
  /-- Test 3: the body is not of the length that KIND calls for. -/
  | badLength (kind : Byte)
  /-- All three tests pass. -/
  | order (i : Instr)
  deriving DecidableEq, Repr

/-- R155: a complete frame, from LEN to CHECK, tested in the order of the table. -/
def readFrame (frame : List Byte) : FrameReading :=
  if byteSum frame ≠ 0 then .badCheck
  else match frame with
    | _ :: kind :: rest =>
      match bodyLength kind with
      | none => .unknownKind
      | some n =>
        if rest.dropLast.length ≠ n then .badLength kind
        else match orderOf kind rest.dropLast with
          | some i => .order i
          | none => .badLength kind
    | _ => .unknownKind

/-! ### Answers of the trunks -/

/-- The two kinds of seat unit. -/
inductive UnitType where
  | delegateUnit | chairUnit
  deriving DecidableEq, Repr

/-- The buttons of a seat unit, true for DOWN: REQUEST of a delegate unit; TALK, PRIORITY and NEXT of a chair unit. -/
inductive Buttons where
  | delegate (request : Bool)
  | chair (talk priority next : Bool)
  deriving DecidableEq, Repr

/-- The type of unit that has these buttons. -/
def Buttons.unitType : Buttons → UnitType
  | .delegate _ => .delegateUnit
  | .chair _ _ _ => .chairUnit

/-- What a seat unit says in a good answer (R20). An absent address is BLANK. -/
structure TrunkAnswer where
  addr : Option Seat
  buttons : Buttons
  stored : Bool
  level : Fin 64
  deriving DecidableEq, Repr

/-- A reported address of two bytes: a seat number, or BLANK for 0xFFFF; any other value is no address (R169). -/
def addressOf (h : Half) : Option (Option Seat) :=
  if h = 0xFFFF then some none
  else if lt : h.toNat < 512 then some (some ⟨h.toNat, lt⟩)
  else none

/-- The buttons of a status byte: places 4–6, by the unit type in place 0 (section 11.4). -/
def buttonsOf (status : Byte) : Buttons :=
  if status.getLsbD 0 then .chair (status.getLsbD 4) (status.getLsbD 5) (status.getLsbD 6)
  else .delegate (status.getLsbD 4)

/-- R169: the six bytes of an answer frame, or none where any condition of a good answer fails. The bytes are all that came
within the window: that more than six of them are no good answer is the model's choice (log entry 37). -/
def readAnswer : List Byte → Option TrunkAnswer
  | [start, a1, a0, status, level, check] =>
    if start = 0x5A ∧ byteSum [a1, a0, status, level, check] = 0
        ∧ status.getLsbD 2 = false ∧ status.getLsbD 3 = false ∧ status.getLsbD 7 = false then
      if lt : level.toNat < 64 then
        (addressOf (a1 ++ a0)).map fun addr => ⟨addr, buttonsOf status, status.getLsbD 1, ⟨level.toNat, lt⟩⟩
      else none
    else none
  | _ => none

/-- One bit of a byte, at a place. -/
def bitAt (place : Nat) (b : Bool) : Byte := if b then BitVec.ofNat 8 (2 ^ place) else 0

/-- The places 4–6 of a status byte; the other places are clear (in TRUNK READ, by the reading of log entry 38). -/
def buttonPlaces : Buttons → Byte
  | .delegate r => bitAt 4 r
  | .chair t p n => bitAt 4 t ||| bitAt 5 p ||| bitAt 6 n

/-- The two bytes of a reported address, 0xFFFF for BLANK. -/
def addressHalf : Option Seat → Half
  | none => 0xFFFF
  | some s => BitVec.ofNat 16 s.val

/-- The status byte of an answer frame (section 11.4). -/
def statusByte (a : TrunkAnswer) : Byte :=
  bitAt 0 (a.buttons.unitType == .chairUnit) ||| bitAt 1 a.stored ||| buttonPlaces a.buttons

/-- The answer frame a seat unit sends. -/
def answerFrame (a : TrunkAnswer) : List Byte :=
  let body := halfBytes (addressHalf a.addr) ++ [statusByte a, BitVec.ofNat 8 a.level.val]
  0x5A :: body ++ [checkOf body]

/-! ### The opcode table -/

/-- The command that a word spells by the bits of the opcode table. The table gives no row any bits, so no word spells a
command. -/
def decodeTableWord (_nbits _w : Nat) : Option Instr := none

end Sys2Proof
end

