-- ==== Sys2Proof/Machine/State.lean ====
section
/-! DEFINITION. The state of the FC-512 as plain data: one record per unit of the part, with every piece of state the
manual gives that unit, and the machine right after a power reset. -/

namespace Sys2Proof.Machine

/-! ### The seat plan (chapter 1) -/

/-- The class of a seat (R1). -/
inductive SeatClass where
  | vacant | delegate | chair | listener
  deriving DecidableEq, Repr

/-- A place on the trunks: a wing and a position. -/
structure Place where
  wing : Wing
  pos : Pos
  deriving DecidableEq, Repr

/-- A plan record (R1). An absent location is ANY; delegation 0 is none. -/
structure PlanRecord where
  cls : SeatClass
  location : Option Place
  delegation : Fin 65
  voice : Bool
  deriving DecidableEq, Repr

/-- The direction of the plan cursor (R6). -/
inductive Direction where
  | write | read
  deriving DecidableEq, Repr

/-- The plan cursor (R6): the index 0–512, the direction, and the read buffer with the seat it was copied from. -/
structure Cursor where
  index : Fin 513
  direction : Direction
  buffer : Option (Seat × PlanRecord)
  deriving DecidableEq, Repr

/-! ### The trunk units (chapter 2) -/

/-- Which check a blocked unit failed (R23). -/
inductive BlockKind where
  | location | duplicate | unbound | type
  deriving DecidableEq, Repr

/-- The presence state of a unit, with the block kind of a BLOCKED one (R18). -/
inductive Presence where
  | settling
  | ready
  | blocked (kind : BlockKind)
  deriving DecidableEq, Repr

/-- An entry of a chain table (R18). An absent address is BLANK; the buttons carry the unit type. -/
structure ChainEntry where
  addr : Option Seat
  buttons : Buttons
  presence : Presence
  settle : Nat
  miss : Nat
  level : Fin 64
  refusal : Nat
  deriving DecidableEq, Repr

/-- An address assignment in flight (R33). -/
structure Assignment where
  pos : Pos
  seat : Seat
  polls : Nat
  deriving DecidableEq, Repr

/-- The microphone command of a poll (R20). -/
inductive MicCommand where
  | closed | mute | open
  deriving DecidableEq, Repr

/-- The indicator states (R38). -/
inductive Indicator where
  | off | request | first | speaking | warning | muted | refused | locked | blocked
  deriving DecidableEq, Repr

/-- A poll in progress (R19): the position it is addressed to, whether it is the end probe, and what it carried. -/
structure Poll where
  pos : Pos
  endProbe : Bool
  mic : MicCommand
  indicator : Indicator
  store : Option Seat
  deriving DecidableEq, Repr

/-- A trunk unit: its chain table, its assignment, and where its round stands (R18, R19). `roundLength` is the chain
length when the round began and `nextPos` the number of the position the next poll goes to; a number past
`roundLength` is the end probe. -/
structure Trunk where
  chain : Vector (Option ChainEntry) 128
  assignment : Option Assignment
  roundLength : Nat
  nextPos : Nat
  poll : Option Poll
  deriving DecidableEq, Repr

/-- An entry of the blocked-unit table (R31). -/
structure BlockedEntry where
  place : Place
  addr : Option Seat
  kind : BlockKind
  deriving DecidableEq, Repr

/-- The four trunk units, with the binding map and the blocked-unit table they share (R18). -/
structure Trunks where
  units : Vector Trunk 4
  binding : Vector (Option Place) 512
  blocked : List BlockedEntry
  deriving DecidableEq, Repr

/-! ### The seat input unit (chapter 3) -/

/-- A button as the seat input unit follows it (R41). -/
inductive ButtonState where
  | up | down | stale
  deriving DecidableEq, Repr

/-- The howl phase of a seat (R50). -/
inductive HowlPhase where
  | off | live | lockedSoft
  deriving DecidableEq, Repr

/-- The seat record (R41). REQUEST and the press start are used for a delegate unit, the other buttons and priority
counted for a chair unit. -/
structure SeatRecord where
  request : ButtonState
  talk : ButtonState
  priority : ButtonState
  next : ButtonState
  pressStart : Option Clock
  counted : Bool
  voiced : Bool
  attackRun : Nat
  quietCount : Nat
  phase : HowlPhase
  blanking : Nat
  howlRun : Nat
  releaseRun : Nat
  deriving DecidableEq, Repr

/-! ### The request queue (chapters 4 and 9) -/

/-- The kind of a queue entry (R58). -/
inductive EntryKind where
  | ordinary | priority
  deriving DecidableEq, Repr

/-- How a queue entry was made (R58). -/
inductive EntrySource where
  | press | longPress | link
  deriving DecidableEq, Repr

/-- An entry of the request queue (R58). -/
structure QueueEntry where
  seat : Seat
  kind : EntryKind
  target : Option Seat
  heard : Bool
  time : Clock
  source : EntrySource
  deriving DecidableEq, Repr

/-- The list state (R147). -/
inductive ListState where
  | open | draining
  deriving DecidableEq, Repr

/-- The request queue unit: the entries from the head, and the list state, drain limit and skip count (R59, R147). -/
structure RequestQueue where
  entries : List QueueEntry
  list : ListState
  drainLimit : Option Nat
  skips : Nat
  deriving DecidableEq, Repr

/-! ### The floor allocator (chapters 5 and 6) -/

/-- The condition of an occupied slot (R77). -/
inductive SlotCondition where
  | open | muted | softLocked
  deriving DecidableEq, Repr

/-- How a seat came to hold its slot (R77). -/
inductive Origin where
  | press | queue | next | link | voice
  deriving DecidableEq, Repr

/-- An occupied slot (R77). -/
structure Slot where
  seat : Seat
  condition : SlotCondition
  origin : Origin
  guarded : Bool
  grantTime : Clock
  elapsed : Nat
  override : Option Nat
  warned : Bool
  strikes : Nat
  drainGrant : Bool
  deriving DecidableEq, Repr

/-- A chair record (R91). `micOpen` and `afterHold` are true for OPEN. -/
structure ChairRecord where
  seat : Seat
  micOpen : Bool
  softMuted : Bool
  strikes : Nat
  afterHold : Bool
  held : Bool
  deriving DecidableEq, Repr

/-- The floor allocator: the slots, the speaker list, the free-slot order, the chair records in ascending order of seat,
the wing mask (place 0 is wing A) and the LOCKED flags (R77, R78, R91, R97, R98). -/
structure Floor where
  slots : Vector (Option Slot) 8
  speakers : List SlotNo
  free : List SlotNo
  chairs : List ChairRecord
  mask : BitVec 4
  locked : Vector Bool 512
  deriving DecidableEq, Repr

/-! ### The allowance unit (chapter 7) -/

/-- An account (R118). `low` is the state LOW. -/
structure Account where
  balance : Int
  cap : Nat
  rate : Nat
  remainder : Nat
  threshold : Nat
  delta : Nat
  low : Bool
  deriving DecidableEq, Repr

/-- The allowance unit: the accounts, and the Low and Recovered lists from the head (R118, R127). -/
structure Allowance where
  accounts : Vector Account 576
  lowList : List AccountNo
  recovered : List AccountNo
  deriving DecidableEq, Repr

/-! ### The profile unit (chapter 8) -/

/-- The floor mode (R135). -/
inductive Mode where
  | open | override | queue | voice
  deriving DecidableEq, Repr

/-- The allowance mode (R135). -/
inductive AllowanceMode where
  | off | warn | cut
  deriving DecidableEq, Repr

/-- The lock kind (R135). -/
inductive LockKind where
  | soft | hard
  deriving DecidableEq, Repr

/-- The priority action (R135). -/
inductive PriorityAction where
  | mute | close
  deriving DecidableEq, Repr

/-- A profile record (R135). -/
structure Profile where
  mode : Mode
  speakerLimit : Nat
  autoAdvance : Bool
  queueWhenFull : Bool
  speakerMayClose : Bool
  speechLimit : Nat
  warningLead : Nat
  allowanceMode : AllowanceMode
  longPress : Nat
  voiceStep : Nat
  voiceAttack : Nat
  voiceRelease : Nat
  howlLimit : Nat
  howlCount : Nat
  blankCount : Nat
  lockKind : LockKind
  softRelease : Nat
  priorityAction : PriorityAction
  deriving DecidableEq, Repr

/-- The selection source of the profile in force (R140). -/
inductive ProfileSource where
  | internal | external
  deriving DecidableEq, Repr

/-- The profile unit: the records, the selection source, the internally selected number, the pin debounce state and the
profile in force (R135, R140). -/
structure Profiles where
  records : Vector Profile 16
  source : ProfileSource
  selected : ProfileNo
  lastSample : Option ProfileNo
  stable : Nat
  inForce : ProfileNo
  deriving DecidableEq, Repr

/-! ### The order unit and control link (chapter 10) -/

/-- The result codes (R156). -/
inductive ResultCode where
  | ok | check | unknown | badLength | badValue | limit | atEnd | wrongDirection | full | empty | held | notEligible
  | notPermitted | busy | absent | notFound | noLimit
  deriving DecidableEq, Repr

/-- Why a slot closed (R83). -/
inductive CloseReason where
  | seat | link | chair | time | allowance | silence | howl | replaced | profile | mask | lost | plan | priority
  deriving DecidableEq, Repr

/-- Why an entry left the queue (R70). -/
inductive LeaveReason where
  | granted | seat | link | lost | plan | emptied | drainSkipped
  deriving DecidableEq, Repr

/-- Why a seat event was refused (R89). -/
inductive RefusalCause where
  | locked | masked | draining | full | noSlot | priority | empty
  deriving DecidableEq, Repr

/-- The seat events that can be refused (R89). -/
inductive SeatEvent where
  | shortPress | longPress | talk | next
  deriving DecidableEq, Repr

/-- Why an assignment failed (R35). -/
inductive AssignFailure where
  | timeout | lost | restart
  deriving DecidableEq, Repr

/-- What changed the profile in force (R144). -/
inductive ChangeCause where
  | select | source | pins | put
  deriving DecidableEq, Repr

/-- The notices of the notice queue and the data each carries after its floor clock (R159, section 11.2). -/
inductive NoticeBody where
  | floorOpened (slot : SlotNo) (seat : Seat) (origin : Origin) (guarded drainGrant : Bool) (grantTime : Clock)
  | floorClosed (slot : SlotNo) (seat : Seat) (reason : CloseReason) (origin : Origin) (elapsed : Nat)
  | chairMic (seat : Seat) (isOpen : Bool)
  | priorityOn (seat : Seat)
  | priorityOff (seat : Seat)
  | queueEntered (seat : Seat) (kind : EntryKind) (source : EntrySource) (place : Nat) (target : Option Seat)
      (renewed : Bool)
  | queueLeft (seat : Seat) (kind : EntryKind) (reason : LeaveReason) (place : Nat)
  | queuePromoted (seat : Seat) (place : Nat)
  | pressRefused (seat : Seat) (event : SeatEvent) (cause : RefusalCause)
  | speechWarning (slot : SlotNo) (seat : Seat) (remaining limit : Nat)
  | howlLock (seat : Seat) (kind : LockKind) (strikes : Nat)
  | howlClear (seat : Seat) (condition : SlotCondition)
  | seatReady (place : Place) (seat : Seat) (unit : UnitType)
  | seatLost (place : Place) (addr : Option Seat) (presence : Presence)
  | seatBlocked (place : Place) (addr : Option Seat) (kind : BlockKind)
  | assignDone (place : Place) (seat : Seat) (presence : Presence)
  | assignFailed (place : Place) (seat : Seat) (cause : AssignFailure)
  | listDrained (skips : Nat)
  | profileChanged (now before : ProfileNo) (cause : ChangeCause) (source : ProfileSource)
  | restarted
  deriving DecidableEq, Repr

/-- A notice with the floor clock at which it was posted. -/
structure Notice where
  clock : Clock
  body : NoticeBody
  deriving DecidableEq, Repr

/-- The condition summary, one Bool for each bit (R157). -/
structure Summary where
  lowPending : Bool
  recoveredPending : Bool
  blockedPresent : Bool
  queueFull : Bool
  listDraining : Bool
  priorityActive : Bool
  noticesLost : Bool
  orderDropped : Bool
  deriving DecidableEq, Repr

/-- An answer (R156): its KIND, the result code, the condition summary and the data. -/
structure Answer where
  kind : Byte
  code : ResultCode
  summary : Summary
  data : List Byte
  deriving DecidableEq, Repr

/-- The answer register (R154). `owed` stands only while an order is being taken: the answer's place is kept, and the
transmitter does not start on a notice before it (R156, log entry 3). -/
inductive AnswerRegister where
  | empty
  | owed
  | full (answer : Answer)
  deriving DecidableEq, Repr

/-- A frame the transmitter sends (R162). -/
inductive TxFrame where
  | answer (a : Answer)
  | conditions (clock : Clock) (summary : Summary)
  | notice (n : Notice)
  deriving DecidableEq, Repr

/-- The transmitter (R162). -/
inductive Transmitter where
  | idle
  | sending (frame : TxFrame)
  deriving DecidableEq, Repr

/-- The receive stage with the bytes it holds (R153): in FRAME, LEN and the bytes after it so far. -/
inductive ReceiveStage where
  | hunt
  | length
  | frame (len : Byte) (bytes : List Byte)
  deriving DecidableEq, Repr

/-- Where RESTARTED stands (R165): no deci has ended since the reset, or the first has, and RESTARTED was posted at it. -/
inductive RestartPhase where
  | fresh | posted
  deriving DecidableEq, Repr

/-- The order unit and control link (R153 to R166). `lostMark` and `droppedMark` are the renewal marks of the two
latches; place n of `mask` enables notice kind 0x60 + n. -/
structure Link where
  stage : ReceiveStage
  answer : AnswerRegister
  heldFrame : Option (List Byte)
  notices : List Notice
  conditions : Bool
  mask : BitVec 24
  lost : Bool
  dropped : Bool
  lostMark : Bool
  droppedMark : Bool
  tx : Transmitter
  clock : Clock
  restart : RestartPhase
  deriving DecidableEq, Repr

/-! ### The whole part -/

/-- The state of the part. `pending` is the queue of waiting commands, `resetHeld` the level of the RESET pin, and
`draws` the model's own counter of the free values read so far. -/
structure State where
  pending : List Instr
  resetHeld : Bool
  draws : Nat
  link : Link
  plan : Vector PlanRecord 512
  cursor : Cursor
  trunks : Trunks
  seats : Vector (Option SeatRecord) 512
  queue : RequestQueue
  floor : Floor
  allowance : Allowance
  profiles : Profiles
  deriving DecidableEq, Repr

/-- No command stops the part: it answers a refused order with a result code and goes on. No fault is declared. -/
inductive Fault where
  deriving DecidableEq, Repr

/-- The reasons a step can be refused. -/
inductive Refusal where
  /-- Raised by an arm of `exec` whose command has no meaning yet; safe, since nothing is claimed of it. -/
  | notModelled (mnemonic : String)
  deriving DecidableEq, Repr

/-! ### Reset values -/

/-- A plan record after a power reset (R4). -/
def PlanRecord.vacant : PlanRecord := ⟨.vacant, none, 0, false⟩

/-- The plan cursor after a power reset (R6). -/
def Cursor.reset : Cursor := ⟨0, .write, none⟩

/-- A trunk unit after a power reset (R18): its next poll is the end probe to position 1. -/
def Trunk.reset : Trunk := ⟨Vector.replicate 128 none, none, 0, 1, none⟩

/-- The trunk units after a power reset (R18). -/
def Trunks.reset : Trunks := ⟨Vector.replicate 4 Trunk.reset, Vector.replicate 512 none, []⟩

/-- The request queue unit after a power reset (R60, R147). -/
def RequestQueue.reset : RequestQueue := ⟨[], .open, none, 0⟩

/-- The free-slot order of an empty floor: 1 to 8 from the head (R80). -/
def Floor.allFree : List SlotNo := [0, 1, 2, 3, 4, 5, 6, 7]

/-- The floor allocator after a power reset (R80). -/
def Floor.reset : Floor :=
  ⟨Vector.replicate 8 none, [], Floor.allFree, [], 0xF, Vector.replicate 512 false⟩

/-- An account after a power reset (R118). -/
def Account.reset : Account := ⟨0, 36000, 0, 0, 0, 1, false⟩

/-- The allowance unit after a power reset (R118). -/
def Allowance.reset : Allowance := ⟨Vector.replicate 576 Account.reset, [], []⟩

/-- A profile record with the default of every field (R135). -/
def Profile.default : Profile where
  mode := .queue
  speakerLimit := 4
  autoAdvance := true
  queueWhenFull := true
  speakerMayClose := true
  speechLimit := 0
  warningLead := 0
  allowanceMode := .off
  longPress := 15
  voiceStep := 3
  voiceAttack := 2
  voiceRelease := 20
  howlLimit := 58
  howlCount := 4
  blankCount := 8
  lockKind := .soft
  softRelease := 6
  priorityAction := .mute

/-- The profile unit after a power reset (R136). -/
def Profiles.reset : Profiles := ⟨Vector.replicate 16 Profile.default, .internal, 0, none, 0, 0⟩

/-- The order unit after a power reset (R153, R154, R157 to R162, R165, R166): every notice kind is enabled. -/
def Link.reset : Link where
  stage := .hunt
  answer := .empty
  heldFrame := none
  notices := []
  conditions := false
  mask := 0x0FFFFF
  lost := false
  dropped := false
  lostMark := false
  droppedMark := false
  tx := .idle
  clock := 0
  restart := .fresh

/-- The part right after a power reset, with no command waiting. -/
def State.reset : State where
  pending := []
  resetHeld := false
  draws := 0
  link := Link.reset
  plan := Vector.replicate 512 PlanRecord.vacant
  cursor := Cursor.reset
  trunks := Trunks.reset
  seats := Vector.replicate 512 none
  queue := RequestQueue.reset
  floor := Floor.reset
  allowance := Allowance.reset
  profiles := Profiles.reset

/-! ### Updates of one unit's state -/

/-- Replaces the order unit's state. -/
def State.setLink (s : State) (l : Link) : State := { s with link := l }

/-- Replaces the plan. -/
def State.setPlan (s : State) (p : Vector PlanRecord 512) : State := { s with plan := p }

/-- Replaces the plan cursor. -/
def State.setCursor (s : State) (c : Cursor) : State := { s with cursor := c }

/-- Replaces the trunk units' state. -/
def State.setTrunks (s : State) (t : Trunks) : State := { s with trunks := t }

/-- Replaces the seat records. -/
def State.setSeats (s : State) (r : Vector (Option SeatRecord) 512) : State := { s with seats := r }

/-- Replaces the request queue unit's state. -/
def State.setQueue (s : State) (q : RequestQueue) : State := { s with queue := q }

/-- Replaces the floor allocator's state. -/
def State.setFloor (s : State) (f : Floor) : State := { s with floor := f }

/-- Replaces the allowance unit's state. -/
def State.setAllowance (s : State) (a : Allowance) : State := { s with allowance := a }

/-- Replaces the profile unit's state. -/
def State.setProfiles (s : State) (p : Profiles) : State := { s with profiles := p }

/-- Replaces the queue of waiting commands. -/
def State.setPending (s : State) (q : List Instr) : State := { s with pending := q }

/-- Replaces the draw counter. -/
def State.setDraws (s : State) (n : Nat) : State := { s with draws := n }

end Sys2Proof.Machine
end

