-- ==== Sys2Proof/Machine/Flags.lean ====
section
/-! DEFINITION. The condition summary: which of its bits are set, worked out from the state of their owners (R157), and
the byte that carries it. -/

namespace Sys2Proof.Machine

/-- The six summary bits that mirror other units' state (R157). The order unit keeps no copy of them. -/
structure OwnerBits where
  lowPending : Bool
  recoveredPending : Bool
  blockedPresent : Bool
  queueFull : Bool
  listDraining : Bool
  priorityActive : Bool
  deriving DecidableEq, Repr

/-- The priority hold count: the chair records whose priority held is yes (R92). -/
def Floor.holdCount (f : Floor) : Nat := f.chairs.countP (·.held)

/-- The priority hold count of the part (R92). -/
def holdCount (s : State) : Nat := s.floor.holdCount

/-- QUEUE_FULL is set while the queue holds 128 entries (R75). -/
def RequestQueue.isFull (q : RequestQueue) : Bool := decide (Config.queueLimit ≤ q.entries.length)

/-- The list is DRAINING (R147). -/
def RequestQueue.draining (q : RequestQueue) : Bool := q.list == .draining

/-- The six owned bits as their owners' state gives them. -/
def ownerBits (s : State) : OwnerBits where
  lowPending := !s.allowance.lowList.isEmpty
  recoveredPending := !s.allowance.recovered.isEmpty
  blockedPresent := !s.trunks.blocked.isEmpty
  queueFull := s.queue.isFull
  listDraining := s.queue.draining
  priorityActive := decide (0 < holdCount s)

/-- The summary, given the owned bits and the order unit's own two latches. -/
def Link.summary (o : OwnerBits) (l : Link) : Summary where
  lowPending := o.lowPending
  recoveredPending := o.recoveredPending
  blockedPresent := o.blockedPresent
  queueFull := o.queueFull
  listDraining := o.listDraining
  priorityActive := o.priorityActive
  noticesLost := l.lost
  orderDropped := l.dropped

/-- The condition summary of the part (R157). -/
def summary (s : State) : Summary := s.link.summary (ownerBits s)

/-- The summary byte: LOW_PENDING in place 0 up to ORDER_DROPPED in place 7 (section 11.1). -/
def Summary.byte (b : Summary) : Byte :=
  bitAt 0 b.lowPending ||| bitAt 1 b.recoveredPending ||| bitAt 2 b.blockedPresent ||| bitAt 3 b.queueFull |||
    bitAt 4 b.listDraining ||| bitAt 5 b.priorityActive ||| bitAt 6 b.noticesLost ||| bitAt 7 b.orderDropped

end Sys2Proof.Machine
end

