-- ==== Sys2Proof/Machine/Operands.lean ====
section
/-! DEFINITION. The fields of order bodies: every operand form an order can carry and the range it must lie in (R168,
section 11.3), and the codes of the enumerated values. A field out of range reads as none; the order's own rule says when it is
tested. -/

namespace Sys2Proof.Machine

/-! ### Numbers -/

/-- A seat number 0–511. -/
def seatOf (h : Half) : Option Seat := if lt : h.toNat < 512 then some ⟨h.toNat, lt⟩ else none

/-- An account number 0–575. -/
def accountNoOf (h : Half) : Option AccountNo := if lt : h.toNat < 576 then some ⟨h.toNat, lt⟩ else none

/-- A wing 0–3. -/
def wingOf (b : Byte) : Option Wing := if lt : b.toNat < 4 then some ⟨b.toNat, lt⟩ else none

/-- The position of a number 1–128. -/
def posOf (n : Nat) : Option Pos := if ok : 1 ≤ n ∧ n ≤ 128 then some ⟨n - 1, by omega⟩ else none

/-- The number of a position, 1–128. -/
def posNumber (p : Pos) : Nat := p.val + 1

/-- The slot of a number 1–8. -/
def slotOfNumber (n : Nat) : Option SlotNo := if ok : 1 ≤ n ∧ n ≤ 8 then some ⟨n - 1, by omega⟩ else none

/-- The number of a slot, 1–8. -/
def slotNumber (n : SlotNo) : Nat := n.val + 1

/-- A profile number 0–15. -/
def profileNoOf (b : Byte) : Option ProfileNo := if lt : b.toNat < 16 then some ⟨b.toNat, lt⟩ else none

/-- A delegation 0–64. -/
def delegationOf (b : Byte) : Option (Fin 65) := if lt : b.toNat < 65 then some ⟨b.toNat, lt⟩ else none

/-- A count that must lie in `low`–`high`. -/
def numberIn (low high n : Nat) : Option Nat := if low ≤ n ∧ n ≤ high then some n else none

/-! ### Enumerated values -/

/-- Yes and no are carried as 1 and 0 (R168). -/
def yesNoOf (b : Byte) : Option Bool := if b = 0 then some false else if b = 1 then some true else none

/-- The class codes. -/
def seatClassOf (b : Byte) : Option SeatClass :=
  if b = 0 then some .vacant
  else if b = 1 then some .delegate
  else if b = 2 then some .chair
  else if b = 3 then some .listener
  else none

/-- The direction codes. -/
def directionOf (b : Byte) : Option Direction := if b = 0 then some .write else if b = 1 then some .read else none

/-- The entry kind codes. -/
def entryKindOf (b : Byte) : Option EntryKind := if b = 0 then some .ordinary else if b = 1 then some .priority else none

/-- The selection source codes. -/
def sourceOf (b : Byte) : Option ProfileSource :=
  if b = 0 then some .internal else if b = 1 then some .external else none

/-- The mode codes. -/
def modeOf (b : Byte) : Option Mode :=
  if b = 0 then some .open
  else if b = 1 then some .override
  else if b = 2 then some .queue
  else if b = 3 then some .voice
  else none

/-- The allowance mode codes. -/
def allowanceModeOf (b : Byte) : Option AllowanceMode :=
  if b = 0 then some .off else if b = 1 then some .warn else if b = 2 then some .cut else none

/-- The lock kind codes. -/
def lockKindOf (b : Byte) : Option LockKind := if b = 0 then some .soft else if b = 1 then some .hard else none

/-- The priority action codes. -/
def priorityActionOf (b : Byte) : Option PriorityAction := if b = 0 then some .mute else if b = 1 then some .close else none

/-! ### Optional fields and records -/

/-- A reply target of QUEUE ADD: absent for 0xFFFF alone, otherwise a seat number (R168). -/
def targetOf (h : Half) : Option (Option Seat) := if h = 0xFFFF then some none else (seatOf h).map some

/-- A location: absent for wing 0xFF with position 0 alone, otherwise a wing and a position in range (R168). -/
def locationOf (wing position : Byte) : Option (Option Place) :=
  if wing = 0xFF ∧ position = 0 then some none
  else match wingOf wing, posOf position.toNat with
    | some w, some p => some (some ⟨w, p⟩)
    | _, _ => none

/-- A plan record with every field in range (R8, test 3). -/
def planRecordOf (cls locWing locPosition delegation voice : Byte) : Option PlanRecord :=
  match seatClassOf cls, locationOf locWing locPosition, delegationOf delegation, yesNoOf voice with
  | some c, some l, some d, some v => some ⟨c, l, d, v⟩
  | _, _, _, _ => none

/-- The five yes/no and enumerated fields at the head and the tail of a profile record that decide how it is read. -/
structure ProfileChoices where
  mode : Mode
  autoAdvance : Bool
  queueWhenFull : Bool
  speakerMayClose : Bool
  allowanceMode : AllowanceMode
  lockKind : LockKind
  priorityAction : PriorityAction

/-- The enumerated fields of a profile record, when each holds one of its codes. -/
def profileChoicesOf (r : RawProfile) : Option ProfileChoices :=
  match modeOf r.mode, yesNoOf r.autoAdvance, yesNoOf r.queueWhenFull, yesNoOf r.speakerMayClose,
    allowanceModeOf r.allowanceMode, lockKindOf r.lockKind, priorityActionOf r.priorityAction with
  | some m, some a, some q, some c, some w, some k, some p => some ⟨m, a, q, c, w, k, p⟩
  | _, _, _, _, _, _, _ => none

/-- Every numeric field of a profile record lies in its range, and the warning lead is at most a nonzero speech limit
(R135, R137). -/
def profileNumbersOk (r : RawProfile) : Bool :=
  decide (1 ≤ r.speakerLimit.toNat ∧ r.speakerLimit.toNat ≤ 8)
    && decide (r.speechLimit.toNat ≤ 36000)
    && decide (r.warningLead.toNat ≤ 600)
    && decide (5 ≤ r.longPress.toNat ∧ r.longPress.toNat ≤ 50)
    && decide (r.voiceStep.toNat ≤ 7)
    && decide (1 ≤ r.voiceAttack.toNat ∧ r.voiceAttack.toNat ≤ 8)
    && decide (5 ≤ r.voiceRelease.toNat ∧ r.voiceRelease.toNat ≤ 100)
    && decide (48 ≤ r.howlLimit.toNat ∧ r.howlLimit.toNat ≤ 64)
    && decide (1 ≤ r.howlCount.toNat ∧ r.howlCount.toNat ≤ 15)
    && decide (r.blankCount.toNat ≤ 31)
    && decide (1 ≤ r.softRelease.toNat ∧ r.softRelease.toNat ≤ 15)
    && decide (r.speechLimit.toNat = 0 ∨ r.warningLead.toNat ≤ r.speechLimit.toNat)

/-- The profile record of raw fields, or none where R137 refuses it. -/
def profileOf (r : RawProfile) : Option Profile :=
  if profileNumbersOk r then
    (profileChoicesOf r).map fun c =>
      { mode := c.mode
        speakerLimit := r.speakerLimit.toNat
        autoAdvance := c.autoAdvance
        queueWhenFull := c.queueWhenFull
        speakerMayClose := c.speakerMayClose
        speechLimit := r.speechLimit.toNat
        warningLead := r.warningLead.toNat
        allowanceMode := c.allowanceMode
        longPress := r.longPress.toNat
        voiceStep := r.voiceStep.toNat
        voiceAttack := r.voiceAttack.toNat
        voiceRelease := r.voiceRelease.toNat
        howlLimit := r.howlLimit.toNat
        howlCount := r.howlCount.toNat
        blankCount := r.blankCount.toNat
        lockKind := c.lockKind
        softRelease := r.softRelease.toNat
        priorityAction := c.priorityAction }
  else none

/-! ### Codes of enumerated values (section 11.3) -/

def SeatClass.code : SeatClass → Byte
  | .vacant => 0 | .delegate => 1 | .chair => 2 | .listener => 3

def ProfileSource.code : ProfileSource → Byte
  | .internal => 0 | .external => 1

def EntryKind.code : EntryKind → Byte
  | .ordinary => 0 | .priority => 1

def EntrySource.code : EntrySource → Byte
  | .press => 0 | .longPress => 1 | .link => 2

def SlotCondition.code : SlotCondition → Byte
  | .open => 0 | .muted => 1 | .softLocked => 2

def Origin.code : Origin → Byte
  | .press => 0 | .queue => 1 | .next => 2 | .link => 3 | .voice => 4

def CloseReason.code : CloseReason → Byte
  | .seat => 0 | .link => 1 | .chair => 2 | .time => 3 | .allowance => 4 | .silence => 5 | .howl => 6 | .replaced => 7
  | .profile => 8 | .mask => 9 | .lost => 10 | .plan => 11 | .priority => 12

def LeaveReason.code : LeaveReason → Byte
  | .granted => 0 | .seat => 1 | .link => 2 | .lost => 3 | .plan => 4 | .emptied => 5 | .drainSkipped => 6

def RefusalCause.code : RefusalCause → Byte
  | .locked => 0 | .masked => 1 | .draining => 2 | .full => 3 | .noSlot => 4 | .priority => 5 | .empty => 6

def SeatEvent.code : SeatEvent → Byte
  | .shortPress => 0 | .longPress => 1 | .talk => 2 | .next => 3

def BlockKind.code : BlockKind → Byte
  | .location => 0 | .duplicate => 1 | .unbound => 2 | .type => 3

/-- The presence codes; ABSENT is 0. -/
def Presence.code : Presence → Byte
  | .settling => 1 | .ready => 2 | .blocked _ => 3

/-- The block kind byte of a presence: 0xFF for a unit that is not BLOCKED. -/
def Presence.blockByte : Presence → Byte
  | .blocked k => k.code
  | _ => 0xFF

/-- The unit type codes. -/
def unitTypeCode : UnitType → Byte
  | .delegateUnit => 0 | .chairUnit => 1

def AssignFailure.code : AssignFailure → Byte
  | .timeout => 0 | .lost => 1 | .restart => 2

def ChangeCause.code : ChangeCause → Byte
  | .select => 0 | .source => 1 | .pins => 2 | .put => 3

def Mode.code : Mode → Byte
  | .open => 0 | .override => 1 | .queue => 2 | .voice => 3

def AllowanceMode.code : AllowanceMode → Byte
  | .off => 0 | .warn => 1 | .cut => 2

def LockKind.code : LockKind → Byte
  | .soft => 0 | .hard => 1

def PriorityAction.code : PriorityAction → Byte
  | .mute => 0 | .close => 1

def MicCommand.code : MicCommand → Byte
  | .closed => 0 | .mute => 1 | .open => 2

def Indicator.code : Indicator → Byte
  | .off => 0 | .request => 1 | .first => 2 | .speaking => 3 | .warning => 4 | .muted => 5 | .refused => 6 | .locked => 7
  | .blocked => 8

def ResultCode.code : ResultCode → Byte
  | .ok => 0 | .check => 1 | .unknown => 2 | .badLength => 3 | .badValue => 4 | .limit => 5 | .atEnd => 6
  | .wrongDirection => 7 | .full => 8 | .empty => 9 | .held => 10 | .notEligible => 11 | .notPermitted => 12 | .busy => 13
  | .absent => 14 | .notFound => 15 | .noLimit => 16

/-- Yes and no as a byte. -/
def boolByte (b : Bool) : Byte := if b then 1 else 0

/-- A number in one byte. -/
def byteOf (n : Nat) : Byte := BitVec.ofNat 8 n

/-- A number in two bytes. -/
def halfOf (n : Nat) : List Byte := halfBytes (BitVec.ofNat 16 n)

/-- A seat number in two bytes. -/
def seatBytes (s : Seat) : List Byte := halfOf s.val

/-- An optional seat in two bytes, 0xFFFF for none: a reply target, or a reported address with none for BLANK. -/
def optionalSeatBytes (s : Option Seat) : List Byte := halfBytes (addressHalf s)

/-- A wing and a position, one byte each. -/
def placeBytes (p : Place) : List Byte := [byteOf p.wing.val, byteOf (posNumber p.pos)]

end Sys2Proof.Machine
end

