-- ==== Sys2Proof/Machine/Formats.lean ====
section
/-! DEFINITION. The bytes the part sends: the frames of answers, of the CONDITIONS notice and of the notices on the
control link (sections 11.1 and 11.2), and the poll frame on a trunk (section 11.4). -/

namespace Sys2Proof.Machine

/-- The kind codes of notices (section 11.1). -/
def NoticeBody.kind : NoticeBody → Byte
  | .floorOpened .. => 0x60
  | .floorClosed .. => 0x61
  | .chairMic .. => 0x62
  | .priorityOn .. => 0x63
  | .priorityOff .. => 0x64
  | .queueEntered .. => 0x65
  | .queueLeft .. => 0x66
  | .queuePromoted .. => 0x67
  | .pressRefused .. => 0x68
  | .speechWarning .. => 0x69
  | .howlLock .. => 0x6A
  | .howlClear .. => 0x6B
  | .seatReady .. => 0x6C
  | .seatLost .. => 0x6D
  | .seatBlocked .. => 0x6E
  | .assignDone .. => 0x6F
  | .assignFailed .. => 0x70
  | .listDrained .. => 0x71
  | .profileChanged .. => 0x72
  | .restarted => 0x7F

/-- The kind code of the CONDITIONS notice. -/
def conditionsKind : Byte := 0x73

/-- The kind code of the REJECT answer. -/
def rejectKind : Byte := 0xFF

/-- Whether the notice mask lets a notice be queued (R159): place n enables kind 0x60 + n, and RESTARTED stands outside
the mask (R165). -/
def NoticeBody.enabled (mask : BitVec 24) : NoticeBody → Bool
  | .restarted => true
  | b => mask.getLsbD (b.kind.toNat - 0x60)

/-- Whether the notice mask enables the CONDITIONS notice (R160). -/
def conditionsEnabled (mask : BitVec 24) : Bool := mask.getLsbD (conditionsKind.toNat - 0x60)

/-- The data of a notice after its floor clock (section 11.2). -/
def NoticeBody.data : NoticeBody → List Byte
  | .floorOpened slot seat origin g d time =>
    byteOf (slotNumber slot) :: seatBytes seat ++ [origin.code, boolByte g, boolByte d] ++ wordBytes time
  | .floorClosed slot seat reason origin elapsed =>
    byteOf (slotNumber slot) :: seatBytes seat ++ [reason.code, origin.code] ++ halfOf elapsed
  | .chairMic seat isOpen => seatBytes seat ++ [boolByte isOpen]
  | .priorityOn seat => seatBytes seat
  | .priorityOff seat => seatBytes seat
  | .queueEntered seat kind source place target renewed =>
    seatBytes seat ++ [kind.code, source.code, byteOf place] ++ optionalSeatBytes target ++ [boolByte renewed]
  | .queueLeft seat kind reason place => seatBytes seat ++ [kind.code, reason.code, byteOf place]
  | .queuePromoted seat place => seatBytes seat ++ [byteOf place]
  | .pressRefused seat event cause => seatBytes seat ++ [event.code, cause.code]
  | .speechWarning slot seat remaining limit =>
    byteOf (slotNumber slot) :: seatBytes seat ++ halfOf remaining ++ halfOf limit
  | .howlLock seat kind strikes => seatBytes seat ++ [kind.code, byteOf strikes]
  | .howlClear seat condition => seatBytes seat ++ [condition.code]
  | .seatReady place seat unit => placeBytes place ++ seatBytes seat ++ [unitTypeCode unit]
  | .seatLost place addr presence => placeBytes place ++ optionalSeatBytes addr ++ [presence.code]
  | .seatBlocked place addr kind => placeBytes place ++ optionalSeatBytes addr ++ [kind.code]
  | .assignDone place seat presence => placeBytes place ++ seatBytes seat ++ [presence.code]
  | .assignFailed place seat cause => placeBytes place ++ seatBytes seat ++ [cause.code]
  | .listDrained skips => [byteOf skips]
  | .profileChanged now before cause source => [byteOf now.val, byteOf before.val, cause.code, source.code]
  | .restarted => []

/-- SYNC, the first byte of every frame on the control link. -/
def syncByte : Byte := 0x7E

/-- The bytes of a frame on TXD, from SYNC to CHECK. -/
def TxFrame.bytes : TxFrame → List Byte
  | .answer a => syncByte :: encodeFrame a.kind (a.code.code :: a.summary.byte :: a.data)
  | .conditions clock b => syncByte :: encodeFrame conditionsKind (wordBytes clock ++ [b.byte])
  | .notice n => syncByte :: encodeFrame n.body.kind (wordBytes n.clock ++ n.body.data)

/-- The seven bytes of a poll frame on a trunk (section 11.4): without a store request the seat bytes are 0. That places 2–6
of the control byte are sent clear is the model's choice (log entry 38). -/
def Poll.bytes (p : Poll) : List Byte :=
  let store : Half := match p.store with
    | some seat => BitVec.ofNat 16 seat.val
    | none => 0
  let body := [byteOf (posNumber p.pos), p.mic.code ||| bitAt 7 p.store.isSome, p.indicator.code] ++ halfBytes store
  0xA5 :: body ++ [checkOf body]

/-- The five bytes of a plan record (section 11.2). -/
def PlanRecord.bytes (r : PlanRecord) : List Byte :=
  let location := match r.location with
    | some p => placeBytes p
    | none => [0xFF, 0]
  r.cls.code :: location ++ [byteOf r.delegation.val, boolByte r.voice]

/-- The twenty bytes of a profile record (section 11.2). -/
def Profile.bytes (p : Profile) : List Byte :=
  [p.mode.code, byteOf p.speakerLimit, boolByte p.autoAdvance, boolByte p.queueWhenFull, boolByte p.speakerMayClose]
    ++ halfOf p.speechLimit ++ halfOf p.warningLead
    ++ [p.allowanceMode.code, byteOf p.longPress, byteOf p.voiceStep, byteOf p.voiceAttack, byteOf p.voiceRelease,
        byteOf p.howlLimit, byteOf p.howlCount, byteOf p.blankCount, p.lockKind.code, byteOf p.softRelease,
        p.priorityAction.code]

/-- The ATTN pin (R163, R170): asserted while the notice queue is not empty or the CONDITIONS flag is set, released while
RESET is held low. -/
def attn (s : State) : Bool := !s.resetHeld && (!s.link.notices.isEmpty || s.link.conditions)

/-- The frame on TXD: none while the transmitter is idle (R162). -/
def transmitting (s : State) : Option (List Byte) :=
  match s.link.tx with
  | .idle => none
  | .sending f => some f.bytes

end Sys2Proof.Machine
end

