-- ==== Sys2Proof/Machine/Ops.lean ====
section
/-! DEFINITION. The operations the commands share: posting a notice and raising the CONDITIONS flag, reading and writing
the tables of the units, the queue's joins and removals, the drain end test, the opening path, the close path, the
advance check, the chair microphones and the priority hold. Each is written once, from its rule. -/

namespace Sys2Proof.Machine

/-! ### Tables -/

/-- A table with one place rewritten. -/
def put {α : Type} {n : Nat} (v : Vector α n) (i : Fin n) (x : α) : Vector α n := v.set i.val x i.isLt

/-! ### The order unit: notices and the CONDITIONS flag -/

/-- An answer of the order STATUS, built because the order was taken (R158, log entry 4). -/
def Answer.isStatus (a : Answer) : Bool := a.kind == 0x81 && a.code == .ok

/-- A STATUS answer waits in the answer register or is being sent (R158). -/
def Link.statusOutstanding (l : Link) : Bool :=
  (match l.answer with
    | .full a => a.isStatus
    | _ => false)
  || (match l.tx with
    | .sending (.answer a) => a.isStatus
    | _ => false)

/-- The idle transmitter starts on what waits beside an answer: the CONDITIONS notice, else the oldest notice (R162).
While an answer waits or is owed, no notice is started. -/
def Link.startWaiting (o : OwnerBits) (l : Link) : Link :=
  if l.tx = .idle ∧ l.answer = .empty then
    if l.conditions then { l with conditions := false, tx := .sending (.conditions l.clock (l.summary o)) }
    else match l.notices with
      | [] => l
      | n :: rest => { l with notices := rest, tx := .sending (.notice n) }
  else l

/-- A change of the condition summary sets the CONDITIONS flag while CONDITIONS is unmasked (R160). -/
def Link.raise (o : OwnerBits) (l : Link) : Link :=
  if conditionsEnabled l.mask then Link.startWaiting o { l with conditions := true } else l

/-- A notice finds the queue full: NOTICES_LOST is set, and renewed while a STATUS answer is outstanding (R158, R159). -/
def Link.loseNotice (o : OwnerBits) (l : Link) : Link :=
  let set := { l with lost := true, lostMark := l.lostMark || l.statusOutstanding }
  if l.lost then set else set.raise o

/-- A frame is dropped: ORDER_DROPPED is set, and renewed while a STATUS answer is outstanding (R154, R158). -/
def Link.dropFrame (o : OwnerBits) (l : Link) : Link :=
  let set := { l with dropped := true, droppedMark := l.droppedMark || l.statusOutstanding }
  if l.dropped then set else set.raise o

/-- The order unit takes a posted notice (R159). -/
def Link.post (o : OwnerBits) (b : NoticeBody) (l : Link) : Link :=
  if b.enabled l.mask then
    if l.notices.length < Config.noticeLimit then
      Link.startWaiting o { l with notices := l.notices ++ [⟨l.clock, b⟩] }
    else l.loseNotice o
  else l

/-- A unit posts a notice (R159). -/
def post (b : NoticeBody) (s : State) : State := s.setLink (s.link.post (ownerBits s) b)

/-- The order unit takes a change of an owned summary bit, given the bits as they were (R157). -/
def noteOwners (before : OwnerBits) (s : State) : State :=
  if ownerBits s = before then s else s.setLink (s.link.raise (ownerBits s))

/-- Replaces the entries of the request queue (QUEUE_FULL may change, R75). -/
def setEntries (es : List QueueEntry) (s : State) : State :=
  noteOwners (ownerBits s) (s.setQueue { s.queue with entries := es })

/-- Replaces the list state, the drain limit and the skip count (LIST_DRAINING may change, R147). -/
def setList (list : ListState) (limit : Option Nat) (s : State) : State :=
  noteOwners (ownerBits s) (s.setQueue { s.queue with list := list, drainLimit := limit, skips := 0 })

/-- Replaces the blocked-unit table (BLOCKED_PRESENT may change, R31). -/
def setBlocked (b : List BlockedEntry) (s : State) : State :=
  noteOwners (ownerBits s) (s.setTrunks { s.trunks with blocked := b })

/-- Replaces the chair records (PRIORITY_ACTIVE may change, R92). -/
def setChairs (c : List ChairRecord) (s : State) : State :=
  noteOwners (ownerBits s) (s.setFloor { s.floor with chairs := c })

/-! ### Reading the units -/

/-- The profile in force (R140). -/
def inForce (s : State) : Profile := s.profiles.records[s.profiles.inForce]

/-- The class of a seat. -/
def classOf (s : State) (seat : Seat) : SeatClass := s.plan[seat].cls

/-- The place of the unit bound to a seat; none for a seat with no READY unit (R18). -/
def placeOf (s : State) (seat : Seat) : Option Place := s.trunks.binding[seat]

/-- The seat has a bound unit in state READY. -/
def isReady (s : State) (seat : Seat) : Bool := (placeOf s seat).isSome

/-- The wing of the seat's bound unit is off the floor (R98). A seat with no bound unit has no wing (R3). -/
def isMasked (s : State) (seat : Seat) : Bool := (placeOf s seat).any fun p => !s.floor.mask.getLsbD p.wing.val

/-- The LOCKED flag of a seat (R97). -/
def isLocked (s : State) (seat : Seat) : Bool := s.floor.locked[seat]

/-- The chain table place at a position of a wing. -/
def Trunks.entryAt (t : Trunks) (p : Place) : Option ChainEntry := t.units[p.wing].chain[p.pos]

/-- The chain table with one place rewritten. -/
def Trunks.putEntry (t : Trunks) (p : Place) (e : Option ChainEntry) : Trunks :=
  let u := t.units[p.wing]
  { t with units := put t.units p.wing { u with chain := put u.chain p.pos e } }

/-- The binding map with one seat rewritten. -/
def Trunks.bind (t : Trunks) (seat : Seat) (p : Option Place) : Trunks := { t with binding := put t.binding seat p }

/-- The slot a seat holds, if any. -/
def Floor.slotOf (f : Floor) (seat : Seat) : Option SlotNo :=
  (List.finRange 8).find? fun n => (f.slots[n]).any fun sl => sl.seat == seat

/-- The condition of the slot a seat holds, if any. -/
def Floor.conditionOf (f : Floor) (seat : Seat) : Option SlotCondition :=
  match f.slotOf seat with
  | some n => (f.slots[n]).map (·.condition)
  | none => none

/-- The occupied count (R77). -/
def Floor.occupied (f : Floor) : Nat := (List.finRange 8).countP fun n => (f.slots[n]).isSome

/-- Some occupied slot has drain grant yes (R150). -/
def Floor.drainSpeaker (f : Floor) : Bool := (List.finRange 8).any fun n => (f.slots[n]).any (·.drainGrant)

/-- One occupied slot changed in place. -/
def Floor.mapSlot (f : Floor) (n : SlotNo) (g : Slot → Slot) : Floor :=
  { f with slots := put f.slots n ((f.slots[n]).map g) }

/-- The chair record of a seat. -/
def Floor.chairOf (f : Floor) (seat : Seat) : Option ChairRecord := f.chairs.find? fun c => c.seat == seat

/-- One chair record changed in place. -/
def mapChairs (seat : Seat) (g : ChairRecord → ChairRecord) (cs : List ChairRecord) : List ChairRecord :=
  cs.map fun c => if c.seat = seat then g c else c

/-- A free slot exists: the occupied count is below the speaker limit of the profile in force (R77). -/
def freeSlotExists (s : State) : Bool := decide (s.floor.occupied < (inForce s).speakerLimit)

/-- The effective limit of a slot (R108); 0 is no limit. -/
def effectiveLimit (s : State) (sl : Slot) : Nat := sl.override.getD (inForce s).speechLimit

/-- The queue entry of a seat. -/
def RequestQueue.entryOf (q : RequestQueue) (seat : Seat) : Option QueueEntry := q.entries.find? fun e => e.seat == seat

/-- The place of a seat's entry, counted from 0 at the head. -/
def RequestQueue.placeOf (q : RequestQueue) (seat : Seat) : Nat := q.entries.findIdx fun e => e.seat == seat

/-- The seat has an entry in the queue. -/
def hasEntry (s : State) (seat : Seat) : Bool := (s.queue.entryOf seat).isSome

/-- The account a seat is a member of (R119). -/
def accountOf (r : PlanRecord) (seat : Seat) : AccountNo :=
  if _zero : r.delegation.val = 0 then ⟨seat.val, by omega⟩ else ⟨511 + r.delegation.val, by omega⟩

/-! ### Eligibility -/

/-- Whether an entry may be granted now, or the cause reported when it may not (R61). -/
inductive Eligibility where
  | eligible | notDelegate | notReady | masked | locked | awaitingReply
  deriving DecidableEq, Repr

/-- The five conditions of R61 in their order; the first that fails gives the cause. -/
def eligibility (s : State) (e : QueueEntry) : Eligibility :=
  if classOf s e.seat ≠ .delegate then .notDelegate
  else if !isReady s e.seat then .notReady
  else if isMasked s e.seat then .masked
  else if isLocked s e.seat then .locked
  else if e.target.isSome && !e.heard then .awaitingReply
  else .eligible

/-- An entry is eligible (R61). -/
def isEligible (s : State) (e : QueueEntry) : Bool := eligibility s e == .eligible

/-- The first eligible entry: the eligible entry nearest the head (R61). -/
def firstEligible (s : State) : Option QueueEntry := s.queue.entries.find? (isEligible s)

/-! ### The seat input unit: blanking -/

/-- A microphone of a seat is made live: the blanking count restarts and the runs are cleared; a seat with no record is
left alone (R51). -/
def restartBlanking (seat : Seat) (s : State) : State :=
  match s.seats[seat] with
  | none => s
  | some r =>
    s.setSeats (put s.seats seat (some { r with blanking := (inForce s).blankCount, howlRun := 0, releaseRun := 0 }))

/-! ### The request queue: joining and leaving -/

/-- The entry stands in the PRIORITY group. -/
def QueueEntry.isPriority (e : QueueEntry) : Bool := e.kind == .priority

/-- An entry joins at the tail of its kind's group (R59). -/
def joinGroup (e : QueueEntry) (es : List QueueEntry) : List QueueEntry :=
  match e.kind with
  | .ordinary => es ++ [e]
  | .priority => es.takeWhile QueueEntry.isPriority ++ e :: es.dropWhile QueueEntry.isPriority

/-- The entries less the entry of a seat; the entries behind it close up (R59). -/
def dropEntry (seat : Seat) (es : List QueueEntry) : List QueueEntry := es.eraseP fun e => e.seat == seat

/-- A removal, without the drain end test: the entry leaves and QUEUE LEFT is posted (R70). A seat with no entry is left
alone. -/
def takeOut (seat : Seat) (reason : LeaveReason) (s : State) : State :=
  match s.queue.entryOf seat with
  | none => s
  | some e =>
    post (.queueLeft seat e.kind reason (s.queue.placeOf seat)) (setEntries (dropEntry seat s.queue.entries) s)

/-! ### The drain end test -/

/-- The drain is found at its end (R150). -/
def drainAtEnd (s : State) : Bool :=
  s.queue.draining && !s.floor.drainSpeaker && ((inForce s).mode == .voice || (firstEligible s).isNone)

/-- One waiting entry is skipped at the end of a drain (R151, step 1). -/
def skipEntry (s : State) (e : QueueEntry) : State :=
  let out := takeOut e.seat .drainSkipped s
  out.setQueue { out.queue with skips := out.queue.skips + 1 }

/-- The drain ends (R151). -/
def endDrain (s : State) : State :=
  let skipped := s.queue.entries.foldl skipEntry s
  setList .open none (post (.listDrained skipped.queue.skips) skipped)

/-- The drain end test (R150): a drain at its end is ended; otherwise nothing changes. -/
def drainEndTest (s : State) : State := if drainAtEnd s then endDrain s else s

/-- A removal with its drain end test (R70). -/
def leaveQueue (seat : Seat) (reason : LeaveReason) (s : State) : State :=
  if hasEntry s seat then drainEndTest (takeOut seat reason s) else s

/-! ### The opening path, the advance check and the close path -/

/-- The slot record an opening makes (R81, steps 2 and 3). -/
def newSlot (s : State) (seat : Seat) (origin : Origin) (guarded : Bool) : Slot :=
  let drain := s.queue.draining && (origin == .queue || origin == .next)
  { seat, condition := .open, origin, guarded, grantTime := s.link.clock, elapsed := 0
    override := if drain then s.queue.drainLimit else none
    warned := false, strikes := 0, drainGrant := drain }

/-- Steps 2 to 6 of the opening path, into slot `n` at the head of the free-slot order with `rest` behind it (R81). -/
def occupy (n : SlotNo) (rest : List SlotNo) (seat : Seat) (origin : Origin) (guarded : Bool) (s : State) : State :=
  let sl := newSlot s seat origin guarded
  let floor := { s.floor with slots := put s.floor.slots n (some sl), free := rest, speakers := s.floor.speakers ++ [n] }
  post (.floorOpened n seat origin guarded sl.drainGrant sl.grantTime) (restartBlanking seat (s.setFloor floor))

/-- The opening path (R81). The drain end test of the removal it begins with comes after the opening (R150). -/
def openSlot (seat : Seat) (origin : Origin) (guarded : Bool) (s : State) : State :=
  match s.floor.free with
  | [] => s
  | n :: rest =>
    if hasEntry s seat then drainEndTest (occupy n rest seat origin guarded (takeOut seat .granted s))
    else occupy n rest seat origin guarded s

/-- The entry the advance check would grant now: the first eligible entry while the conditions of R90 hold. -/
def nextToAdvance (s : State) : Option QueueEntry :=
  if ((inForce s).autoAdvance || s.queue.draining) && (inForce s).mode != .voice && holdCount s == 0 && freeSlotExists s
  then firstEligible s
  else none

/-- At most `k` grants of the advance check. -/
def advance : Nat → State → State
  | 0, s => s
  | k + 1, s =>
    match nextToAdvance s with
    | none => s
    | some e => advance k (openSlot e.seat .queue false s)

/-- The advance check (R90). Each grant takes one of the eight slots, so eight rounds reach the end of a run. -/
def advanceCheck (s : State) : State := advance 8 s

/-- The entries bound to a seat hear its speech close (R68). -/
def hearEntry (target : Seat) (e : QueueEntry) : QueueEntry :=
  if e.target = some target then { e with heard := true } else e

/-- The queue is told of a close: heard is set, then the drain end test is made (R68, R82 step 3). -/
def tellClose (seat : Seat) (s : State) : State :=
  drainEndTest (s.setQueue { s.queue with entries := s.queue.entries.map (hearEntry seat) })

/-- Steps 1 to 3 of the close path (R82). A free slot is left alone. -/
def closeSlot (n : SlotNo) (reason : CloseReason) (s : State) : State :=
  match s.floor.slots[n] with
  | none => s
  | some sl =>
    let floor := { s.floor with
      slots := put s.floor.slots n none, speakers := s.floor.speakers.erase n, free := n :: s.floor.free }
    tellClose sl.seat (post (.floorClosed n sl.seat reason sl.origin sl.elapsed) (s.setFloor floor))

/-- A close request without step 4 of the close path, for a rule that makes one advance check later (R82, R83). -/
def closeSeatQuiet (seat : Seat) (reason : CloseReason) (s : State) : State :=
  match s.floor.slotOf seat with
  | none => s
  | some n => closeSlot n reason s

/-- A close request: the slot of a seat goes through the whole close path, or nothing happens (R83). -/
def closeSeat (seat : Seat) (reason : CloseReason) (s : State) : State :=
  match s.floor.slotOf seat with
  | none => s
  | some n => advanceCheck (closeSlot n reason s)

/-- A group of slots closed in order, with one advance check after the last close, when one was made. -/
def closeGroup (ns : List SlotNo) (reason : CloseReason) (s : State) : State :=
  ns.foldl (fun s n => closeSlot n reason s) s

/-! ### Reply bindings and requests to join -/

/-- An entry loses its binding to a seat (R69). -/
def unbindEntry (target : Seat) (e : QueueEntry) : QueueEntry :=
  if e.target = some target then { e with target := none, heard := false } else e

/-- A drop request (R69): every binding to the seat goes, the drain end test follows when one went, and the queue asks
for the advance check when an unbound entry is now eligible, unless a deferred check will meet the request (R90). -/
def dropBindings (target : Seat) (deferred : Bool) (s : State) : State :=
  let bound := s.queue.entries.filter fun e => e.target == some target
  if bound.isEmpty then s
  else
    let dropped := s.setQueue { s.queue with entries := s.queue.entries.map (unbindEntry target) }
    let tested := drainEndTest dropped
    if !deferred && bound.any (fun e => isEligible dropped (unbindEntry target e)) then advanceCheck tested else tested

/-- An entry joins, new or renewed: QUEUE ENTERED is posted, and the queue asks for the advance check when the entry is
eligible (R62, R63, R66). -/
def enterQueue (e : QueueEntry) (renewed : Bool) (s : State) : State :=
  let joined := setEntries (joinGroup e (dropEntry e.seat s.queue.entries)) s
  let posted := post (.queueEntered e.seat e.kind e.source (joined.queue.placeOf e.seat) e.target renewed) joined
  if isEligible posted e then advanceCheck posted else posted

/-! ### Refused seat events -/

/-- The unit bound to a seat shows REFUSED: its refusal count becomes 20 (R39). A seat with no bound unit sets
nothing. -/
def showRefused (seat : Seat) (s : State) : State :=
  match placeOf s seat with
  | none => s
  | some p =>
    match s.trunks.entryAt p with
    | none => s
    | some e => s.setTrunks (s.trunks.putEntry p (some { e with refusal := Config.refusalDecis }))

/-- The allocator refuses a seat event (R89). -/
def refuse (seat : Seat) (event : SeatEvent) (cause : RefusalCause) (s : State) : State :=
  showRefused seat (post (.pressRefused seat event cause) s)

/-- An enqueue request made by a press: the queue takes it, or hands back a cause with which the press is refused (R63,
R85). -/
def enqueuePress (seat : Seat) (kind : EntryKind) (event : SeatEvent) (s : State) : State :=
  if s.queue.draining then refuse seat event .draining s
  else if s.queue.isFull then refuse seat event .full s
  else
    let source := match kind with
      | .ordinary => EntrySource.press
      | .priority => EntrySource.longPress
    enterQueue ⟨seat, kind, none, false, s.link.clock, source⟩ false s

/-! ### Chair microphones and the priority hold -/

/-- A chair microphone opens (R91): soft muted no, soft strikes 0, blanking restarted, CHAIR MIC posted. -/
def openChair (seat : Seat) (s : State) : State :=
  let opened := setChairs (mapChairs seat (fun c => { c with micOpen := true, softMuted := false, strikes := 0 })
    s.floor.chairs) s
  post (.chairMic seat true) (restartBlanking seat opened)

/-- A chair microphone closes (R91): soft muted no, CHAIR MIC posted. -/
def closeChair (seat : Seat) (s : State) : State :=
  post (.chairMic seat false)
    (setChairs (mapChairs seat (fun c => { c with micOpen := false, softMuted := false }) s.floor.chairs) s)

/-- A chair whose microphone a hold may open: its seat has a READY unit and is not LOCKED (R93, R94). -/
def chairMayOpen (s : State) (seat : Seat) : Bool := isReady s seat && !isLocked s seat

/-- A chair record at the start of a hold (R93, step 3). -/
def holdChair (s : State) (seat : Seat) : State :=
  match s.floor.chairOf seat with
  | none => s
  | some c =>
    let kept := setChairs (mapChairs seat (fun c => { c with afterHold := c.micOpen }) s.floor.chairs) s
    if !c.micOpen && chairMayOpen s seat then openChair seat kept else kept

/-- A chair record at the end of a hold (R94, step 3). -/
def releaseChair (s : State) (seat : Seat) : State :=
  match s.floor.chairOf seat with
  | none => s
  | some c =>
    if c.micOpen && !c.afterHold then closeChair seat s
    else if !c.micOpen && c.afterHold && chairMayOpen s seat then openChair seat s
    else s

/-- An OPEN slot becomes MUTED (R93, step 2). -/
def muteSlot (s : State) (n : SlotNo) : State :=
  s.setFloor (s.floor.mapSlot n fun sl => if sl.condition = .open then { sl with condition := .muted } else sl)

/-- A MUTED slot becomes OPEN, with blanking restarted (R94, step 2). -/
def unmuteSlot (s : State) (n : SlotNo) : State :=
  match s.floor.slots[n] with
  | some sl =>
    if sl.condition = .muted then
      restartBlanking sl.seat (s.setFloor (s.floor.mapSlot n fun sl => { sl with condition := .open }))
    else s
  | none => s

/-- An occupied slot is closed by the whole close path at the start of a hold (R93, step 2). -/
def closeForHold (s : State) (n : SlotNo) : State := advanceCheck (closeSlot n .priority s)

/-- The start of a hold (R93). -/
def startHold (seat : Seat) (s : State) : State :=
  let announced := post (.priorityOn seat) s
  let silenced := match (inForce announced).priorityAction with
    | .mute => announced.floor.speakers.foldl muteSlot announced
    | .close => announced.floor.speakers.foldl closeForHold announced
  (silenced.floor.chairs.map (·.seat)).foldl holdChair silenced

/-- The end of a hold (R94). -/
def endHold (seat : Seat) (s : State) : State :=
  let announced := post (.priorityOff seat) s
  let reopened := announced.floor.speakers.foldl unmuteSlot announced
  advanceCheck ((reopened.floor.chairs.map (·.seat)).foldl releaseChair reopened)

/-- Sets a chair's priority held (R92). -/
def setHeld (seat : Seat) (held : Bool) (s : State) : State :=
  setChairs (mapChairs seat (fun c => { c with held := held }) s.floor.chairs) s

/-- A chair's counted hold is taken off the count; the count going from 1 to 0 ends the hold (R92). -/
def lowerHold (seat : Seat) (s : State) : State :=
  match s.floor.chairOf seat with
  | none => s
  | some c =>
    if c.held then
      let lowered := setHeld seat false s
      if holdCount lowered = 0 then endHold seat lowered else lowered
    else s

/-- A chair's hold is counted; the count going from 0 to 1 starts a hold (R92). -/
def raiseHold (seat : Seat) (s : State) : State :=
  match s.floor.chairOf seat with
  | none => s
  | some _ =>
    let raised := setHeld seat true s
    if holdCount s = 0 then startHold seat raised else raised

/-- A chair unit is withdrawn (R91): its microphone closes, then its hold is taken off the count. -/
def withdrawChair (seat : Seat) (s : State) : State :=
  match s.floor.chairOf seat with
  | none => s
  | some c =>
    let closed := if c.micOpen then closeChair seat s else s
    let cleared := setChairs (mapChairs seat (fun c => { c with softMuted := false, strikes := 0, afterHold := false })
      closed.floor.chairs) closed
    lowerHold seat cleared

/-! ### LOCKED flags -/

/-- Sets or clears the LOCKED flag of a seat (R97). -/
def setLocked (seat : Seat) (locked : Bool) (s : State) : State :=
  s.setFloor { s.floor with locked := put s.floor.locked seat locked }

/-! ### A change of the profile in force -/

/-- At most `k` closes of the slot at the tail of the speaker list, while the occupied count is above the speaker limit
(R99). -/
def reduce : Nat → State → State
  | 0, s => s
  | k + 1, s =>
    if (inForce s).speakerLimit < s.floor.occupied then
      match s.floor.speakers.getLast? with
      | none => s
      | some n => reduce k (closeSlot n .profile s)
    else s

/-- The allocator is told of a change of the profile in force (R99). -/
def reduceFloor (s : State) : State := advanceCheck (reduce 8 s)

/-- A change of the profile in force, from step 1 on (R144). -/
def changeProfile (now : ProfileNo) (cause : ChangeCause) (s : State) : State :=
  let before := s.profiles.inForce
  let set := s.setProfiles { s.profiles with inForce := now }
  reduceFloor (post (.profileChanged now before cause s.profiles.source) set)

/-! ### What an order answers -/

/-- The outcome of an order at the unit that takes it: the state, the result code and the answer data (R155). -/
structure Taken where
  state : State
  code : ResultCode
  data : List Byte

/-- An order refused with a code; it changes nothing. -/
def refusedWith (code : ResultCode) (s : State) : Taken := ⟨s, code, []⟩

/-- An order answered OK. -/
def answeredOk (s : State) (data : List Byte) : Taken := ⟨s, .ok, data⟩

/-- The effect of an event: none while RESET is held low (R170). -/
def whileRunning (s : State) (f : State → State) : Host.Outcome State Fault Refusal :=
  if s.resetHeld then .next s else .next (f s)

end Sys2Proof.Machine
end

