-- ==== Sys2Proof/Machine/Allowance.lean ====
section
/-! DEFINITION. The allowance unit (chapter 7): the deci expiry of the accounts, the crossing test with the Low and
Recovered lists, and the account orders. -/

namespace Sys2Proof.Machine

/-! ### Lists and crossings -/

/-- Replaces the Low list (LOW_PENDING may change, R127). -/
def setLow (l : List AccountNo) (s : State) : State :=
  noteOwners (ownerBits s) (s.setAllowance { s.allowance with lowList := l })

/-- Replaces the Recovered list (RECOVERED_PENDING may change, R127). -/
def setRecovered (l : List AccountNo) (s : State) : State :=
  noteOwners (ownerBits s) (s.setAllowance { s.allowance with recovered := l })

/-- Rewrites an account record. -/
def setAccount (a : AccountNo) (r : Account) (s : State) : State :=
  s.setAllowance { s.allowance with accounts := put s.allowance.accounts a r }

/-- The crossing test (R126): an account moves between NORMAL and LOW, off one list and to the tail of the other. -/
def crossingTest (a : AccountNo) (s : State) : State :=
  let r := s.allowance.accounts[a]
  if !r.low && decide (r.balance ≤ r.threshold) then
    let off := setRecovered (s.allowance.recovered.filter fun x => x ≠ a) (setAccount a { r with low := true } s)
    setLow (off.allowance.lowList ++ [a]) off
  else if r.low && decide ((r.threshold : Int) + r.delta ≤ r.balance) then
    let off := setLow (s.allowance.lowList.filter fun x => x ≠ a) (setAccount a { r with low := false } s)
    setRecovered (off.allowance.recovered ++ [a]) off
  else s

/-! ### The deci expiry -/

/-- The slots held by the members of an account, in speaker-list order (R119, R120). -/
def memberSlots (s : State) (a : AccountNo) : List Slot :=
  (s.floor.speakers.filterMap fun n => s.floor.slots[n]).filter fun sl => accountOf s.plan[sl.seat] sl.seat == a

/-- The members of an account that are live: k_u of R120. -/
def liveMembers (s : State) (a : AccountNo) : Nat := (memberSlots s a).countP fun sl => sl.condition == .open

/-- The members of an account that hold a slot: k_h of R120. -/
def holdingMembers (s : State) (a : AccountNo) : Nat := (memberSlots s a).length

/-- The consume step (R121, R122): the account after it. -/
def consume (mode : AllowanceMode) (live : Nat) (r : Account) : Account :=
  match mode with
  | .off => r
  | .cut => if r.balance ≤ 0 then r else { r with balance := r.balance - min (live : Int) r.balance }
  | .warn => { r with balance := max (r.balance - live) Config.deepestDebt }

/-- The accrue step (R124): the account after it. -/
def accrue (r : Account) : Account :=
  if r.balance < r.cap then
    let sum := r.remainder + r.rate
    let balance := if 600 ≤ sum then r.balance + 1 else r.balance
    let remainder := if 600 ≤ sum then sum - 600 else sum
    { r with balance := balance, remainder := if balance = r.cap then 0 else remainder }
  else r

/-- The step an account takes: consume, hold or accrue (R120). -/
def stepAccount (mode : AllowanceMode) (live holding : Nat) (r : Account) : Account :=
  if 0 < live then consume mode live r
  else if 0 < holding then r
  else accrue r

/-- Under CUT, the account calls for its holding members to be closed (R121). -/
def spent (mode : AllowanceMode) (live : Nat) (r : Account) : Bool :=
  mode == .cut && decide (0 < live) && decide ((consume mode live r).balance ≤ 0)

/-- One account at the expiry, with the member counts of the state `view` in which the expiry is taken (R120): its step,
and the crossing test when its balance changed (R126). -/
def expireAccount (view : State) (mode : AllowanceMode) (s : State) (a : AccountNo) : State :=
  let r := s.allowance.accounts[a]
  let r' := stepAccount mode (liveMembers view a) (holdingMembers view a) r
  let stepped := setAccount a r' s
  if r'.balance = r.balance then stepped else crossingTest a stepped

/-- The seats an expiry under CUT closes: in ascending order of account, and within one in speaker-list order (R125). -/
def spentSeats (view : State) (mode : AllowanceMode) : List Seat :=
  ((List.finRange 576).map fun a =>
    if spent mode (liveMembers view a) view.allowance.accounts[a] then (memberSlots view a).map (·.seat) else []).flatten

/-- The group of ALLOWANCE closes: one advance check after them when a slot closed (R125). -/
def closeSpent (seats : List Seat) (s : State) : State :=
  let closed := seats.foldl (fun s x => closeSeatQuiet x .allowance s) s
  if closed.floor.speakers.length < s.floor.speakers.length then advanceCheck closed else closed

/-- The expiry under allowance mode WARN or CUT: every account, then the closes (R120, R125). The expiry is one step: a member that
spends its account is charged and closed with ALLOWANCE in it, and another close of that slot, taken after, finds it free. Where
row 3 of the table of R134 has the expiry's own close find the slot free, its words "one after the other" are followed (log
entry 39). -/
def expireAccounts (mode : AllowanceMode) (s : State) : State :=
  closeSpent (spentSeats s mode) ((List.finRange 576).foldl (expireAccount s mode) s)

/-- ALLOWANCE_EXPIRY (R120). -/
def execAllowanceExpiry (s : State) : Host.Outcome State Fault Refusal :=
  whileRunning s fun s =>
    match (inForce s).allowanceMode with
    | .off => s
    | mode => expireAccounts mode s

/-! ### Orders -/

/-- The balance an ACCOUNT SET writes: clamped into −36000 to the cap (R131). -/
def clampBalance (cap : Nat) (b : Int) : Int := max (min b cap) Config.deepestDebt

/-- The account an ACCOUNT SET writes, before its crossing test (R131). -/
def writtenAccount (balance : Int) (cap rate low delta : Nat) (before : Account) : Account :=
  ⟨clampBalance cap balance, cap, rate, 0, low, delta, before.low⟩

/-- ACCOUNT SET (R130, R131). -/
def takeAccountSet (account : Half) (balance : BitVec 32) (cap rate low delta : Half) (s : State) : Taken :=
  match accountNoOf account, numberIn 1 36000 cap.toNat, numberIn 0 600 rate.toNat, numberIn 0 36000 low.toNat,
    numberIn 1 3000 delta.toNat with
  | some a, some c, some r, some l, some d =>
    let written := writtenAccount balance.toInt c r l d s.allowance.accounts[a]
    let tested := crossingTest a (setAccount a written s)
    answeredOk tested
      (halfBytes account ++ wordBytes (BitVec.ofInt 32 written.balance)
        ++ [boolByte (tested.allowance.accounts[a]).low, boolByte (written.balance != balance.toInt)])
  | _, _, _, _, _ => refusedWith .badValue s

/-- A balance in three bytes, two's complement (section 11.2). -/
def balanceBytes (b : Int) : List Byte := tripleBytes (BitVec.ofInt 24 b)

/-- The state code of an account: NORMAL 0, LOW 1. -/
def Account.stateByte (r : Account) : Byte := boolByte r.low

/-- The list an account stands on: NONE 0, LOW LIST 1, RECOVERED LIST 2 (section 11.3). -/
def listCode (s : State) (a : AccountNo) : Nat :=
  if s.allowance.lowList.contains a then 1 else if s.allowance.recovered.contains a then 2 else 0

/-- The flags byte of an account record: the state in place 0 and the list in places 1–2. For places 3–7 section 11.2
states no value, and they are open (log entry 2). -/
def accountFlags (s : State) (a : AccountNo) : Byte :=
  (s.allowance.accounts[a]).stateByte ||| byteOf (2 * listCode s a) ||| (Config.unstatedByte s.draws a.val &&& 0xF8)

/-- An account record of ACCOUNT READ (R132, section 11.2). -/
def accountRecord (s : State) (a : AccountNo) : List Byte :=
  let r := s.allowance.accounts[a]
  balanceBytes r.balance ++ halfOf r.cap ++ halfOf r.rate ++ halfOf r.remainder ++ halfOf r.threshold ++ halfOf r.delta
    ++ [accountFlags s a, byteOf (16 * liveMembers s a + holdingMembers s a)]

/-- ACCOUNT READ (R132). The open places of the flags bytes use up one draw (log entry 2). -/
def takeAccountRead (start : Half) (count : Byte) (s : State) : Taken :=
  match accountNoOf start, numberIn 1 16 count.toNat with
  | some a, some n =>
    let asked := ((List.finRange 576).drop a.val).take n
    answeredOk (s.setDraws (s.draws + 1)) (halfBytes start ++ byteOf asked.length :: (asked.map (accountRecord s)).flatten)
  | _, _ => refusedWith .badValue s

/-- An entry of LOW READ or RECOVERED READ (section 11.2). -/
def listRecord (s : State) (a : AccountNo) : List Byte :=
  let r := s.allowance.accounts[a]
  halfOf a.val ++ balanceBytes r.balance ++ [r.stateByte]

/-- The answer data of LOW READ and RECOVERED READ: taken, left and the entries taken. -/
def listAnswer (s : State) (n : Nat) (list : List AccountNo) : List Byte :=
  byteOf (list.take n).length :: halfOf (list.drop n).length ++ ((list.take n).map (listRecord s)).flatten

/-- LOW READ (R128). -/
def takeLowRead (count : Byte) (s : State) : Taken :=
  match numberIn 1 32 count.toNat with
  | none => refusedWith .badValue s
  | some n => answeredOk (setLow (s.allowance.lowList.drop n) s) (listAnswer s n s.allowance.lowList)

/-- RECOVERED READ (R129). -/
def takeRecoveredRead (count : Byte) (s : State) : Taken :=
  match numberIn 1 32 count.toNat with
  | none => refusedWith .badValue s
  | some n => answeredOk (setRecovered (s.allowance.recovered.drop n) s) (listAnswer s n s.allowance.recovered)

end Sys2Proof.Machine
end

