-- ==== Sys2Proof/Machine/Events.lean ====
section
/-! DEFINITION. What each seat event does at the floor allocator: the presses, voice and silence of a delegate seat, TALK,
NEXT and PRIORITY of a chair seat, and the howl guard's two events (sections 5.3, 5.5 and 5.6). -/

namespace Sys2Proof.Machine

/-! ### Presses -/

/-- A request that can open no slot: an ORDINARY enqueue request when queue when full is yes, a refusal with NO_SLOT when
it is no (R85, R86). -/
def queueOrRefuse (seat : Seat) (s : State) : State :=
  if (inForce s).queueWhenFull then enqueuePress seat .ordinary .shortPress s else refuse seat .shortPress .noSlot s

/-- A request in OPEN mode (R85). -/
def requestOpen (seat : Seat) (s : State) : State :=
  if freeSlotExists s && (firstEligible s).isNone then
    if 0 < holdCount s then refuse seat .shortPress .priority s else openSlot seat .press false s
  else queueOrRefuse seat s

/-- The oldest unprotected slot in speaker-list order (R86). -/
def oldestUnguarded (f : Floor) : Option SlotNo := f.speakers.find? fun n => (f.slots[n]).any fun sl => !sl.guarded

/-- Override replacement: the slot is closed with REPLACED, the presser opened, and the advance check run once (R86). -/
def replaceSpeaker (n : SlotNo) (seat : Seat) (s : State) : State :=
  advanceCheck (openSlot seat .press false (closeSlot n .replaced s))

/-- A request in OVERRIDE mode (R85, R86). -/
def requestOverride (seat : Seat) (s : State) : State :=
  if freeSlotExists s then
    if 0 < holdCount s then refuse seat .shortPress .priority s else openSlot seat .press false s
  else match oldestUnguarded s.floor with
    | some n => if 0 < holdCount s then refuse seat .shortPress .priority s else replaceSpeaker n seat s
    | none => queueOrRefuse seat s

/-- A SHORT PRESS (R84). -/
def shortPress (seat : Seat) (s : State) : State :=
  if (s.floor.slotOf seat).isSome then
    if (inForce s).speakerMayClose then closeSeat seat .seat s else s
  else if hasEntry s seat then leaveQueue seat .seat s
  else if (inForce s).mode = .voice then s
  else if isLocked s seat then refuse seat .shortPress .locked s
  else if isMasked s seat then refuse seat .shortPress .masked s
  else match (inForce s).mode with
    | .open => requestOpen seat s
    | .override => requestOverride seat s
    | .queue => enqueuePress seat .ordinary .shortPress s
    | .voice => s

/-- A promotion request (R64): the entry moves to the tail of the PRIORITY group and QUEUE PROMOTED is posted. -/
def promote (seat : Seat) (s : State) : State :=
  match s.queue.entryOf seat with
  | none => s
  | some e =>
    if e.kind = .priority then s
    else
      let moved := setEntries (joinGroup { e with kind := .priority } (dropEntry seat s.queue.entries)) s
      post (.queuePromoted seat (moved.queue.placeOf seat)) moved

/-- A LONG PRESS (R87). -/
def longPress (seat : Seat) (s : State) : State :=
  if (inForce s).mode = .voice then s
  else if (s.floor.slotOf seat).isSome then s
  else match s.queue.entryOf seat with
    | some _ => promote seat s
    | none =>
      if isLocked s seat then refuse seat .longPress .locked s
      else if isMasked s seat then refuse seat .longPress .masked s
      else enqueuePress seat .priority .longPress s

/-! ### Voice -/

/-- VOICE START at the allocator (R88). -/
def voiceStartEvent (seat : Seat) (s : State) : State :=
  if (inForce s).mode == .voice && s.plan[seat].voice && (s.floor.slotOf seat).isNone && !isLocked s seat
      && !isMasked s seat && freeSlotExists s && holdCount s == 0
  then openSlot seat .voice false s
  else s

/-- SILENCE at the allocator (R88). -/
def silenceEvent (seat : Seat) (s : State) : State :=
  match s.floor.slotOf seat with
  | none => s
  | some n =>
    match s.floor.slots[n] with
    | some sl => if sl.origin = .voice then closeSeat seat .silence s else s
    | none => s

/-! ### Chair buttons -/

/-- TALK from a chair seat (R91). -/
def talk (seat : Seat) (s : State) : State :=
  if isLocked s seat then refuse seat .talk .locked s
  else match s.floor.chairOf seat with
    | none => s
    | some c => if c.micOpen then closeChair seat s else openChair seat s

/-- Why a grant by FLOOR NEXT or by the chair's NEXT cannot be made, tested in the order of R101. -/
def nextRefusal (s : State) : Option RefusalCause :=
  if 0 < holdCount s then some .priority
  else if !freeSlotExists s then some .noSlot
  else if (firstEligible s).isNone then some .empty
  else none

/-- NEXT from a chair seat (R101). -/
def chairNext (seat : Seat) (s : State) : State :=
  match nextRefusal s with
  | some cause => refuse seat .next cause s
  | none =>
    match firstEligible s with
    | some e => openSlot e.seat .next false s
    | none => s

/-! ### The howl guard -/

/-- The delegate slot of a seat howls (R95). -/
def howlSlot (seat : Seat) (s : State) : State :=
  match s.floor.slotOf seat with
  | none => s
  | some n =>
    match s.floor.slots[n] with
    | none => s
    | some sl =>
      if sl.condition ≠ .open then s
      else if (inForce s).lockKind = .soft ∧ sl.strikes < 2 then
        post (.howlLock seat .soft (sl.strikes + 1))
          (s.setFloor (s.floor.mapSlot n fun sl => { sl with condition := .softLocked, strikes := sl.strikes + 1 }))
      else setLocked seat true (closeSeat seat .howl (post (.howlLock seat .hard sl.strikes) s))

/-- The chair microphone of a seat howls (R96). -/
def howlChair (seat : Seat) (s : State) : State :=
  match s.floor.chairOf seat with
  | none => s
  | some c =>
    if !c.micOpen || c.softMuted then s
    else if (inForce s).lockKind = .soft ∧ c.strikes < 2 then
      post (.howlLock seat .soft (c.strikes + 1))
        (setChairs (mapChairs seat (fun c => { c with softMuted := true, strikes := c.strikes + 1 }) s.floor.chairs) s)
    else
      let shut := setChairs (mapChairs seat (fun c => { c with micOpen := false, softMuted := false }) s.floor.chairs) s
      post (.chairMic seat false) (post (.howlLock seat .hard c.strikes) (setLocked seat true shut))

/-- HOWL at the allocator (R95, R96). -/
def howlEvent (seat : Seat) (s : State) : State :=
  if classOf s seat = .chair then howlChair seat s else howlSlot seat s

/-- HOWL CLEAR of a delegate slot (R95). -/
def howlClearSlot (seat : Seat) (s : State) : State :=
  match s.floor.slotOf seat with
  | none => s
  | some n =>
    match s.floor.slots[n] with
    | none => s
    | some sl =>
      if sl.condition ≠ .softLocked then s
      else if holdCount s = 0 then
        post (.howlClear seat .open)
          (restartBlanking seat (s.setFloor (s.floor.mapSlot n fun sl => { sl with condition := .open })))
      else
        post (.howlClear seat .muted) (s.setFloor (s.floor.mapSlot n fun sl => { sl with condition := .muted }))

/-- HOWL CLEAR of a chair microphone (R96). -/
def howlClearChair (seat : Seat) (s : State) : State :=
  match s.floor.chairOf seat with
  | none => s
  | some c =>
    if c.softMuted then
      post (.howlClear seat .open)
        (restartBlanking seat (setChairs (mapChairs seat (fun c => { c with softMuted := false }) s.floor.chairs) s))
    else s

/-- HOWL CLEAR at the allocator (R95, R96). -/
def howlClearEvent (seat : Seat) (s : State) : State :=
  if classOf s seat = .chair then howlClearChair seat s else howlClearSlot seat s

end Sys2Proof.Machine
end

