-- ==== Sys2Proof/Machine/Floor.lean ====
section
/-! DEFINITION. The orders of the floor allocator (section 5.8, and WING MASK and UNLOCK of sections 5.6 and 5.7). -/

namespace Sys2Proof.Machine

/-- The answer data of an order that names a seat and the slot it holds or held. -/
def seatSlotBytes (seat : Seat) (slot : Option SlotNo) : List Byte :=
  seatBytes seat ++ [byteOf ((slot.map slotNumber).getD 0)]

/-- FLOOR GRANT (R100). -/
def takeFloorGrant (seat : Half) (protect : Byte) (s : State) : Taken :=
  match seatOf seat, yesNoOf protect with
  | some x, some g =>
    if 0 < holdCount s then refusedWith .notPermitted s
    else if (s.floor.slotOf x).isSome then refusedWith .held s
    else if classOf s x ≠ .delegate ∨ isReady s x = false ∨ isMasked s x = true ∨ isLocked s x = true then
      refusedWith .notEligible s
    else if !freeSlotExists s then refusedWith .full s
    else
      let opened := openSlot x .link g s
      answeredOk opened (seatSlotBytes x (opened.floor.slotOf x))
  | _, _ => refusedWith .badValue s

/-- The result code of a grant that cannot be made (R101). -/
def nextRefusalCode : RefusalCause → ResultCode
  | .priority => .notPermitted
  | .noSlot => .full
  | _ => .empty

/-- FLOOR NEXT (R101). -/
def takeFloorNext (s : State) : Taken :=
  match nextRefusal s with
  | some cause => refusedWith (nextRefusalCode cause) s
  | none =>
    match firstEligible s with
    | some e =>
      let opened := openSlot e.seat .next false s
      answeredOk opened (seatSlotBytes e.seat (opened.floor.slotOf e.seat))
    | none => refusedWith .empty s

/-- FLOOR REVOKE (R102). -/
def takeFloorRevoke (seat : Half) (s : State) : Taken :=
  match seatOf seat with
  | none => refusedWith .badValue s
  | some x =>
    match s.floor.slotOf x with
    | none => refusedWith .notFound s
    | some n => answeredOk (closeSeat x .link s) (seatSlotBytes x (some n))

/-- FLOOR CLEAR (R103). -/
def takeFloorClear (s : State) : Taken :=
  answeredOk (advanceCheck (closeGroup s.floor.speakers .chair s)) [byteOf s.floor.occupied]

/-- A slot record of FLOOR READ (R104, section 11.2). For a free slot the manual gives only occupied no and limit override
none; the other bytes are open (log entry 2). -/
def slotRecord (s : State) (n : SlotNo) : List Byte :=
  match s.floor.slots[n] with
  | none =>
    let k := 16 * n.val
    let byte := fun i => Config.unstatedByte s.draws (k + i)
    [0, byte 0, byte 1, byte 2, byte 3, byte 4, byte 5, byte 6, byte 7, byte 8, byte 9, byte 10, 0, 0, byte 11, byte 12,
      byte 13, byte 14, byte 15]
  | some sl =>
    1 :: seatBytes sl.seat ++ [sl.condition.code, sl.origin.code, boolByte sl.guarded] ++ wordBytes sl.grantTime
      ++ halfOf sl.elapsed ++ halfOf (sl.override.getD 0) ++ halfOf (effectiveLimit s sl)
      ++ [boolByte sl.warned, byteOf sl.strikes, boolByte sl.drainGrant]

/-- A chair record of FLOOR READ (section 11.2). -/
def chairBytes (s : State) (c : ChairRecord) : List Byte :=
  seatBytes c.seat ++ [boolByte c.micOpen, boolByte c.softMuted, byteOf c.strikes, boolByte c.afterHold, boolByte c.held,
    boolByte (isLocked s c.seat)]

/-- The LOCKED seats, in ascending order. -/
def lockedSeats (s : State) : List Seat := (List.finRange 512).filter fun x => isLocked s x

/-- FLOOR READ (R104). The open bytes of free slots use up one draw (log entry 2). -/
def takeFloorRead (start : Half) (s : State) : Taken :=
  match seatOf start with
  | none => refusedWith .badValue s
  | some x =>
    let listed := ((lockedSeats s).filter fun y => decide (x ≤ y)).take 16
    answeredOk (s.setDraws (s.draws + 1))
      (byteOf s.floor.speakers.length :: s.floor.speakers.map (fun n => byteOf (slotNumber n))
        ++ ((List.finRange 8).map (slotRecord s)).flatten
        ++ byteOf s.floor.chairs.length :: (s.floor.chairs.map (chairBytes s)).flatten
        ++ [byteOf (holdCount s), s.floor.mask.zeroExtend 8]
        ++ halfOf (lockedSeats s).length ++ byteOf listed.length :: (listed.map seatBytes).flatten)

/-- The seat of the slot stands on a wing whose enable goes from on to off (R98, step 1). -/
def newlyMasked (s : State) (mask : BitVec 4) (n : SlotNo) : Bool :=
  (s.floor.slots[n]).any fun sl =>
    (placeOf s sl.seat).any fun p => s.floor.mask.getLsbD p.wing.val && !mask.getLsbD p.wing.val

/-- WING MASK (R98). -/
def takeWingMask (mask : Byte) (s : State) : Taken :=
  if mask.toNat < 16 then
    let value : BitVec 4 := mask.truncate 4
    let set := s.setFloor { s.floor with mask := value }
    let closed := closeGroup (s.floor.speakers.filter (newlyMasked s value)) .mask set
    answeredOk (advanceCheck (drainEndTest closed)) [mask]
  else refusedWith .badValue s

/-- UNLOCK (R97). -/
def takeUnlock (seat : Half) (s : State) : Taken :=
  match seatOf seat with
  | none => refusedWith .badValue s
  | some x =>
    if isLocked s x then
      let cleared := setLocked x false s
      answeredOk (advanceCheck (if hasEntry s x then drainEndTest cleared else cleared)) (seatBytes x)
    else refusedWith .notFound s

/-- The allocator's part of FLOOR RESET (R105): the chair records, their priority held and the wing mask are kept. -/
def Floor.cleared (f : Floor) : Floor where
  slots := Vector.replicate 8 none
  speakers := []
  free := Floor.allFree
  chairs := f.chairs.map fun c => { c with micOpen := false, softMuted := false, strikes := 0, afterHold := false }
  mask := f.mask
  locked := Vector.replicate 512 false

/-- FLOOR RESET (R60, R105, R147, R159): the floor, the queue, the list state and the notice queue; no notice is
posted. -/
def takeFloorReset (s : State) : Taken :=
  let emptied := setEntries [] (s.setFloor s.floor.cleared)
  let opened := setList .open none emptied
  answeredOk (opened.setLink { opened.link with notices := [] }) []

/-- FLOOR EXTEND (R114). -/
def takeFloorExtend (seat decis : Half) (s : State) : Taken :=
  match seatOf seat, numberIn 1 3000 decis.toNat with
  | some x, some n =>
    match s.floor.slotOf x with
    | none => refusedWith .notFound s
    | some k =>
      match s.floor.slots[k] with
      | none => refusedWith .notFound s
      | some sl =>
        if effectiveLimit s sl = 0 then refusedWith .noLimit s
        else
          let limit := min (effectiveLimit s sl + n) Config.longestLimit
          answeredOk (s.setFloor (s.floor.mapSlot k fun sl => { sl with override := some limit }))
            (seatSlotBytes x (some k) ++ halfOf limit ++ halfOf sl.elapsed)
  | _, _ => refusedWith .badValue s

end Sys2Proof.Machine
end

