-- ==== Sys2Proof/Machine/SeatInput.lean ====
section
/-! DEFINITION. The seat input unit (chapter 3): how a report is taken, part by part, the quiet count at a deci expiry,
and the commands that name an event of this unit. -/

namespace Sys2Proof.Machine

/-! ### Seat records -/

/-- A button of a first report: STALE when down, UP when up (R41). -/
def firstState (down : Bool) : ButtonState := if down then .stale else .up

/-- The seat record that a first report sets (R41). -/
def SeatRecord.first (b : Buttons) : SeatRecord :=
  let blank : SeatRecord := ⟨.up, .up, .up, .up, none, false, false, 0, 0, .off, 0, 0, 0⟩
  match b with
  | .delegate r => { blank with request := firstState r }
  | .chair t p n => { blank with talk := firstState t, priority := firstState p, next := firstState n }

/-- The seat record of a seat changed in place; a seat with no record is left alone. -/
def mapSeat (seat : Seat) (g : SeatRecord → SeatRecord) (s : State) : State :=
  s.setSeats (put s.seats seat ((s.seats[seat]).map g))

/-- The record of a seat is discarded: the unit of the seat is gone (R54). -/
def forgetSeat (seat : Seat) (s : State) : State := s.setSeats (put s.seats seat none)

/-- The edge a report shows at a button. -/
inductive Edge where
  | none | down | up
  deriving DecidableEq, Repr

/-- The edge of a button and its state after the report (R43, R45, R46): a STALE button is released without an
edge. -/
def buttonEdge (state : ButtonState) (down : Bool) : Edge × ButtonState :=
  match state, down with
  | .up, true => (.down, .down)
  | .up, false => (.none, .up)
  | .down, true => (.none, .down)
  | .down, false => (.up, .up)
  | .stale, true => (.none, .stale)
  | .stale, false => (.none, .up)

/-! ### Buttons -/

/-- The press duration: the floor clock of the releasing report minus the press start, modulo 2^32, at most 255 (R44). -/
def pressDuration (now start : Clock) : Nat := min (now - start).toNat 255

/-- REQUEST of a delegate unit (R43, R44). -/
def takeRequest (seat : Seat) (down : Bool) (s : State) : State :=
  match s.seats[seat] with
  | none => s
  | some r =>
    match buttonEdge r.request down with
    | (.none, b) => mapSeat seat (fun r => { r with request := b }) s
    | (.down, b) => mapSeat seat (fun r => { r with request := b, pressStart := some s.link.clock }) s
    | (.up, b) =>
      let released := mapSeat seat (fun r => { r with request := b, pressStart := none }) s
      if classOf s seat = .delegate then
        if (inForce s).longPress ≤ pressDuration s.link.clock (r.pressStart.getD s.link.clock) then
          longPress seat released
        else shortPress seat released
      else released

/-- PRIORITY of a chair unit (R46). -/
def takePriority (seat : Seat) (down : Bool) (s : State) : State :=
  match s.seats[seat] with
  | none => s
  | some r =>
    match buttonEdge r.priority down with
    | (.none, b) => mapSeat seat (fun r => { r with priority := b }) s
    | (.down, b) =>
      if classOf s seat = .chair then raiseHold seat (mapSeat seat (fun r => { r with priority := b, counted := true }) s)
      else mapSeat seat (fun r => { r with priority := b }) s
    | (.up, b) =>
      let released := mapSeat seat (fun r => { r with priority := b, counted := false }) s
      if r.counted && classOf s seat == .chair then lowerHold seat released else released

/-- TALK of a chair unit (R45). -/
def takeTalk (seat : Seat) (down : Bool) (s : State) : State :=
  match s.seats[seat] with
  | none => s
  | some r =>
    let moved := mapSeat seat (fun r' => { r' with talk := (buttonEdge r.talk down).2 }) s
    if (buttonEdge r.talk down).1 = .down ∧ classOf s seat = .chair then talk seat moved else moved

/-- NEXT of a chair unit (R45). -/
def takeNext (seat : Seat) (down : Bool) (s : State) : State :=
  match s.seats[seat] with
  | none => s
  | some r =>
    let moved := mapSeat seat (fun r' => { r' with next := (buttonEdge r.next down).2 }) s
    if (buttonEdge r.next down).1 = .down ∧ classOf s seat = .chair then chairNext seat moved else moved

/-- The buttons of a report; for a chair unit PRIORITY comes first, then TALK, then NEXT (R42). -/
def takeButtons (seat : Seat) (b : Buttons) (s : State) : State :=
  match b with
  | .delegate r => takeRequest seat r s
  | .chair t p n => takeNext seat n (takeTalk seat t (takePriority seat p s))

/-! ### Voice -/

/-- The voice threshold of a profile (R47). -/
def Profile.voiceThreshold (p : Profile) : Nat := 16 + 4 * p.voiceStep

/-- The seat becomes VOICED: the attack run and the quiet count return to 0, and for a DELEGATE seat VOICE START is
raised (R48). -/
def becomeVoiced (seat : Seat) (s : State) : State :=
  let voiced := mapSeat seat (fun r => { r with voiced := true, attackRun := 0, quietCount := 0 }) s
  if classOf s seat = .delegate then voiceStartEvent seat voiced else voiced

/-- The seat becomes QUIET: the quiet count returns to 0, and for a DELEGATE seat SILENCE is raised (R49). -/
def becomeQuiet (seat : Seat) (s : State) : State :=
  let quiet := mapSeat seat (fun r => { r with voiced := false, quietCount := 0 }) s
  if classOf s seat = .delegate then silenceEvent seat quiet else quiet

/-- The level of a report for voice (R47, R48). -/
def takeVoice (seat : Seat) (level : Nat) (s : State) : State :=
  match s.seats[seat] with
  | none => s
  | some r =>
    if (inForce s).voiceThreshold ≤ level then
      if r.voiced then mapSeat seat (fun r => { r with quietCount := 0 }) s
      else if (inForce s).voiceAttack ≤ r.attackRun + 1 then becomeVoiced seat s
      else mapSeat seat (fun r => { r with attackRun := r.attackRun + 1 }) s
    else if r.voiced then s
    else mapSeat seat (fun r => { r with attackRun := 0 }) s

/-! ### The howl guard -/

/-- The howl phase of a seat as the allocator's state gives it (R50). -/
def howlPhase (s : State) (seat : Seat) : HowlPhase :=
  match s.floor.conditionOf seat with
  | some .open => .live
  | some .softLocked => .lockedSoft
  | some .muted => .off
  | none =>
    match s.floor.chairOf seat with
    | some c => if c.micOpen then if c.softMuted then .lockedSoft else .live else .off
    | none => .off

/-- HOWL is raised for a DELEGATE or CHAIR seat; the howl run and the release run return to 0 (R52). -/
def raiseHowl (seat : Seat) (s : State) : State :=
  let cleared := mapSeat seat (fun r => { r with howlRun := 0, releaseRun := 0 }) s
  if classOf s seat = .delegate ∨ classOf s seat = .chair then howlEvent seat cleared else cleared

/-- HOWL CLEAR is raised for a DELEGATE or CHAIR seat; the release run returns to 0 (R53). -/
def raiseHowlClear (seat : Seat) (s : State) : State :=
  let cleared := mapSeat seat (fun r => { r with releaseRun := 0 }) s
  if classOf s seat = .delegate ∨ classOf s seat = .chair then howlClearEvent seat cleared else cleared

/-- A report in phase LIVE (R51, R52). -/
def takeLive (seat : Seat) (r : SeatRecord) (level : Nat) (s : State) : State :=
  if 0 < r.blanking then mapSeat seat (fun r => { r with blanking := r.blanking - 1 }) s
  else if (inForce s).howlLimit ≤ level then
    if (inForce s).howlCount ≤ r.howlRun + 1 then raiseHowl seat s
    else mapSeat seat (fun r => { r with howlRun := r.howlRun + 1 }) s
  else mapSeat seat (fun r => { r with howlRun := 0 }) s

/-- A report in phase LOCKED_SOFT (R53): the soft-release level is the howl limit minus 12. -/
def takeLockedSoft (seat : Seat) (r : SeatRecord) (level : Nat) (s : State) : State :=
  if level ≤ (inForce s).howlLimit - 12 then
    if (inForce s).softRelease ≤ r.releaseRun + 1 then raiseHowlClear seat s
    else mapSeat seat (fun r => { r with releaseRun := r.releaseRun + 1 }) s
  else mapSeat seat (fun r => { r with releaseRun := 0 }) s

/-- A record with the phase just read: the runs are cleared when it differs from the phase recorded (R50). -/
def SeatRecord.withPhase (r : SeatRecord) (phase : HowlPhase) : SeatRecord :=
  if r.phase = phase then r else { r with phase, howlRun := 0, releaseRun := 0 }

/-- The level of a report for the howl guard (R50 to R53). -/
def takeHowl (seat : Seat) (level : Nat) (s : State) : State :=
  match s.seats[seat] with
  | none => s
  | some r =>
    let now := r.withPhase (howlPhase s seat)
    let read := mapSeat seat (fun _ => now) s
    match now.phase with
    | .off => mapSeat seat (fun r => { r with howlRun := 0, releaseRun := 0 }) read
    | .live => takeLive seat now level read
    | .lockedSoft => takeLockedSoft seat now level read

/-! ### Reports and expiries -/

/-- The first report of a seat creates its record (R41). -/
def beginSeat (seat : Seat) (b : Buttons) (s : State) : State :=
  match s.seats[seat] with
  | some _ => s
  | none => s.setSeats (put s.seats seat (some (SeatRecord.first b)))

/-- A report is taken whole: the buttons, the level for voice, the level for the howl guard (R42). -/
def takeReport (seat : Seat) (b : Buttons) (level : Nat) (s : State) : State :=
  takeHowl seat level (takeVoice seat level (takeButtons seat b (beginSeat seat b s)))

/-- One seat at the deci expiry of the seat input unit (R49). -/
def quietSeat (s : State) (seat : Seat) : State :=
  match s.seats[seat] with
  | none => s
  | some r =>
    if !r.voiced then s
    else if (inForce s).voiceRelease ≤ r.quietCount + 1 then becomeQuiet seat s
    else mapSeat seat (fun r => { r with quietCount := r.quietCount + 1 }) s

/-- SEAT_INPUT_EXPIRY (R49). The seats are taken in ascending order (log entry 9). -/
def execSeatInputExpiry (s : State) : Host.Outcome State Fault Refusal :=
  whileRunning s fun s => (List.finRange 512).foldl quietSeat s

/-- SILENCE of a seat (R49, R88): the seat becomes QUIET and SILENCE is taken; a seat that is not VOICED does not fall
silent (log entry 5). -/
def execSilence (seat : Seat) (s : State) : Host.Outcome State Fault Refusal :=
  whileRunning s fun s =>
    match s.seats[seat] with
    | some r => if r.voiced then becomeQuiet seat s else s
    | none => s

/-- VOICE_START of a seat (R48, R88): the seat becomes VOICED and VOICE START is taken; a seat that is VOICED already
does not start (log entry 5). -/
def execVoiceStart (seat : Seat) (s : State) : Host.Outcome State Fault Refusal :=
  whileRunning s fun s =>
    match s.seats[seat] with
    | some r => if r.voiced then s else becomeVoiced seat s
    | none => s

/-- HOWL of a seat (R52, R95, R96). -/
def execHowl (seat : Seat) (s : State) : Host.Outcome State Fault Refusal :=
  whileRunning s fun s =>
    match s.seats[seat] with
    | some _ => raiseHowl seat s
    | none => s

/-- HOWL_CLEAR of a seat (R53, R95, R96). -/
def execHowlClear (seat : Seat) (s : State) : Host.Outcome State Fault Refusal :=
  whileRunning s fun s =>
    match s.seats[seat] with
    | some _ => raiseHowlClear seat s
    | none => s

end Sys2Proof.Machine
end

