-- ==== Sys2Proof/Machine/Trunk.lean ====
section
/-! DEFINITION. The trunk units (chapter 2): the checks against the plan, the life of a unit on a chain, assignments, what
a poll carries, the polling rounds, and the commands and orders of the trunks. -/

namespace Sys2Proof.Machine

/-! ### Chains and rounds -/

/-- The highest of the first `k` positions that holds an entry, by its number; 0 when none does. -/
def highestEntry (chain : Vector (Option ChainEntry) 128) : Nat → Nat
  | 0 => 0
  | k + 1 => if (chain[k]?.join).isSome then k + 1 else highestEntry chain k

/-- The chain length: the highest position that holds an entry, or 0 (R18). -/
def Trunk.chainLength (t : Trunk) : Nat := highestEntry t.chain 128

/-- One trunk unit changed in place. -/
def mapTrunk (w : Wing) (g : Trunk → Trunk) (s : State) : State :=
  s.setTrunks { s.trunks with units := put s.trunks.units w (g s.trunks.units[w]) }

/-- Rewrites one place of a chain table. -/
def setEntry (p : Place) (e : Option ChainEntry) (s : State) : State := s.setTrunks (s.trunks.putEntry p e)

/-- The end of a poll: when it was the last of its round, the next round begins with the chain length as it stands
(R19). A round of 128 positions has no end probe. -/
def Trunk.endPoll (t : Trunk) : Trunk :=
  match t.poll with
  | none => t
  | some q =>
    if q.endProbe || (t.roundLength < t.nextPos && t.roundLength == 128) then
      { t with poll := none, roundLength := t.chainLength, nextPos := 1 }
    else { t with poll := none }

/-- The poll in progress on a wing ends. -/
def endPoll (w : Wing) (s : State) : State := mapTrunk w Trunk.endPoll s

/-! ### The checks against the plan -/

/-- What the checks of R23 find. -/
inductive CheckOutcome where
  | ready (seat : Seat)
  | blocked (kind : BlockKind)
  deriving DecidableEq, Repr

/-- The unit type that fails the type check of a class (R23, check 3). -/
def typeFails : SeatClass → UnitType → Bool
  | .chair, .delegateUnit => true
  | .delegate, .chairUnit => true
  | _, _ => false

/-- The four checks of R23 in their order, for the unit at a place. -/
def checkUnit (s : State) (p : Place) (e : ChainEntry) : CheckOutcome :=
  match e.addr with
  | none => .blocked .unbound
  | some seat =>
    if (s.plan[seat].location).any fun l => l ≠ p then .blocked .location
    else if typeFails (classOf s seat) e.buttons.unitType then .blocked .type
    else if (placeOf s seat).any fun q => q ≠ p then .blocked .duplicate
    else .ready seat

/-- The unit at a place becomes READY and bound to a seat, and SEAT READY is posted (R23). -/
def becomeReady (p : Place) (e : ChainEntry) (seat : Seat) (s : State) : State :=
  let bound := s.setTrunks ((s.trunks.putEntry p (some { e with presence := .ready })).bind seat (some p))
  post (.seatReady p seat e.buttons.unitType) bound

/-- The unit at a place becomes BLOCKED: it is appended to the blocked-unit table, and SEAT BLOCKED is posted (R23,
R31). -/
def becomeBlocked (p : Place) (e : ChainEntry) (kind : BlockKind) (s : State) : State :=
  let kept := setEntry p (some { e with presence := .blocked kind }) s
  post (.seatBlocked p e.addr kind) (setBlocked (kept.trunks.blocked ++ [⟨p, e.addr, kind⟩]) kept)

/-- A unit is checked and becomes READY or BLOCKED (R23). -/
def settleUnit (p : Place) (e : ChainEntry) (s : State) : State :=
  match checkUnit s p e with
  | .ready seat => becomeReady p { e with refusal := 0 } seat s
  | .blocked kind => becomeBlocked p e kind s

/-- The entry of the unit at a place leaves the blocked-unit table (R31). -/
def leaveBlocked (p : Place) (s : State) : State :=
  setBlocked (s.trunks.blocked.filter fun b => b.place ≠ p) s

/-! ### Leaving a binding -/

/-- Steps 1 to 6 of R26 and R29 for a seat: the binding and the seat record go, the slot is closed without its advance
check, the entry leaves, the bindings to the seat are dropped, and a chair unit is withdrawn. -/
def leaveSeat (seat : Seat) (reason : CloseReason) (leave : LeaveReason) (s : State) : State :=
  let unbound := forgetSeat seat (s.setTrunks (s.trunks.bind seat none))
  let closes := (unbound.floor.slotOf seat).isSome
  let left := leaveQueue seat leave (closeSeatQuiet seat reason unbound)
  let dropped := dropBindings seat closes left
  if classOf dropped seat = .chair then withdrawChair seat dropped else dropped

/-- The advance check that a close deferred by R26 or R29 gives rise to, after the last step of that rule (R82). -/
def deferredAdvance (closed : Bool) (s : State) : State := if closed then advanceCheck s else s

/-- The seat holds a slot. -/
def holdsSlot (s : State) (seat : Seat) : Bool := (s.floor.slotOf seat).isSome

/-! ### Loss -/

/-- The effects of losing the unit at a place, by its presence state (R26). -/
def loseEffects (p : Place) (e : ChainEntry) (s : State) : State :=
  match e.presence, e.addr with
  | .settling, _ => s
  | .blocked k, _ => post (.seatLost p e.addr (.blocked k)) (leaveBlocked p s)
  | .ready, some seat =>
    deferredAdvance (holdsSlot s seat)
      (post (.seatLost p (some seat) .ready) (leaveSeat seat .lost .lost s))
  | .ready, none => s

/-- An assignment in flight to a position fails with a cause (R35). -/
def failAssignment (p : Place) (cause : AssignFailure) (s : State) : State :=
  match s.trunks.units[p.wing].assignment with
  | some a =>
    if a.pos = p.pos then
      post (.assignFailed p a.seat cause) (mapTrunk p.wing (fun t => { t with assignment := none }) s)
    else s
  | none => s

/-- The unit at a place is lost: its effects are made, the position becomes ABSENT, and an assignment to it fails (R25,
R26). -/
def loseUnit (p : Place) (s : State) : State :=
  match s.trunks.entryAt p with
  | none => s
  | some e => failAssignment p .lost (setEntry p none (loseEffects p e s))

/-! ### Re-check after a plan change -/

/-- The READY unit bound to a seat is re-checked (R28, R29). -/
def recheckBound (seat : Seat) (s : State) : State :=
  match placeOf s seat with
  | none => s
  | some p =>
    match s.trunks.entryAt p with
    | none => s
    | some e =>
      match checkUnit s p e with
      | .ready _ => s
      | .blocked kind =>
        let left := leaveSeat seat .plan .plan s
        deferredAdvance (holdsSlot s seat) (becomeBlocked p ((left.trunks.entryAt p).getD e) kind left)

/-- A blocked unit is re-checked (R28). -/
def recheckBlocked (s : State) (b : BlockedEntry) : State :=
  match s.trunks.entryAt b.place with
  | none => s
  | some e =>
    match checkUnit s b.place e with
    | .ready seat =>
      let bound := s.setTrunks
        ((s.trunks.putEntry b.place (some { e with presence := .ready, refusal := 0 })).bind seat (some b.place))
      post (.seatReady b.place seat e.buttons.unitType) (leaveBlocked b.place bound)
    | .blocked kind =>
      if e.presence = .blocked kind then s
      else
        let kept := setEntry b.place (some { e with presence := .blocked kind }) s
        let table := kept.trunks.blocked.map fun x => if x.place = b.place then { x with kind } else x
        post (.seatBlocked b.place e.addr kind) (setBlocked table kept)

/-- The re-check that a PLAN PUT to a seat asks for (R12): the bound unit, then the blocked units that report the seat, as
the PUT finds them in the table, in table order. A unit that this re-check has just blocked is not taken again. -/
def recheckSeat (seat : Seat) (s : State) : State :=
  (s.trunks.blocked.filter fun b => b.addr == some seat).foldl recheckBlocked (recheckBound seat s)

/-! ### Answers -/

/-- The entry that a good answer at an ABSENT position creates (R21). -/
def newEntry (a : TrunkAnswer) : ChainEntry := ⟨a.addr, a.buttons, .settling, 0, 0, a.level, 0⟩

/-- A good answer with the recorded address and unit type (R22, R24). -/
def ordinaryAnswer (p : Place) (e : ChainEntry) (a : TrunkAnswer) (s : State) : State :=
  let heard := { e with miss := 0, buttons := a.buttons, level := a.level }
  match e.presence with
  | .settling =>
    let counted := { heard with settle := e.settle + 1 }
    if Config.settleTop ≤ counted.settle then settleUnit p { counted with settle := Config.settleTop } s
    else setEntry p (some counted) s
  | .blocked _ => setEntry p (some heard) s
  | .ready =>
    match e.addr with
    | some seat => takeReport seat a.buttons a.level.val (setEntry p (some heard) s)
    | none => setEntry p (some heard) s

/-- The unit leaves the binding or the table it had when its assignment completes (R34, steps 1 and 2). -/
def releaseForAssignment (p : Place) (e : ChainEntry) (requested : Seat) (s : State) : State :=
  match e.presence, e.addr with
  | .ready, some seat =>
    if seat = requested then s else deferredAdvance (holdsSlot s seat) (leaveSeat seat .plan .plan s)
  | .blocked _, _ => leaveBlocked p s
  | _, _ => s

/-- An assignment completes (R34). -/
def completeAssignment (p : Place) (e : ChainEntry) (a : TrunkAnswer) (requested : Seat) (s : State) : State :=
  let released := releaseForAssignment p e requested (mapTrunk p.wing (fun t => { t with assignment := none }) s)
  let kept := (released.trunks.entryAt p).getD e
  let renamed := { kept with
    addr := some requested, settle := Config.settleTop, miss := 0, buttons := a.buttons, level := a.level }
  match checkUnit released p renamed with
  | .ready seat => post (.assignDone p requested .ready) (becomeReady p renamed seat released)
  | .blocked kind => post (.assignDone p requested (.blocked kind)) (becomeBlocked p renamed kind released)

/-- An answer completes the assignment in flight to its position (R34). -/
def completes (asg : Option Assignment) (p : Place) (e : ChainEntry) (a : TrunkAnswer) : Option Seat :=
  match asg with
  | some x =>
    if x.pos = p.pos && a.stored && a.addr == some x.seat && a.buttons.unitType == e.buttons.unitType
    then some x.seat else none
  | none => none

/-- A good answer at a place is taken by the lifecycle rules (R21, R22, R24, R27, R34). -/
def takeAnswer (p : Place) (a : TrunkAnswer) (s : State) : State :=
  match s.trunks.entryAt p with
  | none => setEntry p (some (newEntry a)) s
  | some e =>
    match completes s.trunks.units[p.wing].assignment p e a with
    | some requested => completeAssignment p e a requested s
    | none =>
      if a.addr = e.addr ∧ a.buttons.unitType = e.buttons.unitType then ordinaryAnswer p e a s
      else setEntry p (some (newEntry a)) (loseUnit p s)

/-- A missed answer at a place (R22, R25). -/
def takeMiss (p : Place) (s : State) : State :=
  match s.trunks.entryAt p with
  | none => s
  | some e =>
    let missed := { e with miss := e.miss + 1, settle := if e.presence = .settling then 0 else e.settle }
    let counted := setEntry p (some missed) s
    if Config.missTop ≤ missed.miss then loseUnit p counted else counted

/-- The assignment in flight to a position fails with TIMEOUT when its poll count has reached 8 (R35). -/
def timeoutAssignment (p : Place) (s : State) : State :=
  match s.trunks.units[p.wing].assignment with
  | some a => if Config.assignPolls ≤ a.polls then failAssignment p .timeout s else s
  | none => s

/-- The poll in progress on a wing ends with what `take` makes of its position; with no poll in progress nothing
happens, since bytes after the window are disregarded (R169). -/
def finishPoll (w : Wing) (take : Place → State → State) (s : State) : State :=
  match s.trunks.units[w].poll with
  | none => s
  | some q => endPoll w (timeoutAssignment ⟨w, q.pos⟩ (take ⟨w, q.pos⟩ s))

/-! ### What goes out on a poll -/

/-- The indicator of a DELEGATE seat (R38). -/
def delegateIndicator (s : State) (seat : Seat) (refusal : Nat) : Indicator :=
  let slot := (s.floor.slotOf seat).bind fun n => s.floor.slots[n]
  let account := s.allowance.accounts[accountOf s.plan[seat] seat]
  if isLocked s seat then .locked
  else if 0 < refusal then .refused
  else match slot with
    | some sl =>
      if sl.condition ≠ .open then .muted
      else if sl.warned || ((inForce s).allowanceMode == .warn && decide (account.balance ≤ 0)) then .warning
      else .speaking
    | none =>
      if (firstEligible s).any fun e => e.seat == seat then .first
      else if hasEntry s seat then .request
      else .off

/-- The indicator of a CHAIR seat (R38). -/
def chairIndicator (s : State) (seat : Seat) (refusal : Nat) : Indicator :=
  if isLocked s seat then .locked
  else if 0 < refusal then .refused
  else match s.floor.chairOf seat with
    | some c => if c.micOpen then if c.softMuted then .muted else .speaking else .off
    | none => .off

/-- The indicator state for an entry (R38). -/
def indicatorOf (s : State) (e : ChainEntry) : Indicator :=
  match e.presence, e.addr with
  | .settling, _ => .off
  | .blocked _, _ => .blocked
  | .ready, none => .off
  | .ready, some seat =>
    match classOf s seat with
    | .delegate => delegateIndicator s seat e.refusal
    | .chair => chairIndicator s seat e.refusal
    | _ => if 0 < e.refusal then .refused else .off

/-- The microphone command of a seat whose unit is READY (R39). -/
def seatMic (s : State) (seat : Seat) : MicCommand :=
  match s.floor.conditionOf seat with
  | some .open => .open
  | some _ => .mute
  | none =>
    match s.floor.chairOf seat with
    | some c => if c.micOpen then if c.softMuted then .mute else .open else .closed
    | none => .closed

/-- The microphone command for an entry (R39). -/
def micOf (s : State) (e : ChainEntry) : MicCommand :=
  match e.presence, e.addr with
  | .ready, some seat => seatMic s seat
  | _, _ => .closed

/-- The position the next poll of a trunk goes to, and whether it is the end probe (R19). The end probe goes one past the
chain length as it stands. -/
def Trunk.nextTarget (t : Trunk) : Option (Pos × Bool) :=
  if t.nextPos ≤ t.roundLength then (posOf t.nextPos).map fun p => (p, false)
  else (posOf (t.chainLength + 1)).map fun p => (p, true)

/-- The store request a poll of a position carries: the requested seat of the assignment in flight to it (R34). -/
def storeRequest (t : Trunk) (p : Pos) : Option Seat :=
  match t.assignment with
  | some a => if a.pos = p then some a.seat else none
  | none => none

/-- The poll count of the assignment goes up at each poll of its position (R34). That it goes up as the poll is sent, and
not at its answer or miss, is the model's choice (log entry 35). -/
def countPoll (p : Pos) (asg : Option Assignment) : Option Assignment :=
  asg.map fun a => if a.pos = p then { a with polls := a.polls + 1 } else a

/-- The poll that a trunk unit builds for a position (R19, R38, R39); an ABSENT position and the end probe carry CLOSED
and OFF. -/
def buildPoll (s : State) (w : Wing) (p : Pos) (probe : Bool) : Poll :=
  let store := storeRequest s.trunks.units[w] p
  match s.trunks.entryAt ⟨w, p⟩ with
  | none => ⟨p, probe, .closed, .off, store⟩
  | some e => ⟨p, probe, micOf s e, indicatorOf s e, store⟩

/-- The trunk unit begins its next poll (R19), which the poll count of an assignment counts here (log entry 35); a poll in
progress is left to end first. -/
def sendPoll (w : Wing) (s : State) : State :=
  let t := s.trunks.units[w]
  match t.poll, t.nextTarget with
  | none, some (p, probe) =>
    mapTrunk w (fun t => { t with
      poll := some (buildPoll s w p probe), nextPos := t.nextPos + 1, assignment := countPoll p t.assignment }) s
  | _, _ => s

/-! ### Events -/

/-- POLL_SENT of a wing (R19). -/
def execPollSent (w : Wing) (s : State) : Host.Outcome State Fault Refusal := whileRunning s (sendPoll w)

/-- POLL_GOOD_ANSWER of a wing (R21, R22, R24, R27, R34): bytes that R169 does not find good are a missed answer. -/
def execPollGoodAnswer (w : Wing) (answer : List Byte) (s : State) : Host.Outcome State Fault Refusal :=
  whileRunning s fun s =>
    match readAnswer answer with
    | some a => finishPoll w (fun p => takeAnswer p a) s
    | none => finishPoll w takeMiss s

/-- POLL_MISSED_ANSWER of a wing (R22, R25). -/
def execPollMissedAnswer (w : Wing) (s : State) : Host.Outcome State Fault Refusal :=
  whileRunning s (finishPoll w takeMiss)

/-- The poll in progress at a place ends with the event that names the place; a poll elsewhere goes on. -/
def endPollAt (p : Place) (s : State) : State :=
  if (s.trunks.units[p.wing].poll).any fun q => q.pos == p.pos then endPoll p.wing s else s

/-- SETTLE_COMPLETE at a position of a wing (R22, R23): the settle count of a SETTLING unit reaches 16 and the unit is
checked (log entry 5). -/
def execSettleComplete (w : Wing) (position : Nat) (s : State) : Host.Outcome State Fault Refusal :=
  whileRunning s fun s =>
    match posOf position with
    | none => s
    | some pos =>
      match s.trunks.entryAt ⟨w, pos⟩ with
      | some e =>
        if e.presence = .settling then
          endPollAt ⟨w, pos⟩ (settleUnit ⟨w, pos⟩ { e with settle := Config.settleTop, miss := 0 } s)
        else s
      | none => s

/-- UNIT_LOST at a position of a wing (R25, R26): the miss count of the unit there reaches 3 (log entry 5). -/
def execUnitLost (w : Wing) (position : Nat) (s : State) : Host.Outcome State Fault Refusal :=
  whileRunning s fun s =>
    match posOf position with
    | none => s
    | some pos =>
      if (s.trunks.entryAt ⟨w, pos⟩).isSome then endPollAt ⟨w, pos⟩ (loseUnit ⟨w, pos⟩ s) else s

/-- ASSIGN_TIMEOUT of a wing (R35): the assignment in flight has not completed by its eighth poll (log entry 5). -/
def execAssignTimeout (w : Wing) (s : State) : Host.Outcome State Fault Refusal :=
  whileRunning s fun s =>
    match s.trunks.units[w].assignment with
    | some a => endPollAt ⟨w, a.pos⟩ (failAssignment ⟨w, a.pos⟩ .timeout s)
    | none => s

/-- A refusal count above 0 goes down by one (R39). -/
def countRefusal (e : ChainEntry) : ChainEntry := { e with refusal := e.refusal - 1 }

/-- One position of a chain at the deci expiry of its trunk unit. -/
def refusalAt (w : Wing) (s : State) (p : Pos) : State :=
  s.setTrunks (s.trunks.putEntry ⟨w, p⟩ ((s.trunks.entryAt ⟨w, p⟩).map countRefusal))

/-- REFUSAL_COUNT_EXPIRY of a wing (R39): every refusal count of its chain that is above 0 goes down by one. -/
def execRefusalCountExpiry (w : Wing) (s : State) : Host.Outcome State Fault Refusal :=
  whileRunning s fun s => (List.finRange 128).foldl (refusalAt w) s

/-! ### Orders -/

/-- SEAT ASSIGN (R33). -/
def takeSeatAssign (wing position : Byte) (seat : Half) (s : State) : Taken :=
  match wingOf wing, posOf position.toNat, seatOf seat with
  | some w, some p, some requested =>
    if (s.trunks.units[w].assignment).isSome then refusedWith .busy s
    else match s.trunks.entryAt ⟨w, p⟩ with
      | none => refusedWith .absent s
      | some e =>
        let assigned := mapTrunk w (fun t => { t with assignment := some ⟨p, requested, 0⟩ }) s
        match e.presence, e.addr with
        | .ready, some bound => answeredOk (leaveQueue bound .plan (closeSeat bound .plan assigned)) []
        | _, _ => answeredOk assigned []
  | _, _, _ => refusedWith .badValue s

/-- One unit of a wing is lost in a restart (R36, step 2). -/
def restartPos (w : Wing) (s : State) (p : Pos) : State := loseUnit ⟨w, p⟩ s

/-- TRUNK RESTART (R36). -/
def takeTrunkRestart (wing : Byte) (s : State) : Taken :=
  match wingOf wing with
  | none => refusedWith .badValue s
  | some w =>
    let failed := match s.trunks.units[w].assignment with
      | some a => failAssignment ⟨w, a.pos⟩ .restart s
      | none => s
    let lost := (List.finRange 128).foldl (restartPos w) failed
    answeredOk (mapTrunk w (fun t => { t with poll := none, roundLength := 0, nextPos := 1 }) lost) []

/-- A byte the manual leaves open, by its place in the answer (log entry 2). -/
def openByte (s : State) (k : Nat) : Byte := Config.unstatedByte s.draws k

/-- The position record of TRUNK READ (R37, section 11.2). -/
def positionRecord (s : State) (w : Wing) (p : Pos) : List Byte :=
  match s.trunks.entryAt ⟨w, p⟩ with
  | none =>
    let k := 8 * p.val
    [byteOf (posNumber p), 0, 0xFF, 0xFF, openByte s k, 0xFF, openByte s (k + 1), openByte s (k + 2), openByte s (k + 3),
      openByte s (k + 4)]
  | some e =>
    [byteOf (posNumber p), e.presence.code] ++ optionalSeatBytes e.addr
      ++ [unitTypeCode e.buttons.unitType, e.presence.blockByte, byteOf e.settle, byteOf e.miss, buttonPlaces e.buttons,
          byteOf e.level.val]

/-- The assignment in flight as TRUNK READ carries it (section 11.2). -/
def assignmentBytes : Option Assignment → List Byte
  | none => [0, 0, 0, 0, 0]
  | some a => [1, byteOf (posNumber a.pos)] ++ seatBytes a.seat ++ [byteOf a.polls]

/-- TRUNK READ (R37). The open bytes of ABSENT positions use up one draw (log entry 2). -/
def takeTrunkRead (wing start count : Byte) (s : State) : Taken :=
  match wingOf wing, posOf start.toNat, numberIn 1 16 count.toNat with
  | some w, some p, some n =>
    let t := s.trunks.units[w]
    let asked := ((List.finRange 128).drop p.val).take n
    answeredOk (s.setDraws (s.draws + 1))
      (byteOf t.chainLength :: assignmentBytes t.assignment ++ (asked.map (positionRecord s w)).flatten)
  | _, _, _ => refusedWith .badValue s

/-- An entry of the blocked-unit table as BLOCKED READ carries it (section 11.2). -/
def BlockedEntry.bytes (b : BlockedEntry) : List Byte := placeBytes b.place ++ optionalSeatBytes b.addr ++ [b.kind.code]

/-- BLOCKED READ (R32). -/
def takeBlockedRead (start : Half) (s : State) : Taken :=
  if start.toNat < 512 then
    let entries := s.trunks.blocked
    answeredOk s (halfOf entries.length ++ (((entries.drop start.toNat).take 32).map BlockedEntry.bytes).flatten)
  else refusedWith .badValue s

end Sys2Proof.Machine
end

