-- ==== Sys2Proof/Machine/Plan.lean ====
section
/-! DEFINITION. The orders of the seat plan (chapter 1): the cursor's three orders, and what a PLAN PUT asks of the
other units. -/

namespace Sys2Proof.Machine

/-- The read buffer and the index after a preload at an index (R7, R10): the record of the seat at the index is copied and
the index goes one up; at 512 the buffer is empty and the index stays. -/
def preload (plan : Vector PlanRecord 512) (index : Fin 513) : Cursor :=
  if lt : index.val < 512 then ⟨⟨index.val + 1, by omega⟩, .read, some (⟨index.val, lt⟩, plan[index.val])⟩
  else ⟨index, .read, none⟩

/-- PLAN SEEK (R7). -/
def takePlanSeek (index : Half) (direction : Byte) (s : State) : Taken :=
  match seatOf index, directionOf direction with
  | some seat, some .write => answeredOk (s.setCursor ⟨seat.castSucc, .write, none⟩) []
  | some seat, some .read => answeredOk (s.setCursor (preload s.plan seat.castSucc)) []
  | _, _ => refusedWith .badValue s

/-- PLAN GET (R10): the copy in the read buffer is returned and the buffer refilled. -/
def takePlanGet (s : State) : Taken :=
  match s.cursor.direction, s.cursor.buffer with
  | .write, _ => refusedWith .wrongDirection s
  | .read, none => refusedWith .atEnd s
  | .read, some (seat, record) =>
    answeredOk (s.setCursor (preload s.plan s.cursor.index)) (seatBytes seat ++ record.bytes)

/-- The records other than that of a seat that hold class CHAIR (R5). -/
def otherChairs (plan : Vector PlanRecord 512) (seat : Seat) : Nat :=
  (List.finRange 512).countP fun i => i ≠ seat && plan[i].cls == .chair

/-- The requests of a seat that leaves class DELEGATE (R13). -/
def leaveDelegate (seat : Seat) (now : SeatClass) (s : State) : State :=
  let dropped := dropBindings seat false (leaveQueue seat .plan (closeSeat seat .plan s))
  if now = .vacant ∨ now = .listener then setLocked seat false dropped else dropped

/-- The requests of a seat that leaves class CHAIR (R14): the chair is withdrawn and its record removed. That they come after
the re-check of R12 is the model's choice (log entry 40). -/
def leaveChair (seat : Seat) (now : SeatClass) (s : State) : State :=
  let withdrawn := withdrawChair seat s
  let removed := setChairs (withdrawn.floor.chairs.filter fun c => c.seat ≠ seat) withdrawn
  if now = .vacant ∨ now = .listener then setLocked seat false removed else removed

/-- A chair record as it is added (R91). -/
def ChairRecord.added (seat : Seat) : ChairRecord := ⟨seat, false, false, 0, false, false⟩

/-- The chair records with one added, in ascending order of seat. -/
def insertChair (c : ChairRecord) (cs : List ChairRecord) : List ChairRecord :=
  cs.takeWhile (fun x => decide (x.seat < c.seat)) ++ c :: cs.dropWhile (fun x => decide (x.seat < c.seat))

/-- A seat becomes CHAIR: a chair microphone is added, CLOSED (R14, R91); after the re-check of R12 by the model's choice (log
entry 40). -/
def addChair (seat : Seat) (s : State) : State := setChairs (insertChair (ChairRecord.added seat) s.floor.chairs) s

/-- What a change of class asks of the allocator and the queue. R13 has the requests of a seat that leaves DELEGATE made after
the re-check; R14 gives no order for those of a seat that leaves or becomes CHAIR, and that they come after it too, CHAIR MIC
and PRIORITY OFF following a SEAT BLOCKED, is a DESIGN CHOICE (log entry 40). -/
def classRequests (seat : Seat) (before now : SeatClass) (s : State) : State :=
  if before = now then s
  else
    let left := match before with
      | .delegate => leaveDelegate seat now s
      | .chair => leaveChair seat now s
      | _ => s
    if now = .chair then addChair seat left else left

/-- A PLAN PUT that passes its tests (R9, R12 to R15): the record is written and the index advanced, the units are
re-checked, and the requests of the class change are made. The re-check comes first by R13 for a seat that leaves DELEGATE, and
by the model's choice for one that leaves or becomes CHAIR, where R14 gives no order (DESIGN CHOICE, log entry 40). -/
def writePlan (seat : Seat) (record : PlanRecord) (s : State) : State :=
  let written := (s.setPlan (put s.plan seat record)).setCursor { s.cursor with index := seat.succ }
  classRequests seat (classOf s seat) record.cls (recheckSeat seat written)

/-- PLAN PUT (R8): the tests in the order of the table, then the write. -/
def takePlanPut (cls locWing locPosition delegation voice : Byte) (s : State) : Taken :=
  if s.cursor.direction = .read then refusedWith .wrongDirection s
  else if lt : s.cursor.index.val < 512 then
    let seat : Seat := ⟨s.cursor.index.val, lt⟩
    match planRecordOf cls locWing locPosition delegation voice with
    | none => refusedWith .badValue s
    | some record =>
      if record.cls = .chair ∧ Config.chairLimit ≤ otherChairs s.plan seat then refusedWith .limit s
      else answeredOk (writePlan seat record s) (seatBytes seat)
  else refusedWith .atEnd s

end Sys2Proof.Machine
end

