-- ==== Sys2Proof/Machine/Profile.lean ====
section
/-! DEFINITION. The profile unit (chapter 8): the sampling of the PSEL pins, the qualification of a sample, and the
profile orders. -/

namespace Sys2Proof.Machine

/-- The debounce state after a sample (R141). -/
def Profiles.sample (p : Profiles) (pins : ProfileNo) : Profiles :=
  if p.lastSample = some pins then { p with stable := min (p.stable + 1) 3 }
  else { p with lastSample := some pins, stable := 1 }

/-- The number that qualifies: the last sample, under EXTERNAL, at a stable count of 3, when it differs from the profile
in force (R141). -/
def Profiles.qualified (p : Profiles) : Option ProfileNo :=
  match p.lastSample with
  | some n => if p.source = .external ∧ p.stable = 3 ∧ n ≠ p.inForce then some n else none
  | none => none

/-- The qualification test: a qualifying sample comes into force with cause PINS (R141, R144). -/
def qualifyPins (s : State) : State :=
  match s.profiles.qualified with
  | some n => changeProfile n .pins s
  | none => s

/-- PSEL_SAMPLE (R141): the debounce state is updated, then the qualification test is made. -/
def execPselSample (pins : BitVec 4) (s : State) : Host.Outcome State Fault Refusal :=
  whileRunning s fun s => qualifyPins (s.setProfiles (s.profiles.sample pins.toFin))

/-- PROFILE_PINS_QUALIFY (R141): the qualification test of the debounce state as it stands (log entry 5). -/
def execProfilePinsQualify (s : State) : Host.Outcome State Fault Refusal := whileRunning s qualifyPins

/-- PROFILE PUT (R137, R138). -/
def takeProfilePut (number : Byte) (record : RawProfile) (s : State) : Taken :=
  match profileNoOf number, profileOf record with
  | some n, some p =>
    let written := s.setProfiles { s.profiles with records := put s.profiles.records n p }
    answeredOk (if n = s.profiles.inForce then changeProfile n .put written else written)
      [number, boolByte (n == s.profiles.inForce)]
  | _, _ => refusedWith .badValue s

/-- PROFILE GET (R139). -/
def takeProfileGet (number : Byte) (s : State) : Taken :=
  match profileNoOf number with
  | none => refusedWith .badValue s
  | some n => answeredOk s ([number, boolByte (n == s.profiles.inForce)] ++ (s.profiles.records[n]).bytes)

/-- The internally selected number comes into force, as a change when it differs from the profile in force (R140). -/
def applySelected (cause : ChangeCause) (s : State) : State :=
  if s.profiles.selected = s.profiles.inForce then s else changeProfile s.profiles.selected cause s

/-- PROFILE SELECT (R142). -/
def takeProfileSelect (number : Byte) (s : State) : Taken :=
  match profileNoOf number with
  | none => refusedWith .badValue s
  | some n =>
    let stored := s.setProfiles { s.profiles with selected := n }
    let done := if s.profiles.source = .internal then applySelected .select stored else stored
    answeredOk done [number, done.profiles.source.code, byteOf done.profiles.inForce.val]

/-- PROFILE SOURCE (R143). -/
def takeProfileSource (source : Byte) (s : State) : Taken :=
  match sourceOf source with
  | none => refusedWith .badValue s
  | some src =>
    let set := s.setProfiles { s.profiles with source := src }
    let done := if src = .internal then applySelected .source set else set
    answeredOk done [src.code, byteOf done.profiles.selected.val, byteOf done.profiles.inForce.val]

/-- The limits of an occupied slot as PROFILE IN FORCE carries them (R145). -/
def limitRecord (s : State) (n : SlotNo) : List Byte :=
  match s.floor.slots[n] with
  | none => []
  | some sl =>
    byteOf (slotNumber n) :: seatBytes sl.seat ++ halfOf (sl.override.getD 0) ++ halfOf (effectiveLimit s sl)

/-- The last pin sample in one byte, 0xFF when absent. -/
def sampleByte (o : Option ProfileNo) : Byte :=
  match o with
  | some n => byteOf n.val
  | none => 0xFF

/-- PROFILE IN FORCE (R145). -/
def takeProfileInForce (s : State) : Taken :=
  let p := s.profiles
  answeredOk s
    ([byteOf p.inForce.val, p.source.code, byteOf p.selected.val, sampleByte p.lastSample, byteOf p.stable]
      ++ (inForce s).bytes ++ byteOf s.floor.speakers.length :: (s.floor.speakers.map (limitRecord s)).flatten)

end Sys2Proof.Machine
end

