-- ==== Sys2Proof/Machine/Queue.lean ====
section
/-! DEFINITION. The orders of the request queue (chapter 4) and of the list state (chapter 9). -/

namespace Sys2Proof.Machine

/-- QUEUE ADD (R65, R66): the tests in the order of the table, then the entry is made or renewed. The answer carries the
place at which the entry stands after the order; for an entry granted within the order the manual states none, and the byte is
open (log entry 2). -/
def takeQueueAdd (seat : Half) (kind : Byte) (target : Half) (s : State) : Taken :=
  match seatOf seat, entryKindOf kind, targetOf target with
  | some x, some k, some t =>
    if s.queue.draining then refusedWith .notPermitted s
    else if classOf s x ≠ .delegate ∨ isReady s x = false then refusedWith .notEligible s
    else if (s.floor.slotOf x).isSome then refusedWith .held s
    else if t.any (fun y => y == x || classOf s y != .delegate) then refusedWith .badValue s
    else if !hasEntry s x && s.queue.isFull then refusedWith .full s
    else
      let entered := enterQueue ⟨x, k, t, false, s.link.clock, .link⟩ (hasEntry s x) s
      if hasEntry entered x then answeredOk entered (seatBytes x ++ [byteOf (entered.queue.placeOf x)])
      else answeredOk (entered.setDraws (s.draws + 1)) (seatBytes x ++ [Config.unstatedByte s.draws 0])
  | _, _, _ => refusedWith .badValue s

/-- QUEUE DROP (R72). -/
def takeQueueDrop (seat : Half) (s : State) : Taken :=
  match seatOf seat with
  | none => refusedWith .badValue s
  | some x =>
    if hasEntry s x then answeredOk (leaveQueue x .link s) (seatBytes x ++ [byteOf (s.queue.placeOf x)])
    else refusedWith .notFound s

/-- Every entry leaves, from the head to the tail, with one reason and no drain end test between (R73). -/
def emptyQueue (reason : LeaveReason) (s : State) : State :=
  s.queue.entries.foldl (fun s e => takeOut e.seat reason s) s

/-- QUEUE EMPTY (R73): the drain end test is made once, after the last removal. -/
def takeQueueEmpty (s : State) : Taken :=
  let n := s.queue.entries.length
  answeredOk (if n = 0 then s else drainEndTest (emptyQueue .emptied s)) [byteOf n]

/-- The eligibility codes (section 11.3). -/
def Eligibility.code : Eligibility → Byte
  | .eligible => 0 | .notDelegate => 1 | .notReady => 2 | .masked => 3 | .locked => 4 | .awaitingReply => 5

/-- An entry record of QUEUE READ (R74, section 11.2). -/
def entryRecord (s : State) (e : QueueEntry) (place : Nat) : List Byte :=
  byteOf place :: seatBytes e.seat ++ [e.kind.code, e.source.code] ++ optionalSeatBytes e.target ++ [boolByte e.heard]
    ++ wordBytes e.time ++ [(eligibility s e).code]

/-- The place of the first eligible entry, 0xFF for none (R74). -/
def firstPlace (s : State) : Byte :=
  match s.queue.entries.findIdx? (isEligible s) with
  | some n => byteOf n
  | none => 0xFF

/-- QUEUE READ (R74). -/
def takeQueueRead (start count : Byte) (s : State) : Taken :=
  match numberIn 0 127 start.toNat, numberIn 1 16 count.toNat with
  | some p, some n =>
    let es := s.queue.entries
    answeredOk s
      ([byteOf es.length, byteOf (es.countP QueueEntry.isPriority), firstPlace s]
        ++ ((((es.zipIdx).drop p).take n).map fun x => entryRecord s x.1 x.2).flatten)
  | _, _ => refusedWith .badValue s

/-- LIST CLOSE (R148). -/
def takeListClose (limit : Half) (s : State) : Taken :=
  match numberIn 1 Config.longestLimit limit.toNat with
  | none => refusedWith .badValue s
  | some n =>
    if s.queue.draining then refusedWith .notPermitted s
    else answeredOk (drainEndTest (advanceCheck (setList .draining (some n) s)))
      (halfBytes limit ++ [byteOf s.queue.entries.length])

/-- LIST OPEN (R149). -/
def takeListOpen (s : State) : Taken :=
  answeredOk (if s.queue.draining then setList .open none s else s)
    [boolByte s.queue.draining, byteOf s.queue.entries.length]

end Sys2Proof.Machine
end

