-- ==== Sys2Proof/Machine/Link.lean ====
section
/-! DEFINITION. The order unit and the control link (chapter 10): the orders of the link, the delivery of an order to the
unit that owns it, the answer, the receive stage, the transmitter and the floor clock. -/

namespace Sys2Proof.Machine

/-! ### Orders of the link -/

/-- STATUS (R164). -/
def takeStatus (s : State) : Taken :=
  answeredOk s
    ([byteOf s.queue.entries.length, byteOf s.floor.occupied] ++ halfOf s.allowance.lowList.length
      ++ halfOf s.allowance.recovered.length ++ halfOf s.trunks.blocked.length)

/-- IDENTIFY (R164, section 11.2): the part code, the interface version and the count limits. -/
def takeIdentify (s : State) : Taken :=
  answeredOk s
    (halfBytes Config.partCode ++ [1] ++ halfOf 512 ++ [4, 128, 8, 128, 4] ++ halfOf 576 ++ [16, 32])

/-- NOTICE MASK (R161). -/
def takeNoticeMask (mask : BitVec 24) (s : State) : Taken :=
  if mask.toNat < 2 ^ 20 then
    answeredOk
      (s.setLink { s.link with mask := mask, conditions := s.link.conditions && conditionsEnabled mask })
      (tripleBytes mask)
  else refusedWith .badValue s

/-! ### Delivery and answers -/

/-- An order is delivered to the unit that owns it, which takes it by its own rule (R155, section 10.7). A command that is
no order is delivered to no unit. -/
def deliver (i : Instr) (s : State) : Taken :=
  match i with
  | .planSeek index direction => takePlanSeek index direction s
  | .planPut cls locWing locPosition delegation voice => takePlanPut cls locWing locPosition delegation voice s
  | .planGet => takePlanGet s
  | .seatAssign wing position seat => takeSeatAssign wing position seat s
  | .trunkRead wing start count => takeTrunkRead wing start count s
  | .blockedRead start => takeBlockedRead start s
  | .trunkRestart wing => takeTrunkRestart wing s
  | .queueAdd seat kind target => takeQueueAdd seat kind target s
  | .queueDrop seat => takeQueueDrop seat s
  | .queueEmpty => takeQueueEmpty s
  | .queueRead start count => takeQueueRead start count s
  | .floorGrant seat protect => takeFloorGrant seat protect s
  | .floorNext => takeFloorNext s
  | .floorRevoke seat => takeFloorRevoke seat s
  | .floorClear => takeFloorClear s
  | .floorRead start => takeFloorRead start s
  | .wingMask mask => takeWingMask mask s
  | .unlock seat => takeUnlock seat s
  | .floorReset => takeFloorReset s
  | .floorExtend seat decis => takeFloorExtend seat decis s
  | .accountSet account balance cap rate low delta => takeAccountSet account balance cap rate low delta s
  | .accountRead start count => takeAccountRead start count s
  | .lowRead count => takeLowRead count s
  | .recoveredRead count => takeRecoveredRead count s
  | .profilePut number record => takeProfilePut number record s
  | .profileGet number => takeProfileGet number s
  | .profileSelect number => takeProfileSelect number s
  | .profileSource source => takeProfileSource source s
  | .profileInForce => takeProfileInForce s
  | .listClose limit => takeListClose limit s
  | .listOpen => takeListOpen s
  | .status => takeStatus s
  | .noticeMask mask => takeNoticeMask mask s
  | .identify => takeIdentify s
  | _ => refusedWith .unknown s

/-- An answer is placed in the answer register; a STATUS answer clears the renewal marks of both latches (R156, R158). -/
def placeAnswer (a : Answer) (s : State) : State :=
  s.setLink { s.link with
    answer := .full a
    lostMark := s.link.lostMark && !a.isStatus
    droppedMark := s.link.droppedMark && !a.isStatus }

/-- The answer to an order that was taken (R156): the summary is the one after the order, and an answer whose code is not
OK carries no data. -/
def answerTo (kind : Byte) (t : Taken) : Answer :=
  ⟨kind + 0x80, t.code, summary t.state, if t.code = .ok then t.data else []⟩

/-- The place of the answer is kept while the order is taken (log entry 3). -/
def oweAnswer (s : State) : State := s.setLink { s.link with answer := .owed }

/-- An order is taken in full and its answer built (R155, R156). -/
def takeOrder (i : Instr) (s : State) : State :=
  let t := deliver i (oweAnswer s)
  placeAnswer (answerTo ((orderKind i).getD 0) t) t.state

/-- An answer to a frame that R155 does not deliver. -/
def undelivered (kind : Byte) (code : ResultCode) (s : State) : State := placeAnswer ⟨kind, code, summary s, []⟩ s

/-- A frame is taken (R155). -/
def takeFrame (frame : List Byte) (s : State) : State :=
  match readFrame frame with
  | .badCheck => undelivered rejectKind .check s
  | .unknownKind => undelivered rejectKind .unknown s
  | .badLength kind => undelivered (kind + 0x80) .badLength s
  | .order i => takeOrder i s

/-! ### The transmitter -/

/-- The transmitter begins the answer in the register: the register empties, and a held frame is taken at once (R154,
R162). -/
def beginAnswer (a : Answer) (s : State) : State :=
  match s.link.heldFrame with
  | none => s.setLink { s.link with answer := .empty, tx := .sending (.answer a) }
  | some frame =>
    takeFrame frame (s.setLink { s.link with answer := .empty, tx := .sending (.answer a), heldFrame := none })

/-- The idle transmitter chooses its next frame: the answer, then the CONDITIONS notice, then the oldest notice (R162). -/
def chooseFrame (s : State) : State :=
  if s.link.tx = .idle then
    match s.link.answer with
    | .full a => beginAnswer a s
    | _ => s.setLink (s.link.startWaiting (ownerBits s))
  else s

/-- The last byte of an answer has gone: after a STATUS answer, each latch that it reported set and that was not renewed
is cleared, and each clearing is a change of the summary (R158). -/
def reportSent (a : Answer) (s : State) : State :=
  if a.isStatus then
    let lostSeen := if a.summary.noticesLost && s.link.lost && !s.link.lostMark then
        s.setLink (Link.raise (ownerBits s) { s.link with lost := false }) else s
    if a.summary.orderDropped && lostSeen.link.dropped && !lostSeen.link.droppedMark then
      lostSeen.setLink (Link.raise (ownerBits lostSeen) { lostSeen.link with dropped := false })
    else lostSeen
  else s

/-- The transmitter finishes a frame and chooses the next (R162). At the end of a STATUS answer the waiting answer begins and
the held frame is taken in the same step (R154, R162), so a frame that completes after it is held and sets no latch, where row 5
of the table of R167 has it dropped and ORDER_DROPPED set again: a DESIGN CHOICE (log entry 41). -/
def finishFrame (s : State) : State :=
  match s.link.tx with
  | .idle => s
  | .sending (.answer a) =>
    let sent := reportSent a s
    chooseFrame (sent.setLink { sent.link with tx := .idle })
  | .sending _ => chooseFrame (s.setLink { s.link with tx := .idle })

/-! ### Frames in -/

/-- A complete frame finds the answer register full: it is held, or dropped (R154); after the end of a STATUS answer it is held,
by the model's choice beside row 5 of R167 (log entry 41). -/
def holdFrame (frame : List Byte) (s : State) : State :=
  match s.link.heldFrame with
  | none => s.setLink { s.link with heldFrame := some frame }
  | some _ => s.setLink (s.link.dropFrame (ownerBits s))

/-- A complete frame is handed on (R154). -/
def handOn (frame : List Byte) (s : State) : State :=
  match s.link.answer with
  | .empty => chooseFrame (takeFrame frame s)
  | _ => holdFrame frame s

/-- The frame of an order has arrived whole (R154): with the answer register empty the order is taken, otherwise its frame
is held or dropped. -/
def submitOrder (i : Instr) (s : State) : State :=
  match s.link.answer with
  | .empty => chooseFrame (takeOrder i s)
  | _ => holdFrame (orderFrame i) s

/-- A command that is an order: its frame completes on the control link. -/
def submit (i : Instr) (s : State) : Host.Outcome State Fault Refusal := whileRunning s (submitOrder i)

/-- Sets the receive stage. -/
def setStage (stage : ReceiveStage) (s : State) : State := s.setLink { s.link with stage := stage }

/-- A byte arrives at the receive stage (R153). -/
def receive (b : Byte) (s : State) : State :=
  match s.link.stage with
  | .hunt => if b = 0x7E then setStage .length s else s
  | .length => if b.toNat = 0 ∨ 250 < b.toNat then setStage .hunt s else setStage (.frame b []) s
  | .frame len bytes =>
    if len.toNat + 1 ≤ bytes.length + 1 then handOn (len :: bytes ++ [b]) (setStage .hunt s)
    else setStage (.frame len (bytes ++ [b])) s

/-! ### Events -/

/-- RECEIVE_BYTE (R153, R154). -/
def execReceiveByte (b : Byte) (s : State) : Host.Outcome State Fault Refusal := whileRunning s (receive b)

/-- RECEIVE_GAP_TIMEOUT (R153): the partial frame is discarded and the stage returns to HUNT. -/
def execReceiveGapTimeout (s : State) : Host.Outcome State Fault Refusal := whileRunning s (setStage .hunt)

/-- TRANSMIT_FRAME_END (R158, R162). -/
def execTransmitFrameEnd (s : State) : Host.Outcome State Fault Refusal := whileRunning s finishFrame

/-- The floor clock goes up by one, modulo 2^32 (R166). -/
def countDeci (s : State) : State := s.setLink { s.link with clock := s.link.clock + 1 }

/-- RESTARTED is posted, once for each reset, with the floor clock as the deci just ended has left it (R165). -/
def postRestarted (s : State) : State := post .restarted (s.setLink { s.link with restart := .posted })

/-- A deci ends at the order unit: the floor clock counts it, and at the first deci after a reset RESTARTED is posted (R165,
R166). -/
def endDeci (s : State) : State :=
  match s.link.restart with
  | .fresh => postRestarted (countDeci s)
  | .posted => countDeci s

/-- DECI_EXPIRY (R165, R166). -/
def execDeciExpiry (s : State) : Host.Outcome State Fault Refusal := whileRunning s endDeci

/-- RESTARTED (R165): the command names the first deci expiry of the order unit after a reset, and is that expiry while no
deci has ended; once RESTARTED is posted it has no effect (log entry 24). -/
def execRestarted (s : State) : Host.Outcome State Fault Refusal :=
  whileRunning s fun s =>
    match s.link.restart with
    | .fresh => endDeci s
    | .posted => s

end Sys2Proof.Machine
end

