-- ==== Sys2Proof/Machine/Orders.lean ====
section
/-! DEFINITION. The orders as commands: each is its frame completing on the control link, which is taken, held or dropped by
R154 and, when it is taken, has the effect its rule gives (`deliver`). -/

namespace Sys2Proof.Machine

/-- PLAN SEEK (R7). -/
def execPlanSeek (index : Half) (direction : Byte) (s : State) : Host.Outcome State Fault Refusal :=
  submit (.planSeek index direction) s

/-- PLAN PUT (R8 to R15). -/
def execPlanPut (cls locWing locPosition delegation voice : Byte) (s : State) : Host.Outcome State Fault Refusal :=
  submit (.planPut cls locWing locPosition delegation voice) s

/-- PLAN GET (R10). -/
def execPlanGet (s : State) : Host.Outcome State Fault Refusal :=
  submit .planGet s

/-- SEAT ASSIGN (R33). -/
def execSeatAssign (wing position : Byte) (seat : Half) (s : State) : Host.Outcome State Fault Refusal :=
  submit (.seatAssign wing position seat) s

/-- TRUNK READ (R37). -/
def execTrunkRead (wing start count : Byte) (s : State) : Host.Outcome State Fault Refusal :=
  submit (.trunkRead wing start count) s

/-- BLOCKED READ (R32). -/
def execBlockedRead (start : Half) (s : State) : Host.Outcome State Fault Refusal :=
  submit (.blockedRead start) s

/-- TRUNK RESTART (R36). -/
def execTrunkRestart (wing : Byte) (s : State) : Host.Outcome State Fault Refusal :=
  submit (.trunkRestart wing) s

/-- QUEUE ADD (R65, R66). -/
def execQueueAdd (seat : Half) (kind : Byte) (target : Half) (s : State) : Host.Outcome State Fault Refusal :=
  submit (.queueAdd seat kind target) s

/-- QUEUE DROP (R72). -/
def execQueueDrop (seat : Half) (s : State) : Host.Outcome State Fault Refusal :=
  submit (.queueDrop seat) s

/-- QUEUE EMPTY (R73). -/
def execQueueEmpty (s : State) : Host.Outcome State Fault Refusal :=
  submit .queueEmpty s

/-- QUEUE READ (R74). -/
def execQueueRead (start count : Byte) (s : State) : Host.Outcome State Fault Refusal :=
  submit (.queueRead start count) s

/-- FLOOR GRANT (R100). -/
def execFloorGrant (seat : Half) (protect : Byte) (s : State) : Host.Outcome State Fault Refusal :=
  submit (.floorGrant seat protect) s

/-- FLOOR NEXT (R101). -/
def execFloorNext (s : State) : Host.Outcome State Fault Refusal :=
  submit .floorNext s

/-- FLOOR REVOKE (R102). -/
def execFloorRevoke (seat : Half) (s : State) : Host.Outcome State Fault Refusal :=
  submit (.floorRevoke seat) s

/-- FLOOR CLEAR (R103). -/
def execFloorClear (s : State) : Host.Outcome State Fault Refusal :=
  submit .floorClear s

/-- FLOOR READ (R104). -/
def execFloorRead (start : Half) (s : State) : Host.Outcome State Fault Refusal :=
  submit (.floorRead start) s

/-- WING MASK (R98). -/
def execWingMask (mask : Byte) (s : State) : Host.Outcome State Fault Refusal :=
  submit (.wingMask mask) s

/-- UNLOCK (R97). -/
def execUnlock (seat : Half) (s : State) : Host.Outcome State Fault Refusal :=
  submit (.unlock seat) s

/-- FLOOR RESET (R105). -/
def execFloorReset (s : State) : Host.Outcome State Fault Refusal :=
  submit .floorReset s

/-- FLOOR EXTEND (R114). -/
def execFloorExtend (seat decis : Half) (s : State) : Host.Outcome State Fault Refusal :=
  submit (.floorExtend seat decis) s

/-- ACCOUNT SET (R130, R131). -/
def execAccountSet (account : Half) (balance : BitVec 32) (cap rate low delta : Half) (s : State) : Host.Outcome State Fault Refusal :=
  submit (.accountSet account balance cap rate low delta) s

/-- ACCOUNT READ (R132). -/
def execAccountRead (start : Half) (count : Byte) (s : State) : Host.Outcome State Fault Refusal :=
  submit (.accountRead start count) s

/-- LOW READ (R128). -/
def execLowRead (count : Byte) (s : State) : Host.Outcome State Fault Refusal :=
  submit (.lowRead count) s

/-- RECOVERED READ (R129). -/
def execRecoveredRead (count : Byte) (s : State) : Host.Outcome State Fault Refusal :=
  submit (.recoveredRead count) s

/-- PROFILE PUT (R137, R138). -/
def execProfilePut (number : Byte) (record : RawProfile) (s : State) : Host.Outcome State Fault Refusal :=
  submit (.profilePut number record) s

/-- PROFILE GET (R139). -/
def execProfileGet (number : Byte) (s : State) : Host.Outcome State Fault Refusal :=
  submit (.profileGet number) s

/-- PROFILE SELECT (R142). -/
def execProfileSelect (number : Byte) (s : State) : Host.Outcome State Fault Refusal :=
  submit (.profileSelect number) s

/-- PROFILE SOURCE (R143). -/
def execProfileSource (source : Byte) (s : State) : Host.Outcome State Fault Refusal :=
  submit (.profileSource source) s

/-- PROFILE IN FORCE (R145). -/
def execProfileInForce (s : State) : Host.Outcome State Fault Refusal :=
  submit .profileInForce s

/-- LIST CLOSE (R148). -/
def execListClose (limit : Half) (s : State) : Host.Outcome State Fault Refusal :=
  submit (.listClose limit) s

/-- LIST OPEN (R149). -/
def execListOpen (s : State) : Host.Outcome State Fault Refusal :=
  submit .listOpen s

/-- STATUS (R164). -/
def execStatus (s : State) : Host.Outcome State Fault Refusal :=
  submit .status s

/-- NOTICE MASK (R161). -/
def execNoticeMask (mask : BitVec 24) (s : State) : Host.Outcome State Fault Refusal :=
  submit (.noticeMask mask) s

/-- IDENTIFY (R164). -/
def execIdentify (s : State) : Host.Outcome State Fault Refusal :=
  submit .identify s

end Sys2Proof.Machine
end

