-- ==== Sys2Proof/Machine/Power.lean ====
section
/-! DEFINITION. Power-up, the RESET pin and the reference clock (R170). -/

namespace Sys2Proof.Machine

/-- Every unit takes its power-reset state. The commands still waiting, the level of the RESET pin and the model's draw
counter are no part of a unit. -/
def powerUp (s : State) : State :=
  { State.reset with pending := s.pending, resetHeld := s.resetHeld, draws := s.draws }

/-- POWER_RESET (R170): power-up. A RESET pin held low through it stays low. -/
def execPowerReset (s : State) : Host.Outcome State Fault Refusal := .next (powerUp s)

/-- RESET_HELD_LOW (R170): RESET is low, and every unit is held in its power-reset state until it goes high. -/
def execResetHeldLow (s : State) : Host.Outcome State Fault Refusal := .next { powerUp s with resetHeld := true }

/-- Whether a low pulse of `ns` nanoseconds is taken as a reset (R170): not below 1 µs, always from 10 µs on, and either
way between (log entry 1). -/
def pulseResets (draws ns : Nat) : Bool :=
  if ns < 1000 then false
  else if 10000 ≤ ns then true
  else Config.shortPulseResets draws

/-- RESET_PIN (R170): RESET goes high after a low pulse. A level that RESET_HELD_LOW has held has been taken as a reset
already, and the part leaves it; otherwise the length of the pulse decides. Between 1 µs and 10 µs the open outcome uses up one
draw. -/
def execResetPin (ns : Nat) (s : State) : Host.Outcome State Fault Refusal :=
  if s.resetHeld then .next { powerUp s with resetHeld := false }
  else
    let drawn := if 1000 ≤ ns ∧ ns < 10000 then s.setDraws (s.draws + 1) else s
    if pulseResets s.draws ns then .next (powerUp drawn) else .next drawn

/-- REFCLK_RETURNS (R170): the part resumes from the state it held. The gap measurement that restarts is no part of the
state: RECEIVE_GAP_TIMEOUT says when a gap has passed 5 ms (log entry 8). -/
def execRefclkReturns (s : State) : Host.Outcome State Fault Refusal := .next s

end Sys2Proof.Machine
end

