-- ==== Sys2Proof/Machine/Timing.lean ====
section
/-! DEFINITION. Speech timing (chapter 6): the deci expiry at the allocator and the limit test of one slot. -/

namespace Sys2Proof.Machine

/-- Step 1 of R109: elapsed goes up by one when the slot is OPEN, and stays at 65535. -/
def Slot.count (sl : Slot) : Slot :=
  if sl.condition = .open then { sl with elapsed := min (sl.elapsed + 1) Config.elapsedTop } else sl

/-- The limit test finds the slot at its limit (R110). -/
def atLimit (s : State) (sl : Slot) : Bool := effectiveLimit s sl != 0 && decide (effectiveLimit s sl ≤ sl.elapsed)

/-- The warning test finds the slot to be warned (R111). -/
def toWarn (s : State) (sl : Slot) : Bool :=
  effectiveLimit s sl != 0 && (inForce s).warningLead != 0 && !sl.warned
    && decide (effectiveLimit s sl ≤ sl.elapsed + (inForce s).warningLead)

/-- The warning clear test finds a warned slot to be cleared (R112). -/
def toClear (s : State) (sl : Slot) : Bool :=
  sl.warned && (effectiveLimit s sl == 0 || decide (sl.elapsed + (inForce s).warningLead < effectiveLimit s sl))

/-- The warning test and the warning clear test of a slot that stays open (R111, R112). -/
def warnSlot (n : SlotNo) (sl : Slot) (s : State) : State :=
  if toWarn s sl then
    post (.speechWarning n sl.seat (effectiveLimit s sl - sl.elapsed) (effectiveLimit s sl))
      (s.setFloor (s.floor.mapSlot n fun sl => { sl with warned := true }))
  else if toClear s sl then s.setFloor (s.floor.mapSlot n fun sl => { sl with warned := false })
  else s

/-- One slot at the deci expiry, in the four steps of R109. A slot that is free at its turn is skipped. -/
def timeSlot (s : State) (n : SlotNo) : State :=
  match s.floor.slots[n] with
  | none => s
  | some sl =>
    let counted := s.setFloor (s.floor.mapSlot n Slot.count)
    if atLimit s sl.count then closeSlot n .time counted else warnSlot n sl.count counted

/-- SPEECH_TIMING_EXPIRY (R109, R110): the slots occupied when the expiry is taken, from the head of the speaker list, then
one advance check when any of them closed with TIME. The expiry is one step, taken before or after another close and its
advance check, and a slot that such a check opened before the expiry is counted by it: where the last row of the table of
R117 reads otherwise, R109, R110 and R90 are followed (log entry 36). -/
def execSpeechTimingExpiry (s : State) : Host.Outcome State Fault Refusal :=
  whileRunning s fun s =>
    let timed := s.floor.speakers.foldl timeSlot s
    if timed.floor.speakers.length < s.floor.speakers.length then advanceCheck timed else timed

/-- TIME_LIMIT_CLOSE of a slot (R110): the limit test of that slot, and the advance check after a close (log entry 5). -/
def execTimeLimitClose (slot : Nat) (s : State) : Host.Outcome State Fault Refusal :=
  whileRunning s fun s =>
    match slotOfNumber slot with
    | none => s
    | some n =>
      match s.floor.slots[n] with
      | none => s
      | some sl => if atLimit s sl then advanceCheck (closeSlot n .time s) else s

end Sys2Proof.Machine
end

