-- ==== Sys2Proof/Machine/Dispatch.lean ====
section
/-! DEFINITION. The meaning of every command: one arm per constructor, each a direct call of its meaning. -/

namespace Sys2Proof.Machine

def exec (i : Instr) (s : State) : Host.Outcome State Fault Refusal :=
  match i with
  | .powerReset => Sys2Proof.Machine.execPowerReset s
  | .resetPin lowNs => Sys2Proof.Machine.execResetPin lowNs s
  | .receiveByte b => Sys2Proof.Machine.execReceiveByte b s
  | .receiveGapTimeout => Sys2Proof.Machine.execReceiveGapTimeout s
  | .transmitFrameEnd => Sys2Proof.Machine.execTransmitFrameEnd s
  | .deciExpiry => Sys2Proof.Machine.execDeciExpiry s
  | .restarted => Sys2Proof.Machine.execRestarted s
  | .speechTimingExpiry => Sys2Proof.Machine.execSpeechTimingExpiry s
  | .timeLimitClose slot => Sys2Proof.Machine.execTimeLimitClose slot s
  | .allowanceExpiry => Sys2Proof.Machine.execAllowanceExpiry s
  | .seatInputExpiry => Sys2Proof.Machine.execSeatInputExpiry s
  | .silence seat => Sys2Proof.Machine.execSilence seat s
  | .pselSample pins => Sys2Proof.Machine.execPselSample pins s
  | .profilePinsQualify => Sys2Proof.Machine.execProfilePinsQualify s
  | .refusalCountExpiry wing => Sys2Proof.Machine.execRefusalCountExpiry wing s
  | .pollGoodAnswer wing answer => Sys2Proof.Machine.execPollGoodAnswer wing answer s
  | .pollMissedAnswer wing => Sys2Proof.Machine.execPollMissedAnswer wing s
  | .settleComplete wing position => Sys2Proof.Machine.execSettleComplete wing position s
  | .unitLost wing position => Sys2Proof.Machine.execUnitLost wing position s
  | .assignTimeout wing => Sys2Proof.Machine.execAssignTimeout wing s
  | .voiceStart seat => Sys2Proof.Machine.execVoiceStart seat s
  | .howl seat => Sys2Proof.Machine.execHowl seat s
  | .howlClear seat => Sys2Proof.Machine.execHowlClear seat s
  | .planSeek index direction => Sys2Proof.Machine.execPlanSeek index direction s
  | .planPut cls locWing locPosition delegation voice => Sys2Proof.Machine.execPlanPut cls locWing locPosition delegation voice s
  | .planGet => Sys2Proof.Machine.execPlanGet s
  | .seatAssign wing position seat => Sys2Proof.Machine.execSeatAssign wing position seat s
  | .trunkRead wing start count => Sys2Proof.Machine.execTrunkRead wing start count s
  | .blockedRead start => Sys2Proof.Machine.execBlockedRead start s
  | .trunkRestart wing => Sys2Proof.Machine.execTrunkRestart wing s
  | .queueAdd seat kind target => Sys2Proof.Machine.execQueueAdd seat kind target s
  | .queueDrop seat => Sys2Proof.Machine.execQueueDrop seat s
  | .queueEmpty => Sys2Proof.Machine.execQueueEmpty s
  | .queueRead start count => Sys2Proof.Machine.execQueueRead start count s
  | .floorGrant seat protect => Sys2Proof.Machine.execFloorGrant seat protect s
  | .floorNext => Sys2Proof.Machine.execFloorNext s
  | .floorRevoke seat => Sys2Proof.Machine.execFloorRevoke seat s
  | .floorClear => Sys2Proof.Machine.execFloorClear s
  | .floorRead start => Sys2Proof.Machine.execFloorRead start s
  | .wingMask mask => Sys2Proof.Machine.execWingMask mask s
  | .unlock seat => Sys2Proof.Machine.execUnlock seat s
  | .floorReset => Sys2Proof.Machine.execFloorReset s
  | .floorExtend seat decis => Sys2Proof.Machine.execFloorExtend seat decis s
  | .accountSet account balance cap rate low delta => Sys2Proof.Machine.execAccountSet account balance cap rate low delta s
  | .accountRead start count => Sys2Proof.Machine.execAccountRead start count s
  | .lowRead count => Sys2Proof.Machine.execLowRead count s
  | .recoveredRead count => Sys2Proof.Machine.execRecoveredRead count s
  | .profilePut number record => Sys2Proof.Machine.execProfilePut number record s
  | .profileGet number => Sys2Proof.Machine.execProfileGet number s
  | .profileSelect number => Sys2Proof.Machine.execProfileSelect number s
  | .profileSource source => Sys2Proof.Machine.execProfileSource source s
  | .profileInForce => Sys2Proof.Machine.execProfileInForce s
  | .listClose limit => Sys2Proof.Machine.execListClose limit s
  | .listOpen => Sys2Proof.Machine.execListOpen s
  | .status => Sys2Proof.Machine.execStatus s
  | .noticeMask mask => Sys2Proof.Machine.execNoticeMask mask s
  | .identify => Sys2Proof.Machine.execIdentify s
  | .pollSent wing => Sys2Proof.Machine.execPollSent wing s
  | .resetHeldLow => Sys2Proof.Machine.execResetHeldLow s
  | .refclkReturns => Sys2Proof.Machine.execRefclkReturns s

end Sys2Proof.Machine
end

