-- ==== Sys2Proof/Safety.lean ====
section
/-! DEFINITION. What the claims speak of: when the link can take an order and what its answer leaves, and the laws that the
manual says hold of the part at every moment. -/

namespace Sys2Proof.Machine

/-! ### Orders and answers -/

/-- The part runs and takes a frame as it completes: RESET is not held, no answer waits and no frame is held (R154). -/
def TakesOrders (s : State) : Prop :=
  s.resetHeld = false ∧ s.link.answer = .empty ∧ s.link.heldFrame = none

/-- The answer that a frame of an order kind gets (R156): KIND + 0x80, the result code, the condition summary as it stands
in `s`, and the data. -/
def answerIn (s : State) (kind : Byte) (code : ResultCode) (data : List Byte) : Answer :=
  ⟨kind + 0x80, code, summary s, data⟩

/-- The state with an answer handed to the transmitter: an idle one begins it at once, and otherwise it waits in the
answer register (R156, R162). -/
def withAnswer (a : Answer) (s : State) : State :=
  s.setLink (match s.link.tx with
    | .idle => { s.link with answer := .empty, tx := .sending (.answer a) }
    | .sending _ => { s.link with answer := .full a })

/-- The state with an order of a kind answered. -/
def answered (kind : Byte) (code : ResultCode) (data : List Byte) (s : State) : State :=
  withAnswer (answerIn s kind code data) s

/-- `t` holds the answer to an order taken in `s`: its summary is the one of `t`, and the transmitter sends it when it was
idle in `s` (R156, R162). -/
def Answers (s t : State) (kind : Byte) (code : ResultCode) (data : List Byte) : Prop :=
  match s.link.tx with
  | .idle => t.link.answer = .empty ∧ t.link.tx = .sending (.answer (answerIn t kind code data))
  | .sending f => t.link.answer = .full (answerIn t kind code data) ∧ t.link.tx = .sending f

/-- Between `s` and `t` the order unit's own stores stay as they were, but for the notices, the CONDITIONS flag, the
NOTICES_LOST latch, the answer and the transmitter; every notice that was queued is still queued, ahead of any new one. -/
structure LinkFrame (s t : State) : Prop where
  stage : t.link.stage = s.link.stage
  heldFrame : t.link.heldFrame = s.link.heldFrame
  clock : t.link.clock = s.link.clock
  mask : t.link.mask = s.link.mask
  restart : t.link.restart = s.link.restart
  dropped : t.link.dropped = s.link.dropped
  droppedMark : t.link.droppedMark = s.link.droppedMark
  queued : s.link.notices <+: t.link.notices

/-- With room for them in the notice queue, exactly the notices `bodies` joined its tail, in that order, but for those whose
kind is masked; each carries the floor clock (R159). -/
def Posts (s t : State) (bodies : List NoticeBody) : Prop :=
  s.link.notices.length + bodies.length ≤ 32 →
    t.link.notices =
      s.link.notices ++ (bodies.filter fun b => b.enabled s.link.mask).map fun b => ⟨s.link.clock, b⟩

/-- The part runs and its transmitter is at work on a frame, so that what is posted waits in the notice queue. -/
def Sending (s : State) : Prop := s.resetHeld = false ∧ s.link.tx ≠ .idle

/-- What is posted waits in the notice queue: the transmitter is at work on a frame, or an answer waits or is owed. -/
def Queues (s : State) : Prop := s.link.tx ≠ .idle ∨ s.link.answer ≠ .empty

/-- The list is OPEN and auto advance is no, so that no close and no new entry grants the floor to another seat (R90). -/
def NoAdvance (s : State) : Prop := s.queue.list = .open ∧ (inForce s).autoAdvance = false

/-- The members of an account that hold a slot (k_h of R120), counted over the slot records. -/
def membersHolding (s : State) (a : AccountNo) : Nat :=
  (List.finRange 8).countP fun n => (s.floor.slots[n]).any fun sl => accountOf s.plan[sl.seat] sl.seat == a

/-- The members of an account that hold a slot in condition OPEN (k_u of R120). -/
def membersOpen (s : State) (a : AccountNo) : Nat :=
  (List.finRange 8).countP fun n => (s.floor.slots[n]).any fun sl =>
    accountOf s.plan[sl.seat] sl.seat == a && sl.condition == .open

/-- The state of an account after the crossing test, from its state before and its new balance (R126). -/
def crossedLow (low : Bool) (threshold delta : Nat) (balance : Int) : Bool :=
  if low then decide (balance < threshold + delta) else decide (balance ≤ threshold)

/-- A field of a profile record lies outside its values, or the warning lead is above a speech limit that is not 0 (R135,
R137). -/
def profileOutOfRange (r : RawProfile) : Prop :=
  3 < r.mode.toNat ∨ r.speakerLimit.toNat = 0 ∨ 8 < r.speakerLimit.toNat ∨ 1 < r.autoAdvance.toNat
    ∨ 1 < r.queueWhenFull.toNat ∨ 1 < r.speakerMayClose.toNat ∨ 36000 < r.speechLimit.toNat
    ∨ 600 < r.warningLead.toNat ∨ 2 < r.allowanceMode.toNat ∨ r.longPress.toNat < 5 ∨ 50 < r.longPress.toNat
    ∨ 7 < r.voiceStep.toNat ∨ r.voiceAttack.toNat = 0 ∨ 8 < r.voiceAttack.toNat ∨ r.voiceRelease.toNat < 5
    ∨ 100 < r.voiceRelease.toNat ∨ r.howlLimit.toNat < 48 ∨ 64 < r.howlLimit.toNat ∨ r.howlCount.toNat = 0
    ∨ 15 < r.howlCount.toNat ∨ 31 < r.blankCount.toNat ∨ 1 < r.lockKind.toNat ∨ r.softRelease.toNat = 0
    ∨ 15 < r.softRelease.toNat ∨ 1 < r.priorityAction.toNat
    ∨ (r.speechLimit.toNat ≠ 0 ∧ r.speechLimit.toNat < r.warningLead.toNat)

/-- The five bytes of a PLAN PUT carry the record `r` (R8, section 11.2): the class by its code, the location as its wing and
position or 0xFF and 0 for none, the delegation, and the voice permit as 1 or 0. -/
def CarriesRecord (cls wing position delegation voice : Byte) (r : PlanRecord) : Prop :=
  cls = r.cls.code ∧ (r.location = none → wing = 0xFF ∧ position = 0) ∧
    (∀ p, r.location = some p → wing.toNat = p.wing.val ∧ position.toNat = p.pos.val + 1) ∧
    delegation.toNat = r.delegation.val ∧ (r.voice = true → voice = 1) ∧ (r.voice = false → voice = 0)

/-- The seat held a slot in `s`. -/
def heldSlot (s : State) (seat : Seat) : Bool := (List.finRange 8).any fun n => (s.floor.slots[n]).any fun sl => sl.seat == seat

/-! ### What shared operations leave -/

/-- A STATUS answer waits in the answer register or is being sent (R158); such an answer has the kind 0x81 and was built
because the order was taken, so its code is OK (log entry 4). -/
def StatusOutstanding (s : State) : Prop :=
  ∃ a : Answer, a.kind = 0x81 ∧ a.code = .ok ∧ (s.link.answer = .full a ∨ s.link.tx = .sending (.answer a))

/-- `t` is `s` with an event of a seat refused (R39, R89): PRESS REFUSED is posted, the refusal count of the unit bound to the
seat is 20, and all else is as it was. -/
def EventRefused (s t : State) (seat : Seat) (event : SeatEvent) (cause : RefusalCause) : Prop :=
  t = { s with link := t.link, trunks := t.trunks } ∧ LinkFrame s t ∧ Posts s t [.pressRefused seat event cause] ∧
    t.trunks.binding = s.trunks.binding ∧ t.trunks.blocked = s.trunks.blocked ∧
    (∀ w : Wing, t.trunks.units[w] = { s.trunks.units[w] with chain := t.trunks.units[w].chain }) ∧
    ∀ p : Place, t.trunks.entryAt p =
      if s.trunks.binding[seat] = some p then (s.trunks.entryAt p).map fun e => { e with refusal := 20 }
      else s.trunks.entryAt p

/-- The floor with slot `n` taken off the speaker list and put at the head of the free-slot order (R82, step 1). -/
def floorClosing (n : SlotNo) (f : Floor) : Floor :=
  { f with slots := put f.slots n none, speakers := f.speakers.erase n, free := n :: f.free }

/-- The floor with a slot record put in slot `n` at the tail of the speaker list, `rest` being the free slots left (R81). -/
def floorOpening (n : SlotNo) (rest : List SlotNo) (sl : Slot) (f : Floor) : Floor :=
  { f with slots := put f.slots n (some sl), speakers := f.speakers ++ [n], free := rest }

/-- The seat records with the blanking of a seat restarted under the profile in force (R51). -/
def blankingRestarted (s : State) (seat : Seat) : Vector (Option SeatRecord) 512 :=
  put s.seats seat ((s.seats[seat]).map fun r =>
    { r with blanking := (inForce s).blankCount, howlRun := 0, releaseRun := 0 })

/-- `t` is `s` with the entry `e`, which stands between `ahead` and `behind`, granted slot `n` with an origin: while the list
is DRAINING the slot is a drain grant with the drain limit as its override (R71, R81, R90). -/
def Grants (s t : State) (ahead behind : List QueueEntry) (e : QueueEntry) (n : SlotNo) (rest : List SlotNo)
    (origin : Origin) : Prop :=
  let drain := decide (s.queue.list = .draining)
  t = { s with
    link := t.link
    seats := blankingRestarted s e.seat
    queue := { s.queue with entries := ahead ++ behind }
    floor := floorOpening n rest ⟨e.seat, .open, origin, false, s.link.clock, 0,
      if drain then s.queue.drainLimit else none, false, 0, drain⟩ s.floor } ∧
    LinkFrame s t ∧
    Posts s t [.queueLeft e.seat e.kind .granted ahead.length, .floorOpened n e.seat origin false drain s.link.clock]

/-- The slot `sl` in slot `n` taken off the floor with a reason, FLOOR CLOSED posted and the entries bound to its seat set
heard (R68, R82, steps 1 to 3): of the close path the drain end test and the advance check are still to come. -/
def closedSlot (n : SlotNo) (sl : Slot) (reason : CloseReason) (s : State) : State :=
  post (.floorClosed n sl.seat reason sl.origin sl.elapsed)
    { s with
      queue := { s.queue with entries := s.queue.entries.map (hearEntry sl.seat) }
      floor := floorClosing n s.floor }

/-- Slots closed one after another with a reason, each by the close path up to its advance check (R82). -/
def closedInTurn (ns : List SlotNo) (reason : CloseReason) (s : State) : State :=
  ns.foldl (fun u n => closeSlot n reason u) s

/-- The entry `e` taken out of the queue with a reason, its drain end test still to come (R70). -/
def takenOut (e : QueueEntry) (reason : LeaveReason) (s : State) : State :=
  post (.queueLeft e.seat e.kind reason (s.queue.entries.findIdx fun x => x.seat == e.seat))
    (setEntries (s.queue.entries.filter fun x => x.seat ≠ e.seat) s)

/-- A drain is at its end (R150). -/
def DrainEnds (s : State) : Prop :=
  s.queue.list = .draining ∧ (∀ (n : SlotNo) (sl : Slot), s.floor.slots[n] = some sl → sl.drainGrant = false) ∧
    ((inForce s).mode = .voice ∨ ∀ e ∈ s.queue.entries, eligibility s e ≠ .eligible)

/-- The notices of the end of a drain that skips the entries `es` from the head (R151). -/
def drainNotices (skips : Nat) (es : List QueueEntry) : List NoticeBody :=
  (es.map fun e => .queueLeft e.seat e.kind .drainSkipped 0) ++ [.listDrained (skips + es.length)]

/-- `t` is `s` with the drain ended: the queue is empty and the list OPEN, and nothing else is touched (R151). -/
def DrainEnded (s t : State) : Prop :=
  t = { s with link := t.link, queue := ⟨[], .open, none, 0⟩ } ∧ LinkFrame s t ∧
    Posts s t (drainNotices s.queue.skips s.queue.entries)

/-- What a change of the profile in force comes to, `s` holding the profile unit as it is after the change: PROFILE CHANGED,
then the slots past the new speaker limit closed from the tail of the speaker list, then one advance check (R99, R144). -/
def profileChange (before : ProfileNo) (cause : ChangeCause) (s : State) : State :=
  advanceCheck (closedInTurn (s.floor.speakers.drop (inForce s).speakerLimit).reverse .profile
    (post (.profileChanged s.profiles.inForce before cause s.profiles.source) s))

/-- The check of R23 that a unit of a type, at a place and with the address of a seat, is the first to fail. -/
def failedCheck (s : State) (p : Place) (unit : UnitType) (seat : Seat) : Option BlockKind :=
  if s.plan[seat].location ≠ none ∧ s.plan[seat].location ≠ some p then some .location
  else if (s.plan[seat].cls = .chair ∧ unit = .delegateUnit) ∨ (s.plan[seat].cls = .delegate ∧ unit = .chairUnit) then
    some .type
  else if s.trunks.binding[seat] ≠ none ∧ s.trunks.binding[seat] ≠ some p then some .duplicate
  else none

/-- The notice of an assignment in flight to a place that fails with a cause; none where no assignment goes there (R35). -/
def assignmentNotices (s : State) (p : Place) (cause : AssignFailure) : List NoticeBody :=
  (s.trunks.units[p.wing].assignment.toList.filter fun a => a.pos = p.pos).map fun a => .assignFailed p a.seat cause

/-- The state a command answers; `s` where it answers none. -/
def stateAfter (c : Instr) (s : State) : State :=
  match exec c s with
  | .next t => t
  | _ => s

/-- The quiet count of a VOICED seat raised by one (R49). -/
def quieter (r : SeatRecord) : SeatRecord := if r.voiced then { r with quietCount := r.quietCount + 1 } else r

/-- The floor that a seat has left: its slot, if it holds one, is closed. -/
def floorLeft (seat : Seat) (f : Floor) : Floor :=
  match f.slotOf seat with
  | some n => floorClosing n f
  | none => f

/-- The entries that a seat has left, its own gone and no reply bound to it (R26, R29, R69). -/
def entriesLeft (seat : Seat) (es : List QueueEntry) : List QueueEntry :=
  (es.filter fun e => e.seat ≠ seat).map fun e => if e.target = some seat then { e with target := none, heard := false } else e

/-- The notices of a seat that leaves the floor and the queue, of which it holds at most one place: the close of its slot,
then the removal of its entry (R26, R29). -/
def leavingNotices (s : State) (seat : Seat) (reason : CloseReason) (leave : LeaveReason) : List NoticeBody :=
  (match s.floor.slotOf seat with
    | some n => (s.floor.slots[n]).toList.map fun sl => .floorClosed n seat reason sl.origin sl.elapsed
    | none => [])
  ++ (s.queue.entryOf seat).toList.map fun e => .queueLeft seat e.kind leave (s.queue.placeOf seat)

/-- The seats bound to the READY units of a wing, in ascending order of position. -/
def seatsOnWing (s : State) (w : Wing) : List Seat :=
  (List.finRange 128).filterMap fun pos =>
    (s.trunks.entryAt ⟨w, pos⟩).bind fun e => if e.presence = .ready then e.addr else none

/-- The seat of a reply target or of a slot is bound on a wing. -/
def boundOn (s : State) (w : Wing) (seat : Seat) : Bool := (s.trunks.binding[seat]).any fun p => p.wing == w

/-- The notices of the loss of the unit at a position of a wing in a restart, after those at lower positions (R26, R36). -/
def restartNotices (s : State) (w : Wing) (pos : Pos) : List NoticeBody :=
  match s.trunks.entryAt ⟨w, pos⟩ with
  | none => []
  | some e =>
    match e.presence, e.addr with
    | .blocked k, _ => [.seatLost ⟨w, pos⟩ e.addr (.blocked k)]
    | .ready, some seat =>
      let left := s.setQueue { s.queue with entries := s.queue.entries.filter fun x =>
        !((s.trunks.binding[x.seat]).any fun p => p.wing == w && decide (p.pos < pos)) }
      leavingNotices left seat .lost .lost ++ [.seatLost ⟨w, pos⟩ (some seat) .ready]
    | _, _ => []

/-- Bytes arriving one after another on the control link, each by RECEIVE_BYTE. -/
def feed : List Byte → State → Host.Outcome State Fault Refusal
  | [], s => .next s
  | b :: bs, s =>
    match exec (.receiveByte b) s with
    | .next t => feed bs t
    | stopped => stopped

/-! ### The laws of the accounts and their lists (R118, R127) -/

/-- The ranges of an account, and the remainder of an account at its cap (R118). -/
def Account.lawful (r : Account) : Prop :=
  -36000 ≤ r.balance ∧ r.balance ≤ r.cap ∧ r.remainder ≤ 599 ∧ (r.balance = r.cap → r.remainder = 0) ∧
    1 ≤ r.cap ∧ r.cap ≤ 36000 ∧ r.rate ≤ 600 ∧ r.threshold ≤ 36000 ∧ 1 ≤ r.delta ∧ r.delta ≤ 3000

/-- Every account is lawful (R118). -/
def AccountsLaw (s : State) : Prop := ∀ a : AccountNo, (s.allowance.accounts[a]).lawful

/-- The Low and Recovered lists hold no account twice, and their accounts are LOW and NORMAL (R127). -/
def ListsLaw (s : State) : Prop :=
  s.allowance.lowList.Nodup ∧ s.allowance.recovered.Nodup ∧
    (∀ a ∈ s.allowance.lowList, (s.allowance.accounts[a]).low = true) ∧
    (∀ a ∈ s.allowance.recovered, (s.allowance.accounts[a]).low = false)

/-! ### The laws of the queue and the list (R58, R59, R147) -/

/-- At most 128 entries, at most one for each seat, PRIORITY ahead of ORDINARY, and heard no without a reply target
(R58, R59). -/
def QueueLaw (s : State) : Prop :=
  s.queue.entries.length ≤ 128 ∧ (s.queue.entries.map (·.seat)).Nodup ∧
    s.queue.entries.Pairwise (fun a b => b.kind = .priority → a.kind = .priority) ∧
    ∀ e ∈ s.queue.entries, e.target = none → e.heard = false

/-- The list state with its drain limit and skip count (R147). -/
def ListStateLaw (s : State) : Prop :=
  s.queue.skips = 0 ∧
    match s.queue.list with
    | .open => s.queue.drainLimit = none
    | .draining => ∃ n, s.queue.drainLimit = some n ∧ 1 ≤ n ∧ n ≤ 36000

/-! ### The laws of the floor (R77, R78, R79, R92) -/

/-- The speaker list holds the occupied slots and the free-slot order the free ones, each once (R78). -/
def SlotListsLaw (s : State) : Prop :=
  s.floor.speakers.Nodup ∧ s.floor.free.Nodup ∧
    (∀ n : SlotNo, n ∈ s.floor.speakers ↔ (s.floor.slots[n]).isSome = true) ∧
    (∀ n : SlotNo, n ∈ s.floor.free ↔ s.floor.slots[n] = none)

/-- A seat occupies at most one slot, and a seat that occupies a slot has no entry in the request queue (R79). -/
def OneSlotLaw (s : State) : Prop :=
  (∀ (m n : SlotNo) (a b : Slot), s.floor.slots[m] = some a → s.floor.slots[n] = some b → a.seat = b.seat → m = n) ∧
    ∀ (n : SlotNo) (a : Slot), s.floor.slots[n] = some a → ∀ e ∈ s.queue.entries, e.seat ≠ a.seat

/-- Every occupied slot belongs to a DELEGATE seat with a READY bound unit on an unmasked wing that is not LOCKED, and the
occupied count is within the speaker limit of the profile in force and within 8 (R79). -/
def SlotSeatsLaw (s : State) : Prop :=
  (∀ (n : SlotNo) (a : Slot), s.floor.slots[n] = some a →
    classOf s a.seat = .delegate ∧ isReady s a.seat = true ∧ isMasked s a.seat = false ∧ isLocked s a.seat = false) ∧
    s.floor.occupied ≤ (inForce s).speakerLimit ∧ s.floor.occupied ≤ 8

/-- Each slot record lies in the ranges of R77. -/
def SlotRangesLaw (s : State) : Prop :=
  ∀ (n : SlotNo) (a : Slot), s.floor.slots[n] = some a →
    a.elapsed ≤ 65535 ∧ a.strikes ≤ 2 ∧ ∀ k, a.override = some k → 1 ≤ k ∧ k ≤ 36000

/-- While the priority hold count is above zero no delegate slot is OPEN, and while it is zero none is MUTED (R77,
R92). -/
def HoldLaw (s : State) : Prop :=
  ∀ (n : SlotNo) (a : Slot), s.floor.slots[n] = some a →
    (0 < holdCount s → a.condition ≠ .open) ∧ (holdCount s = 0 → a.condition ≠ .muted)

/-! ### The laws of the plan and the chairs (R5, R6, R91) -/

/-- The read buffer is empty in WRITE direction; in READ direction it holds the record before the index, or is empty at
512 (R6). -/
def CursorLaw (s : State) : Prop :=
  match s.cursor.direction, s.cursor.buffer with
  | .write, b => b = none
  | .read, none => s.cursor.index.val = 512
  | .read, some (seat, _) => s.cursor.index.val = seat.val + 1

/-- One chair record for each CHAIR seat, in ascending order of seat, and at most four CHAIR seats (R5, R91). -/
def ChairsLaw (s : State) : Prop :=
  s.floor.chairs.Pairwise (fun a b => a.seat < b.seat) ∧
    (∀ seat : Seat, (s.plan[seat]).cls = .chair ↔ ∃ c ∈ s.floor.chairs, c.seat = seat) ∧
    ((List.finRange 512).countP fun seat : Seat => s.plan[seat].cls == .chair) ≤ 4

/-! ### The laws of the trunks (R18, R31) -/

/-- The binding map records a place for a seat exactly when the unit at that place is READY and reports that seat, and a
READY unit reports a seat (R18). -/
def BindingLaw (s : State) : Prop :=
  (∀ (seat : Seat) (p : Place), s.trunks.binding[seat] = some p ↔
      ∃ e, s.trunks.entryAt p = some e ∧ e.presence = .ready ∧ e.addr = some seat) ∧
    ∀ (p : Place) (e : ChainEntry), s.trunks.entryAt p = some e → e.presence = .ready → e.addr ≠ none

/-- The blocked-unit table holds one entry for each BLOCKED unit, with its address and its block kind (R31). -/
def BlockedLaw (s : State) : Prop :=
  (s.trunks.blocked.map (·.place)).Nodup ∧
    ∀ b : BlockedEntry, b ∈ s.trunks.blocked ↔
      ∃ e, s.trunks.entryAt b.place = some e ∧ e.presence = .blocked b.kind ∧ e.addr = b.addr

/-- Every READY unit matches the plan record of its seat in place and type, as the checks of R23 ask and the re-check of R28
keeps. -/
def MatchLaw (s : State) : Prop :=
  ∀ (p : Place) (e : ChainEntry) (seat : Seat), s.trunks.entryAt p = some e → e.presence = .ready →
    e.addr = some seat →
    (s.plan[seat].location = none ∨ s.plan[seat].location = some p) ∧ typeFails (classOf s seat) e.buttons.unitType = false

/-- A seat record stands only for a seat with a bound unit (R41, R54). -/
def RecordsLaw (s : State) : Prop := ∀ seat : Seat, s.seats[seat] ≠ none → s.trunks.binding[seat] ≠ none

/-- The laws of the queue and the slots together, each of which the others need to be kept. -/
def FloorLaws (s : State) : Prop := QueueLaw s ∧ SlotListsLaw s ∧ OneSlotLaw s

/-- The laws of the trunks and the seat records together, each of which the others need to be kept. -/
def TrunkLaws (s : State) : Prop := BindingLaw s ∧ BlockedLaw s ∧ MatchLaw s ∧ RecordsLaw s

/-! ### The laws of the link and the profiles (R140, R153, R154, R159, R162) -/

/-- At most 32 notices; a frame is held only behind a waiting answer; the transmitter is idle only while nothing waits to be
sent; the floor clock is 0 until the first deci ends, at which RESTARTED is posted (R154, R159, R162, R165, R166). No answer is
owed between commands: that marker is the model's own (log entry 3). -/
def LinkLaw (s : State) : Prop :=
  s.link.notices.length ≤ 32 ∧ s.link.answer ≠ .owed ∧ (s.link.answer = .empty → s.link.heldFrame = none) ∧
    (s.link.tx = .idle → s.link.answer = .empty ∧ s.link.conditions = false ∧ s.link.notices = []) ∧
    (s.link.restart = .fresh → s.link.clock = 0)

/-- The stage FRAME holds a LEN of 1 to 250 and at most LEN bytes after it (R153). -/
def StageLaw (s : State) : Prop :=
  match s.link.stage with
  | .frame len bytes => 1 ≤ len.toNat ∧ len.toNat ≤ 250 ∧ bytes.length ≤ len.toNat
  | _ => True

/-- Under INTERNAL the profile in force is the internally selected number (R140), and the stable count lies in 0–3, 0
exactly while there is no last sample (R136, R141). -/
def ProfileLaw (s : State) : Prop :=
  (s.profiles.source = .internal → s.profiles.inForce = s.profiles.selected) ∧ s.profiles.stable ≤ 3 ∧
    (s.profiles.stable = 0 ↔ s.profiles.lastSample = none)

end Sys2Proof.Machine
end

