-- ==== Sys2Proof/Certificates/Slice0/Obligations.lean ====
section
/-! DEFINITION. The statements for the provers. An order's statement speaks of its frame completing while the part takes
orders (`TakesOrders`), and says what the order answers, what it writes, and that the rest stays as it was. That the row of an
order stands for its frame, good and complete, is log entry 31, and that the place of the answer is kept while the order is
taken (`oweAnswer`), so that an idle transmitter sends it before the order's own notices, is log entry 3. -/

open Sys2Proof Sys2Proof.Machine

/-! ### The queue of commands, power and the RESET pin -/

/-- A step runs the command at the front of the queue on the state with the queue's rest. With no command waiting the block
idles, which is the model's own convention (log entry 6). -/
def Obligations.StepRunsTheFront : Prop :=
  (∀ (c : Instr) (rest : List Instr) (s : State), s.pending = c :: rest → step s = exec c (s.setPending rest)) ∧
    ∀ s : State, s.pending = [] → step s = .next s

/-- Every command is taken to its end: it answers a next state, which holds the commands that still wait as they were, and
only the RESET commands change the level of the RESET pin (the waiting queue and the pin's level are the model's own state,
log entries 6 and 23); while RESET is held low no event and no frame has an effect, as the model reads R170 (log entry 34;
R155). -/
def Obligations.EveryCommandCompletes : Prop :=
  (∀ (c : Instr) (s : State), ∃ t, exec c s = .next t ∧ t.pending = s.pending ∧
     (c ≠ .resetHeldLow → (∀ ns, c ≠ .resetPin ns) → t.resetHeld = s.resetHeld)) ∧
    ∀ (c : Instr) (s : State), s.resetHeld = true → c ≠ .powerReset → (∀ ns, c ≠ .resetPin ns) → c ≠ .resetHeldLow →
      exec c s = .next s

/-- POWER_RESET gives every unit the values its chapter states for a power reset, and each of the sixteen profile records the
default of every field. That the waiting commands and the level of the RESET pin stay is the model's choice (log entries 6 and
23). -/
def Obligations.PowerResetValues : Prop :=
  ∀ s : State, ∃ t, exec .powerReset s = .next t ∧ t.pending = s.pending ∧ t.resetHeld = s.resetHeld ∧
    (∀ seat : Seat, t.plan[seat] = ⟨.vacant, none, 0, false⟩) ∧ t.cursor = ⟨0, .write, none⟩ ∧
    (∀ (w : Wing) (p : Pos), t.trunks.entryAt ⟨w, p⟩ = none) ∧
    (∀ w : Wing, t.trunks.units[w].assignment = none ∧ t.trunks.units[w].poll = none ∧
      t.trunks.units[w].nextTarget = some (0, true)) ∧
    (∀ seat : Seat, t.trunks.binding[seat] = none) ∧ t.trunks.blocked = [] ∧ (∀ seat : Seat, t.seats[seat] = none) ∧
    t.queue = ⟨[], .open, none, 0⟩ ∧ (∀ n : SlotNo, t.floor.slots[n] = none) ∧ t.floor.speakers = [] ∧
    t.floor.free = [0, 1, 2, 3, 4, 5, 6, 7] ∧ t.floor.chairs = [] ∧ t.floor.mask = 0xF ∧
    (∀ seat : Seat, t.floor.locked[seat] = false) ∧
    (∀ a : AccountNo, t.allowance.accounts[a] = ⟨0, 36000, 0, 0, 0, 1, false⟩) ∧ t.allowance.lowList = [] ∧
    t.allowance.recovered = [] ∧ (∀ n : ProfileNo, t.profiles.records[n] =
      { mode := .queue, speakerLimit := 4, autoAdvance := true, queueWhenFull := true, speakerMayClose := true
        speechLimit := 0, warningLead := 0, allowanceMode := .off, longPress := 15, voiceStep := 3, voiceAttack := 2
        voiceRelease := 20, howlLimit := 58, howlCount := 4, blankCount := 8, lockKind := .soft, softRelease := 6
        priorityAction := .mute }) ∧
    t.profiles.source = .internal ∧ t.profiles.selected = 0 ∧ t.profiles.lastSample = none ∧ t.profiles.stable = 0 ∧
    t.profiles.inForce = 0 ∧ t.link = ⟨.hunt, .empty, none, [], false, 0x0FFFFF, false, false, false, false, .idle, 0, .fresh⟩

/-- REFCLK_RETURNS resumes from the state the part held (log entry 8: the gap measurement that restarts is no part of it). A low
pulse of RESET is a complete power reset from 10 µs on, none below 1 µs, and one or the other between; a level held low
holds every unit in its power-reset state until it goes high (R170), and the part leaves it then whatever length the command
names, as the model reads it (log entry 22). A short pulse is a free value (log entry 1). -/
def Obligations.ResetPulseAndClock : Prop :=
  (∀ s : State, exec .refclkReturns s = .next s) ∧
    (∀ (ns : Nat) (s : State), s.resetHeld = false → 10000 ≤ ns → exec (.resetPin ns) s = exec .powerReset s) ∧
      (∀ (ns : Nat) (s : State), s.resetHeld = false → ns < 1000 → exec (.resetPin ns) s = .next s) ∧
      (∀ (ns : Nat) (s : State), s.resetHeld = false → 1000 ≤ ns → ns < 10000 →
        exec (.resetPin ns) s = .next (s.setDraws (s.draws + 1)) ∨
          exec (.resetPin ns) s = exec .powerReset (s.setDraws (s.draws + 1))) ∧
      (∀ s : State, ∃ t u, exec .powerReset s = .next t ∧ exec .resetHeldLow s = .next { t with resetHeld := true } ∧
        ∀ ns, exec (.resetPin ns) { t with resetHeld := true } = .next u ∧ u = { t with resetHeld := false })

/-! ### Frames and bytes -/

/-- The frame an order is sent in is read back as that order, with every value of every field (sections 11.1, 11.2). What the part
sends, byte by byte: an answer, the CONDITIONS notice and every other notice go out as SYNC, LEN, KIND, the body and the CHECK
that makes the bytes after SYNC a multiple of 256 (section 11.1); an answer's body is its result code, the summary byte and its
data, and a notice's is the floor clock and its data (R156, R159). The summary byte holds the eight bits in their places; each
notice has its kind code and its data in order, with numbers of two and four bytes most significant byte first and 0xFFFF for
no seat (section 11.2); and the enumerated values have the codes of section 11.3. -/
def Obligations.OrderFramesReadBack : Prop :=
  (∀ i : Instr, (orderKind i).isSome = true → readFrame (orderFrame i) = .order i) ∧
    (let num := fun (n : Nat) => BitVec.ofNat 8 n
     let two := fun (n : Nat) => [num (n / 256), num n]
     let four := fun (c : Clock) => [num (c.toNat / 2 ^ 24), num (c.toNat / 2 ^ 16), num (c.toNat / 2 ^ 8), num c.toNat]
     let flag := fun (b : Bool) => if b then (1 : Byte) else 0
     let site := fun (p : Place) => [num p.wing.val, num (p.pos.val + 1)]
     let who := fun (x : Option Seat) => match x with
       | some y => two y.val
       | none => [0xFF, 0xFF]
     let sends := fun (f : TxFrame) (kind : Byte) (body : List Byte) =>
       f.bytes.length = body.length + 4 ∧
         f.bytes.take (body.length + 3) = [0x7E, num (body.length + 1), kind] ++ body ∧
         ((f.bytes.drop 1).map BitVec.toNat).sum % 256 = 0
     let carries := fun (b : NoticeBody) (kind : Byte) (data : List Byte) => b.kind = kind ∧ b.data = data
     ((∀ n : Nat, byteOf n = num n ∧ halfOf n = two n) ∧ (∀ y : Seat, seatBytes y = two y.val) ∧
       (∀ h : Half, halfBytes h = two h.toNat) ∧ (∀ c : Clock, wordBytes c = four c) ∧
       ∀ m : BitVec 24, tripleBytes m = [num (m.toNat / 2 ^ 16), num (m.toNat / 2 ^ 8), num m.toNat]) ∧
     (∀ a : Answer, sends (.answer a) a.kind (a.code.code :: a.summary.byte :: a.data)) ∧
     (∀ (c : Clock) (b : Summary), sends (.conditions c b) 0x73 (four c ++ [b.byte])) ∧
     (∀ n : Notice, sends (.notice n) n.body.kind (four n.clock ++ n.body.data)) ∧
     (∀ b : Summary, b.byte.toNat = b.lowPending.toNat + 2 * b.recoveredPending.toNat + 4 * b.blockedPresent.toNat
       + 8 * b.queueFull.toNat + 16 * b.listDraining.toNat + 32 * b.priorityActive.toNat + 64 * b.noticesLost.toNat
       + 128 * b.orderDropped.toNat) ∧
     (∀ (slot : SlotNo) (seat : Seat) (p : Place) (g d : Bool) (time : Clock) (n m : Nat) (x : Option Seat) (kind : EntryKind)
       (origin : Origin),
       carries (.floorOpened slot seat origin g d time) 0x60
         (num (slot.val + 1) :: two seat.val ++ [origin.code, flag g, flag d] ++ four time) ∧
       (∀ reason, carries (.floorClosed slot seat reason origin n) 0x61
         (num (slot.val + 1) :: two seat.val ++ [reason.code, origin.code] ++ two n)) ∧
       carries (.chairMic seat g) 0x62 (two seat.val ++ [flag g]) ∧
       carries (.priorityOn seat) 0x63 (two seat.val) ∧ carries (.priorityOff seat) 0x64 (two seat.val) ∧
       (∀ source, carries (.queueEntered seat kind source n x g) 0x65
         (two seat.val ++ [kind.code, source.code, num n] ++ who x ++ [flag g])) ∧
       (∀ reason, carries (.queueLeft seat kind reason n) 0x66 (two seat.val ++ [kind.code, reason.code, num n])) ∧
       carries (.queuePromoted seat n) 0x67 (two seat.val ++ [num n]) ∧
       (∀ event cause, carries (.pressRefused seat event cause) 0x68 (two seat.val ++ [event.code, cause.code])) ∧
       carries (.speechWarning slot seat n m) 0x69 (num (slot.val + 1) :: two seat.val ++ two n ++ two m) ∧
       (∀ lock, carries (.howlLock seat lock n) 0x6A (two seat.val ++ [lock.code, num n])) ∧
       (∀ condition, carries (.howlClear seat condition) 0x6B (two seat.val ++ [condition.code])) ∧
       (∀ unit, carries (.seatReady p seat unit) 0x6C (site p ++ two seat.val ++ [unitTypeCode unit])) ∧
       (∀ presence, carries (.seatLost p x presence) 0x6D (site p ++ who x ++ [presence.code])) ∧
       (∀ block, carries (.seatBlocked p x block) 0x6E (site p ++ who x ++ [block.code])) ∧
       (∀ presence, carries (.assignDone p seat presence) 0x6F (site p ++ two seat.val ++ [presence.code])) ∧
       (∀ cause, carries (.assignFailed p seat cause) 0x70 (site p ++ two seat.val ++ [cause.code])) ∧
       carries (.listDrained n) 0x71 [num n] ∧
       (∀ (now before : ProfileNo) cause source, carries (.profileChanged now before cause source) 0x72
         [num now.val, num before.val, cause.code, source.code]) ∧
       carries .restarted 0x7F []) ∧
     [ResultCode.ok, .check, .unknown, .badLength, .badValue, .limit, .atEnd, .wrongDirection, .full, .empty, .held,
       .notEligible, .notPermitted, .busy, .absent, .notFound, .noLimit].map ResultCode.code =
         [0, 1, 2, 3, 4, 5, 6, 7, 8, 9, 10, 11, 12, 13, 14, 15, 16] ∧
     [SeatClass.vacant, .delegate, .chair, .listener].map SeatClass.code = [0, 1, 2, 3] ∧
     [ProfileSource.internal, .external].map ProfileSource.code = [0, 1] ∧
     [EntryKind.ordinary, .priority].map EntryKind.code = [0, 1] ∧
     [EntrySource.press, .longPress, .link].map EntrySource.code = [0, 1, 2] ∧
     [SlotCondition.open, .muted, .softLocked].map SlotCondition.code = [0, 1, 2] ∧
     [Origin.press, .queue, .next, .link, .voice].map Origin.code = [0, 1, 2, 3, 4] ∧
     [CloseReason.seat, .link, .chair, .time, .allowance, .silence, .howl, .replaced, .profile, .mask, .lost, .plan,
       .priority].map CloseReason.code = [0, 1, 2, 3, 4, 5, 6, 7, 8, 9, 10, 11, 12] ∧
     [LeaveReason.granted, .seat, .link, .lost, .plan, .emptied, .drainSkipped].map LeaveReason.code =
       [0, 1, 2, 3, 4, 5, 6] ∧
     [Eligibility.eligible, .notDelegate, .notReady, .masked, .locked, .awaitingReply].map Eligibility.code =
       [0, 1, 2, 3, 4, 5] ∧
     [RefusalCause.locked, .masked, .draining, .full, .noSlot, .priority, .empty].map RefusalCause.code =
       [0, 1, 2, 3, 4, 5, 6] ∧
     [SeatEvent.shortPress, .longPress, .talk, .next].map SeatEvent.code = [0, 1, 2, 3] ∧
     [BlockKind.location, .duplicate, .unbound, .type].map BlockKind.code = [0, 1, 2, 3] ∧
     ([Presence.settling, .ready].map Presence.code = [1, 2] ∧ ∀ k, (Presence.blocked k).code = 3) ∧
     [UnitType.delegateUnit, .chairUnit].map unitTypeCode = [0, 1] ∧
     [AssignFailure.timeout, .lost, .restart].map AssignFailure.code = [0, 1, 2] ∧
     [ChangeCause.select, .source, .pins, .put].map ChangeCause.code = [0, 1, 2, 3] ∧
     [Mode.open, .override, .queue, .voice].map Mode.code = [0, 1, 2, 3] ∧
     [AllowanceMode.off, .warn, .cut].map AllowanceMode.code = [0, 1, 2] ∧
     [LockKind.soft, .hard].map LockKind.code = [0, 1] ∧
     [PriorityAction.mute, .close].map PriorityAction.code = [0, 1] ∧
     [MicCommand.closed, .mute, .open].map MicCommand.code = [0, 1, 2] ∧
     [Indicator.off, .request, .first, .speaking, .warning, .muted, .refused, .locked, .blocked].map Indicator.code =
       [0, 1, 2, 3, 4, 5, 6, 7, 8])

/-- The answer frame of a seat unit is read back as the answer it carries, and an answer is good exactly when it is six bytes
that begin with 0x5A, whose check makes the five bytes after it a multiple of 256, with an address of 0–511 or 0xFFFF, a level
of 0–63 and status places 2, 3 and 7 clear (section 11.4, R169). Its bytes are the address, 0xFFFF for BLANK, the status with
the unit type in place 0, the stored flag in place 1 and the buttons in places 4–6, the level and the check. That a seventh
byte within the window makes a miss is the model's choice (log entry 37), and so is that places 5 and 6 of a delegate unit's
status are disregarded (log entry 26). A poll goes out as seven bytes: 0xA5, the position, the microphone command with the
store request in place 7, the indicator, the requested seat or 0, and the check (section 11.4); that places 2–6 of its control
byte are clear is the model's choice (log entry 38). -/
def Obligations.TrunkAnswersAreRead : Prop :=
  (∀ a : TrunkAnswer, readAnswer (answerFrame a) = some a ∧
     let addr := match a.addr with
       | some y => y.val
       | none => 0xFFFF
     let status := 2 * a.stored.toNat + match a.buttons with
       | .delegate r => 16 * r.toNat
       | .chair k p n => 1 + 16 * k.toNat + 32 * p.toNat + 64 * n.toNat
     (answerFrame a).length = 6 ∧ (((answerFrame a).drop 1).map BitVec.toNat).sum % 256 = 0 ∧
       ((answerFrame a).take 5).map BitVec.toNat = [0x5A, addr / 256, addr % 256, status, a.level.val]) ∧
    (∀ bytes : List Byte, (readAnswer bytes).isSome = true ↔
      ∃ a1 a0 status level check : Byte, bytes = [0x5A, a1, a0, status, level, check] ∧
        (a1.toNat + a0.toNat + status.toNat + level.toNat + check.toNat) % 256 = 0 ∧
        (a1.toNat * 256 + a0.toNat ≤ 511 ∨ a1.toNat * 256 + a0.toNat = 0xFFFF) ∧ level.toNat ≤ 63 ∧
        status.getLsbD 2 = false ∧ status.getLsbD 3 = false ∧ status.getLsbD 7 = false) ∧
    ∀ q : Poll,
      let seat := match q.store with
        | some y => y.val
        | none => 0
      let control := (match q.mic with
        | .closed => 0
        | .mute => 1
        | .open => 2) + if q.store.isSome then 128 else 0
      q.bytes.length = 7 ∧ ((q.bytes.drop 1).map BitVec.toNat).sum % 256 = 0 ∧
        (q.bytes.take 6).map BitVec.toNat =
          [0xA5, q.pos.val + 1, control, q.indicator.code.toNat, seat / 256, seat % 256]

/-- An order's SYNC and frame, arriving byte by byte at a receive stage in HUNT, come to the order itself (R153 to R155). The
frame is LEN, the order's KIND, its body and the CHECK that makes them a multiple of 256 (section 11.1), and the body holds the
order's fields in order, each in its number of bytes, most significant byte first (section 11.2). The order of the fields of
PLAN SEEK, SEAT ASSIGN, TRUNK READ, QUEUE READ, FLOOR GRANT, FLOOR EXTEND and ACCOUNT READ, which section 11.2 does not state,
is the model's choice: the order in which each order's rule names them (log entry 42). -/
def Obligations.BytesMakeTheOrder : Prop :=
  (∀ (i : Instr) (s : State), (orderKind i).isSome = true → s.resetHeld = false → s.link.stage = .hunt →
    feed (0x7E :: orderFrame i) s = exec i s) ∧
    let num := fun (n : Nat) => BitVec.ofNat 8 n
    let two := fun (h : Half) => [num (h.toNat / 256), num h.toNat]
    let framed := fun (i : Instr) (kind : Byte) (body : List Byte) => orderKind i = some kind ∧
      (orderFrame i).length = body.length + 3 ∧
      (orderFrame i).take (body.length + 2) = [num (body.length + 1), kind] ++ body ∧
      ((orderFrame i).map BitVec.toNat).sum % 256 = 0
    framed .status 0x01 [] ∧ framed .identify 0x02 [] ∧ framed .planGet 0x0A [] ∧ framed .queueEmpty 0x1A [] ∧
      framed .listOpen 0x1D [] ∧ framed .floorNext 0x21 [] ∧ framed .floorClear 0x23 [] ∧ framed .floorReset 0x27 [] ∧
      framed .profileInForce 0x3C [] ∧
      (∀ m, framed (.noticeMask m) 0x03 [num (m.toNat / 2 ^ 16), num (m.toNat / 2 ^ 8), num m.toNat]) ∧
      (∀ index direction, framed (.planSeek index direction) 0x08 (two index ++ [direction])) ∧
      (∀ cls wing position delegation voice,
        framed (.planPut cls wing position delegation voice) 0x09 [cls, wing, position, delegation, voice]) ∧
      (∀ wing position seat, framed (.seatAssign wing position seat) 0x10 ([wing, position] ++ two seat)) ∧
      (∀ wing start count, framed (.trunkRead wing start count) 0x11 [wing, start, count]) ∧
      (∀ start, framed (.blockedRead start) 0x12 (two start)) ∧ (∀ wing, framed (.trunkRestart wing) 0x13 [wing]) ∧
      (∀ seat kind target, framed (.queueAdd seat kind target) 0x18 (two seat ++ [kind] ++ two target)) ∧
      (∀ seat, framed (.queueDrop seat) 0x19 (two seat)) ∧
      (∀ start count, framed (.queueRead start count) 0x1B [start, count]) ∧
      (∀ limit, framed (.listClose limit) 0x1C (two limit)) ∧
      (∀ seat protect, framed (.floorGrant seat protect) 0x20 (two seat ++ [protect])) ∧
      (∀ seat, framed (.floorRevoke seat) 0x22 (two seat)) ∧ (∀ start, framed (.floorRead start) 0x24 (two start)) ∧
      (∀ mask, framed (.wingMask mask) 0x25 [mask]) ∧ (∀ seat, framed (.unlock seat) 0x26 (two seat)) ∧
      (∀ seat decis, framed (.floorExtend seat decis) 0x28 (two seat ++ two decis)) ∧
      (∀ (account cap rate low delta : Half) (balance : BitVec 32),
        framed (.accountSet account balance cap rate low delta) 0x30
          (two account ++ [num (balance.toNat / 2 ^ 24), num (balance.toNat / 2 ^ 16), num (balance.toNat / 2 ^ 8),
            num balance.toNat] ++ two cap ++ two rate ++ two low ++ two delta)) ∧
      (∀ start count, framed (.accountRead start count) 0x31 (two start ++ [count])) ∧
      (∀ count, framed (.lowRead count) 0x32 [count] ∧ framed (.recoveredRead count) 0x33 [count]) ∧
      (∀ number r, framed (.profilePut number r) 0x38 ([number, r.mode, r.speakerLimit, r.autoAdvance, r.queueWhenFull,
        r.speakerMayClose] ++ two r.speechLimit ++ two r.warningLead ++ [r.allowanceMode, r.longPress, r.voiceStep,
        r.voiceAttack, r.voiceRelease, r.howlLimit, r.howlCount, r.blankCount, r.lockKind, r.softRelease,
        r.priorityAction])) ∧
      ∀ number, framed (.profileGet number) 0x39 [number] ∧ framed (.profileSelect number) 0x3A [number] ∧
        framed (.profileSource number) 0x3B [number]

/-- A gap of more than 5 ms, which the model has as a command (log entry 8), discards the partial frame and nothing else.
A byte that completes no frame moves the receive stage
row by row, and changes nothing else (R153). -/
def Obligations.ReceiveStageTable : Prop :=
  (∀ s : State, s.resetHeld = false → exec .receiveGapTimeout s = .next (s.setLink { s.link with stage := .hunt })) ∧
    ∀ (b : Byte) (s : State), s.resetHeld = false →
      (s.link.stage = .hunt → exec (.receiveByte b) s =
        .next (if b = 0x7E then s.setLink { s.link with stage := .length } else s)) ∧
      (s.link.stage = .length → exec (.receiveByte b) s =
        .next (s.setLink { s.link with stage := if 1 ≤ b.toNat ∧ b.toNat ≤ 250 then .frame b [] else .hunt })) ∧
      ∀ (len : Byte) (bytes : List Byte), s.link.stage = .frame len bytes → bytes.length < len.toNat →
        exec (.receiveByte b) s = .next (s.setLink { s.link with stage := .frame len (bytes ++ [b]) })

/-- A frame that completes while an answer waits is held, or dropped when one is held already: the first drop sets
ORDER_DROPPED (R154, R157). While a STATUS answer is outstanding a drop sets the latch's renewal mark, whether the latch was set
or not, and leaves the other mark (R158; which answers are STATUS answers: log entry 4). -/
def Obligations.FullRegisterHoldsOrDrops : Prop :=
  ∀ (len : Byte) (bytes : List Byte) (b : Byte) (a : Answer) (s : State), s.resetHeld = false →
    s.link.stage = .frame len bytes → bytes.length = len.toNat → s.link.answer = .full a →
    (s.link.heldFrame = none → exec (.receiveByte b) s =
      .next (s.setLink { s.link with stage := .hunt, heldFrame := some (len :: bytes ++ [b]) })) ∧
    (∀ f, s.link.heldFrame = some f → ∃ t, exec (.receiveByte b) s = .next t ∧ t = { s with link := t.link } ∧
      t.link.stage = .hunt ∧ t.link.dropped = true ∧ t.link.heldFrame = some f ∧ t.link.answer = .full a ∧
      t.link.notices = s.link.notices ∧ t.link.lost = s.link.lost ∧
      (t.link.droppedMark = true ↔ s.link.droppedMark = true ∨ StatusOutstanding s) ∧
      t.link.lostMark = s.link.lostMark ∧
      (s.link.dropped = true → t.link.conditions = s.link.conditions) ∧
      (s.link.dropped = false → s.link.tx ≠ .idle →
        t.link.conditions = (s.link.conditions || s.link.mask.getLsbD 19)))

/-- The last byte of a frame that R155 does not deliver, with the register empty and no frame held: a bad check, then an
unknown kind, then a wrong length; the frame changes no state but for its answer. -/
def Obligations.UndeliveredFrames : Prop :=
  ∀ (len kind : Byte) (body : List Byte) (check : Byte) (s : State), TakesOrders s →
    s.link.stage = .frame len (kind :: body) → body.length + 1 = len.toNat →
    (byteSum (len :: kind :: body ++ [check]) ≠ 0 →
      exec (.receiveByte check) s = .next (withAnswer ⟨0xFF, .check, summary s, []⟩ (setStage .hunt s))) ∧
    (byteSum (len :: kind :: body ++ [check]) = 0 → bodyLength kind = none →
      exec (.receiveByte check) s = .next (withAnswer ⟨0xFF, .unknown, summary s, []⟩ (setStage .hunt s))) ∧
    (∀ n, byteSum (len :: kind :: body ++ [check]) = 0 → bodyLength kind = some n → body.length ≠ n →
      exec (.receiveByte check) s = .next (withAnswer ⟨kind + 0x80, .badLength, summary s, []⟩ (setStage .hunt s)))

/-! ### Notices, the summary and the transmitter -/

/-- How a posted notice is taken while a frame is being sent: a masked kind is not queued; with fewer than 32 queued it joins
the tail with the floor clock; with 32 it is lost, NOTICES_LOST is set, and while a STATUS answer is outstanding its renewal
mark is set and the other mark left (R158, R159; which answers are STATUS answers: log entry 4). Place n of the mask enables
the notice kind 0x60 + n, up to CONDITIONS at place 19 (section 11.1); RESTARTED stands outside the mask. ATTN is asserted
exactly while the notice queue is not empty or the CONDITIONS flag is set, and released while RESET is held low (R163, R170). -/
def Obligations.NoticeIsQueuedMaskedOrLost : Prop :=
  (∀ (b : NoticeBody) (s : State), s.link.tx ≠ .idle →
    (b.enabled s.link.mask = false → post b s = s) ∧
    (b.enabled s.link.mask = true → s.link.notices.length < 32 →
      post b s = s.setLink { s.link with notices := s.link.notices ++ [⟨s.link.clock, b⟩] }) ∧
    (b.enabled s.link.mask = true → 32 ≤ s.link.notices.length →
      (post b s).link.notices = s.link.notices ∧ (post b s).link.lost = true ∧
        ((post b s).link.lostMark = true ↔ s.link.lostMark = true ∨ StatusOutstanding s) ∧
        (post b s).link.droppedMark = s.link.droppedMark ∧ (post b s).link.dropped = s.link.dropped ∧
        ((post b s).link.conditions = true ↔
          s.link.conditions = true ∨ (s.link.lost = false ∧ s.link.mask.getLsbD 19 = true))) ∧
    (NoticeBody.restarted).enabled s.link.mask = true) ∧
    (∀ (b : NoticeBody) (mask : BitVec 24), b ≠ .restarted →
      0x60 ≤ b.kind.toNat ∧ b.kind.toNat < 0x73 ∧ b.enabled mask = mask.getLsbD (b.kind.toNat - 0x60)) ∧
    ∀ s : State, attn s = true ↔ s.resetHeld = false ∧ (s.link.notices ≠ [] ∨ s.link.conditions = true)

/-- When an answer begins to go out and a frame is held, the held frame is taken at once: here the frame of an order, whose
answer then waits while the first is sent (R154). At the end of a frame other than an answer, with no frame held, the
transmitter chooses the answer, then the CONDITIONS notice, then the oldest notice, and goes idle when none is present
(R162). The end of an answer frame is the end of such a frame `f`, taken after the latches that a STATUS answer clears, each
clearing being a change of the summary (R158, R160; log entry 4). A frame that completes after that end finds the register and
the buffer as this end has left them, where row 5 of R167's table has such a frame dropped: the model's choice (log entry 41). -/
def Obligations.TransmitterChoosesInOrder : Prop :=
  (∀ (i : Instr) (k : Byte) (f : TxFrame) (a : Answer) (s : State), orderKind i = some k → s.resetHeld = false →
     s.link.tx = .sending f → (∀ a, f ≠ .answer a) → s.link.answer = .full a →
     s.link.heldFrame = some (orderFrame i) →
     exec .transmitFrameEnd s =
       exec i (s.setLink { s.link with answer := .empty, heldFrame := none, tx := .sending (.answer a) })) ∧
    (∀ (f : TxFrame) (s : State), s.resetHeld = false → s.link.tx = .sending f → (∀ a, f ≠ .answer a) →
      (∀ a, s.link.answer = .full a → s.link.heldFrame = none →
        exec .transmitFrameEnd s = .next (s.setLink { s.link with answer := .empty, tx := .sending (.answer a) })) ∧
      (s.link.answer = .empty → s.link.conditions = true →
        exec .transmitFrameEnd s = .next (s.setLink
          { s.link with conditions := false, tx := .sending (.conditions s.link.clock (summary s)) })) ∧
      (∀ n rest, s.link.answer = .empty → s.link.conditions = false → s.link.notices = n :: rest →
        exec .transmitFrameEnd s = .next (s.setLink { s.link with notices := rest, tx := .sending (.notice n) })) ∧
      (s.link.answer = .empty → s.link.conditions = false → s.link.notices = [] →
        exec .transmitFrameEnd s = .next (s.setLink { s.link with tx := .idle }))) ∧
    ∀ (a : Answer) (f : TxFrame) (s : State), s.resetHeld = false → s.link.tx = .sending (.answer a) →
      (∀ b, f ≠ .answer b) →
      ((a.kind ≠ 0x81 ∨ a.code ≠ .ok) →
        exec .transmitFrameEnd s = exec .transmitFrameEnd (s.setLink { s.link with tx := .sending f })) ∧
      (a.kind = 0x81 → a.code = .ok →
        let lostGone := s.link.lost && a.summary.noticesLost && !s.link.lostMark
        let droppedGone := s.link.dropped && a.summary.orderDropped && !s.link.droppedMark
        exec .transmitFrameEnd s = exec .transmitFrameEnd (s.setLink { s.link with
          tx := .sending f
          lost := s.link.lost && !lostGone
          dropped := s.link.dropped && !droppedGone
          conditions := s.link.conditions || ((lostGone || droppedGone) && s.link.mask.getLsbD 19) }))

/-- When the last byte of a STATUS answer has gone, each latch that its summary carried set and that was not renewed is
cleared, and no other; a STATUS answer begins with both renewal marks clear (R158, R164; which answers are STATUS answers: log
entry 4). Each bit of the condition summary stands for its owner's state, or for the order unit's own latch (R157). A change of an
owned bit sets the CONDITIONS flag exactly while CONDITIONS is unmasked, and leaves it otherwise: said of each store that a bit
reports, with a frame being sent, and of every command but a reset, the end of a frame and one that changes the mask, after
which a bit that differs has set the flag, and during which a masked CONDITIONS is never set (R157, R160). -/
def Obligations.StatusAnswerClearsLatches : Prop :=
  (∀ (a : Answer) (s : State), s.resetHeld = false → s.link.tx = .sending (.answer a) → a.kind = 0x81 → a.code = .ok →
    s.link.heldFrame = none →
    ∃ t, exec .transmitFrameEnd s = .next t ∧ t = { s with link := t.link } ∧
      t.link.lost = (s.link.lost && !(a.summary.noticesLost && !s.link.lostMark)) ∧
      t.link.dropped = (s.link.dropped && !(a.summary.orderDropped && !s.link.droppedMark))) ∧
    (∀ s : State, TakesOrders s → exec .status s = .next
      (answered 0x01 .ok
        ([byteOf s.queue.entries.length, byteOf s.floor.occupied] ++ halfOf s.allowance.lowList.length
          ++ halfOf s.allowance.recovered.length ++ halfOf s.trunks.blocked.length)
        (s.setLink { s.link with lostMark := false, droppedMark := false }))) ∧
    (∀ s : State,
      ((summary s).lowPending = true ↔ s.allowance.lowList ≠ []) ∧
      ((summary s).recoveredPending = true ↔ s.allowance.recovered ≠ []) ∧
      ((summary s).blockedPresent = true ↔ s.trunks.blocked ≠ []) ∧
      ((summary s).queueFull = true ↔ 128 ≤ s.queue.entries.length) ∧
      ((summary s).listDraining = true ↔ s.queue.list = .draining) ∧
      ((summary s).priorityActive = true ↔ ∃ c ∈ s.floor.chairs, c.held = true) ∧
      (summary s).noticesLost = s.link.lost ∧ (summary s).orderDropped = s.link.dropped) ∧
    (∀ (entries : List QueueEntry) (list : ListState) (limit : Option Nat) (blocked : List BlockedEntry)
        (chairs : List ChairRecord) (accounts : List AccountNo) (s : State), s.link.tx ≠ .idle →
      let flagged := fun (t u : State) => t = { u with link := { s.link with
        conditions := s.link.conditions || (decide (summary u ≠ summary s) && s.link.mask.getLsbD 19) } }
      flagged (setEntries entries s) (s.setQueue { s.queue with entries := entries }) ∧
      flagged (setList list limit s) (s.setQueue { s.queue with list := list, drainLimit := limit, skips := 0 }) ∧
      flagged (setBlocked blocked s) (s.setTrunks { s.trunks with blocked := blocked }) ∧
      flagged (setChairs chairs s) (s.setFloor { s.floor with chairs := chairs }) ∧
      flagged (setLow accounts s) (s.setAllowance { s.allowance with lowList := accounts }) ∧
      flagged (setRecovered accounts s) (s.setAllowance { s.allowance with recovered := accounts })) ∧
    ∀ (c : Instr) (s : State), Sending s → c ≠ .powerReset → c ≠ .resetHeldLow → (∀ ns, c ≠ .resetPin ns) →
      c ≠ .transmitFrameEnd →
      ∃ t, exec c s = .next t ∧ (t.link.mask = s.link.mask →
        (s.link.mask.getLsbD 19 = true → s.link.conditions = true ∨ summary t ≠ summary s → t.link.conditions = true) ∧
        (s.link.mask.getLsbD 19 = false → t.link.conditions = true → s.link.conditions = true))

/-- IDENTIFY answers the part code 0xB512, interface version 1 and the count limits, and changes nothing (R164, section 11.2).
NOTICE MASK with a place set beyond the twenty kinds is refused; otherwise it is the mask from then on, the queued notices
stay, and the CONDITIONS flag is cleared when the mask disables it and is never set by it (R161). -/
def Obligations.IdentifyAndNoticeMask : Prop :=
  (∀ s : State, TakesOrders s → exec .identify s = .next (answered 0x02 .ok
     [0xB5, 0x12, 1, 0x02, 0x00, 4, 128, 8, 128, 4, 0x02, 0x40, 16, 32] s)) ∧
    ∀ (m : BitVec 24) (s : State), TakesOrders s →
      (m.toNat < 2 ^ 20 → exec (.noticeMask m) s =
        .next (answered 0x03 .ok (tripleBytes m)
          (s.setLink { s.link with mask := m, conditions := s.link.conditions && m.getLsbD 19 }))) ∧
      (2 ^ 20 ≤ m.toNat → exec (.noticeMask m) s = .next (answered 0x03 .badValue [] s))

/-- DECI_EXPIRY adds one to the floor clock, which wraps, and at the first deci after a reset RESTARTED is posted with the clock
as it then stands, 1 in every state the part can be in; with 32 notices queued it is lost (R165, R166, R159). That the row
RESTARTED names that same first expiry, makes it while no deci has ended and has no effect afterwards is the model's choice
(log entry 24). -/
def Obligations.FloorClockAndRestarted : Prop :=
  ∀ (s : State) (c : Clock), s.resetHeld = false → c.toNat = (s.link.clock.toNat + 1) % 2 ^ 32 →
    (s.link.restart = .posted → exec .deciExpiry s = .next (s.setLink { s.link with clock := c })) ∧
    (s.link.restart = .fresh → LinkLaw s → c = 1) ∧
    (s.link.restart = .fresh → s.link.tx ≠ .idle → s.link.notices.length < 32 →
      exec .deciExpiry s = .next (s.setLink { s.link with
        clock := c, restart := .posted, notices := s.link.notices ++ [⟨c, .restarted⟩] })) ∧
    (s.link.restart = .fresh → s.link.tx ≠ .idle → 32 ≤ s.link.notices.length →
      ∃ t, exec .deciExpiry s = .next t ∧ t = { s with link := t.link } ∧ t.link.clock = c ∧ t.link.restart = .posted ∧
        t.link.notices = s.link.notices ∧ t.link.lost = true) ∧
    (s.link.restart = .fresh → LinkLaw s → s.link.tx = .idle →
      exec .deciExpiry s = .next (s.setLink { s.link with
        clock := c, restart := .posted, tx := .sending (.notice ⟨c, .restarted⟩) })) ∧
    (s.link.restart = .fresh → exec .restarted s = exec .deciExpiry s) ∧
    (s.link.restart = .posted → exec .restarted s = .next s)

/-! ### The seat plan -/

/-- PLAN SEEK: an index above 511 or an unknown direction is refused; WRITE places the index and empties the buffer; READ
copies the record of the seat at the index and places the index one past it, whatever the cursor was (R7). PLAN GET: refused
in WRITE direction and with the buffer empty; otherwise it answers the copy in the buffer and refills it from the record at
the index, or empties it at 512 (R10). -/
def Obligations.PlanSeekAndGetMoveTheCursor : Prop :=
  (∀ (index : Half) (direction : Byte) (s : State), TakesOrders s →
     (511 < index.toNat ∨ (direction ≠ 0 ∧ direction ≠ 1) →
       exec (.planSeek index direction) s = .next (answered 0x08 .badValue [] s)) ∧
     (∀ seat : Seat, index.toNat = seat.val → direction = 0 →
       exec (.planSeek index direction) s = .next (answered 0x08 .ok [] (s.setCursor ⟨seat.castSucc, .write, none⟩))) ∧
     ∀ seat : Seat, index.toNat = seat.val → direction = 1 →
       exec (.planSeek index direction) s =
         .next (answered 0x08 .ok [] (s.setCursor ⟨seat.succ, .read, some (seat, s.plan[seat])⟩))) ∧
    ∀ s : State, TakesOrders s →
      (s.cursor.direction = .write → exec .planGet s = .next (answered 0x0A .wrongDirection [] s)) ∧
      (s.cursor.direction = .read → s.cursor.buffer = none → exec .planGet s = .next (answered 0x0A .atEnd [] s)) ∧
      (∀ (seat next : Seat) (record : PlanRecord), s.cursor.direction = .read →
        s.cursor.buffer = some (seat, record) → s.cursor.index.val = next.val →
        exec .planGet s = .next (answered 0x0A .ok (seatBytes seat ++ record.bytes)
          (s.setCursor ⟨next.succ, .read, some (next, s.plan[next])⟩))) ∧
      ∀ (seat : Seat) (record : PlanRecord), s.cursor.direction = .read →
        s.cursor.buffer = some (seat, record) → s.cursor.index.val = 512 →
        exec .planGet s = .next (answered 0x0A .ok (seatBytes seat ++ record.bytes) (s.setCursor ⟨512, .read, none⟩))

/-- The four tests of PLAN PUT in the order of the table, each with its code and no change of any state; when none holds the
order is taken (R8). -/
def Obligations.PlanPutTests : Prop :=
  ∀ (cls wing position delegation voice : Byte) (s : State), TakesOrders s →
    (s.cursor.direction = .read → exec (.planPut cls wing position delegation voice) s =
      .next (answered 0x09 .wrongDirection [] s)) ∧
    (s.cursor.direction = .write → s.cursor.index.val = 512 → exec (.planPut cls wing position delegation voice) s =
      .next (answered 0x09 .atEnd [] s)) ∧
    ∀ seat : Seat, s.cursor.direction = .write → s.cursor.index.val = seat.val →
      let out := 3 < cls.toNat
        ∨ (¬(wing = 0xFF ∧ position = 0) ∧ (3 < wing.toNat ∨ position.toNat = 0 ∨ 128 < position.toNat))
        ∨ 64 < delegation.toNat ∨ 1 < voice.toNat
      let others := (List.finRange 512).countP fun i : Seat => i ≠ seat && s.plan[i].cls == .chair
      (out → exec (.planPut cls wing position delegation voice) s = .next (answered 0x09 .badValue [] s)) ∧
      (¬out → cls = 2 → 4 ≤ others →
        exec (.planPut cls wing position delegation voice) s = .next (answered 0x09 .limit [] s)) ∧
      (¬out → (cls ≠ 2 ∨ others < 4) →
        ∃ t, exec (.planPut cls wing position delegation voice) s = .next t ∧ Answers s t 0x09 .ok (seatBytes seat))

/-- A PLAN PUT that is taken writes its record, which holds the class, location, delegation and voice permit of the order's
bytes (`CarriesRecord`), over the record at the index, advances the index, and leaves the other records, the accounts and the
profiles (R9, R15). The units of the seat are re-checked against the plan as written, and then the requests of a change of
class are made (R12 to R14); with the class kept, no unit bound to the seat and no blocked unit reporting it, nothing else
follows. The re-check takes the bound unit, then the blocked units that report the seat, in table order (R12). A bound unit
that passes stays; one that fails leaves its seat with reason PLAN and is BLOCKED at the tail of the table, with SEAT BLOCKED
and then the advance check of its close (R28, R29). That the blocked units are taken as the PLAN PUT found them, so that the
unit just blocked is not taken again, is the model's reading of R12 (log entry 28), and that the chair's withdrawal comes
after the re-check its choice beside R14 (log entry 40). A blocked unit that passes becomes READY and bound and leaves the
table, one that fails as before stays, and one that fails another check takes its kind in place (R28). -/
def Obligations.PlanPutWritesTheRecord : Prop :=
  (∀ (cls wing position delegation voice : Byte) (seat : Seat) (record : PlanRecord) (s : State), TakesOrders s →
    s.cursor.direction = .write → s.cursor.index.val = seat.val →
    CarriesRecord cls wing position delegation voice record →
    (record.cls = .chair → ((List.finRange 512).countP fun i : Seat => i ≠ seat && s.plan[i].cls == .chair) < 4) →
    (∃ t, exec (.planPut cls wing position delegation voice) s = .next t ∧ Answers s t 0x09 .ok (seatBytes seat) ∧
      t.plan[seat] = record ∧ (∀ i : Seat, i ≠ seat → t.plan[i] = s.plan[i]) ∧
      t.cursor = { s.cursor with index := seat.succ } ∧ t.allowance = s.allowance ∧ t.profiles = s.profiles ∧
      t.draws = s.draws ∧ LinkFrame s t) ∧
    (let written := { oweAnswer s with
       plan := put s.plan seat record, cursor := { s.cursor with index := seat.succ } }
     exec (.planPut cls wing position delegation voice) s = .next (answered 0x09 .ok (seatBytes seat)
       (classRequests seat s.plan[seat].cls record.cls (recheckSeat seat written)))) ∧
    (record.cls = s.plan[seat].cls → s.trunks.binding[seat] = none →
      (∀ b ∈ s.trunks.blocked, b.addr ≠ some seat) →
      exec (.planPut cls wing position delegation voice) s = .next (answered 0x09 .ok (seatBytes seat)
        ((s.setPlan (put s.plan seat record)).setCursor { s.cursor with index := seat.succ })))) ∧
    (∀ (seat : Seat) (s : State),
      recheckSeat seat s =
        (s.trunks.blocked.filter fun b => b.addr = some seat).foldl recheckBlocked (recheckBound seat s) ∧
      (s.trunks.binding[seat] = none → recheckBound seat s = s) ∧
      ∀ (p : Place) (e : ChainEntry), s.trunks.binding[seat] = some p → s.trunks.entryAt p = some e →
        e.addr = some seat →
        (failedCheck s p e.buttons.unitType seat = none → recheckBound seat s = s) ∧
        ∀ k, failedCheck s p e.buttons.unitType seat = some k →
          let left := leaveSeat seat .plan .plan s
          let shut := becomeBlocked p e k left
          recheckBound seat s = (if heldSlot s seat then advanceCheck shut else shut) ∧
          left.trunks = { s.trunks with binding := put s.trunks.binding seat none } ∧
          (Queues s → shut = { left with link := shut.link, trunks := shut.trunks } ∧ LinkFrame left shut ∧
            shut.trunks.binding = left.trunks.binding ∧
            shut.trunks.blocked = s.trunks.blocked ++ [⟨p, some seat, k⟩] ∧
            (∀ p' : Place, shut.trunks.entryAt p' =
              if p' = p then some { e with presence := .blocked k } else s.trunks.entryAt p') ∧
            Posts left shut [.seatBlocked p (some seat) k])) ∧
    ∀ (b : BlockedEntry) (e : ChainEntry) (seat : Seat) (s : State), Queues s →
      s.trunks.entryAt b.place = some e → e.addr = some seat → b.addr = some seat → e.presence = .blocked b.kind →
      let t := recheckBlocked s b
      let check := failedCheck s b.place e.buttons.unitType seat
      let becomes := fun (r : ChainEntry) => t = { s with link := t.link, trunks := t.trunks } ∧ LinkFrame s t ∧
        (∀ p : Place, t.trunks.entryAt p = if p = b.place then some r else s.trunks.entryAt p) ∧
        (∀ w : Wing, t.trunks.units[w] = { s.trunks.units[w] with chain := t.trunks.units[w].chain })
      (check = none → becomes { e with presence := .ready, refusal := 0 } ∧
        t.trunks.binding = put s.trunks.binding seat (some b.place) ∧
        t.trunks.blocked = s.trunks.blocked.filter (fun x => x.place ≠ b.place) ∧
        Posts s t [.seatReady b.place seat e.buttons.unitType]) ∧
      (check = some b.kind → t = s) ∧
      ∀ k, check = some k → k ≠ b.kind → becomes { e with presence := .blocked k } ∧
        t.trunks.binding = s.trunks.binding ∧
        t.trunks.blocked = s.trunks.blocked.map (fun x => if x.place = b.place then { x with kind := k } else x) ∧
        Posts s t [.seatBlocked b.place (some seat) k]

/-- A PLAN PUT that takes a seat out of class DELEGATE leaves it no slot, no entry and no reply binding to it, a seat that
becomes VACANT or LISTENER unlocked, and one that becomes CHAIR with a closed chair microphone (R13, R14). After the re-check its
requests are, in order, the close of the seat's slot, the removal of its entry, the drop of the reply bindings to it, and the
LOCKED flag cleared for VACANT and LISTENER (R13); a seat that becomes CHAIR has a chair record added, CLOSED, in its place (R14,
R91). One that takes a seat out of class CHAIR withdraws the chair and removes its chair record, and for
VACANT and LISTENER clears the LOCKED flag (R14); R14 does not say whether this comes before or after the re-check of R12, and
the model makes it after (log entry 40), the microphone closing before the hold is taken off (log entry 12). -/
def Obligations.LeavingDelegateGivesUpTheFloor : Prop :=
  (∀ (cls wing position delegation voice : Byte) (seat : Seat) (record : PlanRecord) (s : State), TakesOrders s →
    QueueLaw s → SlotListsLaw s → OneSlotLaw s →
    s.cursor.direction = .write → s.cursor.index.val = seat.val →
    CarriesRecord cls wing position delegation voice record → s.plan[seat].cls = .delegate →
    record.cls ≠ .delegate →
    (record.cls = .chair → ((List.finRange 512).countP fun i : Seat => i ≠ seat && s.plan[i].cls == .chair) < 4) →
    ∃ t, exec (.planPut cls wing position delegation voice) s = .next t ∧ t.plan[seat] = record ∧
      (∀ (n : SlotNo) (sl : Slot), t.floor.slots[n] = some sl → sl.seat ≠ seat) ∧
      (∀ e ∈ t.queue.entries, e.seat ≠ seat ∧ e.target ≠ some seat) ∧
      (record.cls ≠ .chair → t.floor.locked[seat] = false) ∧
      (record.cls = .chair → (⟨seat, false, false, 0, false, false⟩ : ChairRecord) ∈ t.floor.chairs)) ∧
    (∀ (seat : Seat) (before now : SeatClass) (s : State),
      let idle := before = .vacant ∨ before = .listener
      let sorted := s.floor.chairs.Pairwise (fun a b => a.seat < b.seat) ∧ ∀ c ∈ s.floor.chairs, c.seat ≠ seat
      let added := fun (u : State) => u.setFloor { u.floor with
        chairs := (s.floor.chairs.filter fun c => c.seat < seat) ++ ⟨seat, false, false, 0, false, false⟩
          :: s.floor.chairs.filter fun c => seat < c.seat }
      let dropped := dropBindings seat false (leaveQueue seat .plan (closeSeat seat .plan s))
      (before = now ∨ (idle ∧ now ≠ .chair) → classRequests seat before now s = s) ∧
      (idle → now = .chair → sorted → classRequests seat before now s = added s) ∧
      (before = .delegate → now = .chair → sorted → classRequests seat before now s = added dropped) ∧
      (before = .delegate → now = .vacant ∨ now = .listener → classRequests seat before now s =
        dropped.setFloor { dropped.floor with locked := put dropped.floor.locked seat false })) ∧
    ∀ (cls wing position delegation voice : Byte) (seat : Seat) (record : PlanRecord) (s : State), TakesOrders s →
      s.cursor.direction = .write → s.cursor.index.val = seat.val →
      CarriesRecord cls wing position delegation voice record → s.plan[seat].cls = .chair → record.cls ≠ .chair →
      ChairsLaw s →
      let written := { oweAnswer s with
        plan := put s.plan seat record, cursor := { s.cursor with index := seat.succ } }
      let withdrawn := withdrawChair seat (recheckSeat seat written)
      let removed := withdrawn.setFloor { withdrawn.floor with
        chairs := withdrawn.floor.chairs.filter fun c => c.seat ≠ seat
        locked := if record.cls = .delegate then withdrawn.floor.locked else put withdrawn.floor.locked seat false }
      exec (.planPut cls wing position delegation voice) s = .next (answered 0x09 .ok (seatBytes seat) removed)

/-! ### The trunks -/

/-- POLL_SENT, no poll being in progress: the next position of the round, or past it the end probe one past the chain length
(R19); an assignment in flight to the position is carried and its poll count goes up (R34; at the sending: log entry 35). The
microphone is OPEN, MUTE or CLOSED by the seat's slot, or by its chair microphone when it holds none, and CLOSED but for a
READY unit (R39). The indicator is OFF for no unit and a SETTLING one, BLOCKED for a BLOCKED one, and for a READY unit the first
row of the table for its seat's class that applies (R38). A good or missed answer ends the poll. After the end probe, or in a
round of 128 positions after position 128, which has no end probe, the next poll goes to position 1 and the round has the chain
length as it then stands; within a round both stay as they were (R19; as the answer is taken: log entry 32). The chain length is
the highest position that holds a unit, or 0 (R18). That with no poll in progress an answer and a miss have no effect is the
model's reading of R169 (log entry 21). -/
def Obligations.PollSentGoesRound : Prop :=
  (∀ (w : Wing) (pos : Pos) (probe : Bool) (s : State), s.resetHeld = false → s.trunks.units[w].poll = none →
    (probe = false → s.trunks.units[w].nextPos = posNumber pos ∧ posNumber pos ≤ s.trunks.units[w].roundLength) →
    (probe = true → s.trunks.units[w].roundLength < s.trunks.units[w].nextPos ∧
      posNumber pos = s.trunks.units[w].chainLength + 1) →
    s.trunks.units[w].nextTarget = some (pos, probe) ∧
    ∃ (t : State) (q : Poll), exec (.pollSent w) s = .next t ∧ t = { s with trunks := t.trunks } ∧
      t.trunks.binding = s.trunks.binding ∧ t.trunks.blocked = s.trunks.blocked ∧
      (∀ w', w' ≠ w → t.trunks.units[w'] = s.trunks.units[w']) ∧
      t.trunks.units[w].chain = s.trunks.units[w].chain ∧
      t.trunks.units[w].roundLength = s.trunks.units[w].roundLength ∧
      t.trunks.units[w].nextPos = s.trunks.units[w].nextPos + 1 ∧
      t.trunks.units[w].poll = some q ∧ q.pos = pos ∧ q.endProbe = probe ∧
      (s.trunks.units[w].assignment = none → q.store = none ∧ t.trunks.units[w].assignment = none) ∧
      (∀ a, s.trunks.units[w].assignment = some a → a.pos = pos →
        q.store = some a.seat ∧ t.trunks.units[w].assignment = some { a with polls := a.polls + 1 }) ∧
      (∀ a, s.trunks.units[w].assignment = some a → a.pos ≠ pos →
        q.store = none ∧ t.trunks.units[w].assignment = some a) ∧
      (s.trunks.entryAt ⟨w, pos⟩ = none → q.mic = .closed ∧ q.indicator = .off) ∧
      ∀ e, s.trunks.entryAt ⟨w, pos⟩ = some e →
        (e.presence = .settling → q.mic = .closed ∧ q.indicator = .off) ∧
        (∀ k, e.presence = .blocked k → q.mic = .closed ∧ q.indicator = .blocked) ∧
        ∀ seat, e.presence = .ready → e.addr = some seat →
          (∀ n sl, s.floor.slotOf seat = some n → s.floor.slots[n] = some sl →
            q.mic = if sl.condition = .open then .open else .mute) ∧
          (s.floor.slotOf seat = none →
            (∀ c, s.floor.chairOf seat = some c →
              q.mic = if c.micOpen = false then .closed else if c.softMuted = true then .mute else .open) ∧
            (s.floor.chairOf seat = none → q.mic = .closed)) ∧
          (s.plan[seat].cls = .delegate →
            (s.floor.locked[seat] = true → q.indicator = .locked) ∧
            (s.floor.locked[seat] = false → 0 < e.refusal → q.indicator = .refused) ∧
            (s.floor.locked[seat] = false → e.refusal = 0 →
              (∀ n sl, s.floor.slotOf seat = some n → s.floor.slots[n] = some sl →
                let warn := sl.warned = true ∨ ((inForce s).allowanceMode = .warn ∧
                  (s.allowance.accounts[accountOf s.plan[seat] seat]).balance ≤ 0)
                (sl.condition ≠ .open → q.indicator = .muted) ∧
                (sl.condition = .open → warn → q.indicator = .warning) ∧
                (sl.condition = .open → ¬warn → q.indicator = .speaking)) ∧
              (s.floor.slotOf seat = none →
                let first := (s.queue.entries.find? fun x => decide (eligibility s x = .eligible)).any fun x => x.seat == seat
                (first = true → q.indicator = .first) ∧
                (first = false → (∃ x ∈ s.queue.entries, x.seat = seat) → q.indicator = .request) ∧
                ((∀ x ∈ s.queue.entries, x.seat ≠ seat) → q.indicator = .off)))) ∧
          (s.plan[seat].cls = .chair →
            (s.floor.locked[seat] = true → q.indicator = .locked) ∧
            (s.floor.locked[seat] = false → 0 < e.refusal → q.indicator = .refused) ∧
            (s.floor.locked[seat] = false → e.refusal = 0 → ∀ c, s.floor.chairOf seat = some c →
              q.indicator = if c.micOpen = false then .off else if c.softMuted = true then .muted else .speaking)) ∧
          (s.plan[seat].cls = .vacant ∨ s.plan[seat].cls = .listener →
            q.indicator = if 0 < e.refusal then .refused else .off)) ∧
    (∀ (w : Wing) (s : State),
      let t := endPoll w s
      let u := t.trunks.units[w]
      t = { s with trunks := t.trunks } ∧ t.trunks.binding = s.trunks.binding ∧ t.trunks.blocked = s.trunks.blocked ∧
      (∀ w', w' ≠ w → t.trunks.units[w'] = s.trunks.units[w']) ∧
      (s.trunks.units[w].poll = none → u = s.trunks.units[w]) ∧
      ∀ q, s.trunks.units[w].poll = some q →
        let last := q.endProbe = true ∨ (s.trunks.units[w].roundLength = 128 ∧ 128 < s.trunks.units[w].nextPos)
        (last → u = { s.trunks.units[w] with
          poll := none, roundLength := s.trunks.units[w].chainLength, nextPos := 1 }) ∧
        (¬last → u = { s.trunks.units[w] with poll := none })) ∧
    (∀ (w : Wing) (s : State),
      (∀ pos : Pos, s.trunks.entryAt ⟨w, pos⟩ ≠ none → pos.val + 1 ≤ s.trunks.units[w].chainLength) ∧
      (s.trunks.units[w].chainLength = 0 ∨ ∃ pos : Pos, posNumber pos = s.trunks.units[w].chainLength ∧
        posNumber pos = pos.val + 1 ∧ s.trunks.entryAt ⟨w, pos⟩ ≠ none)) ∧
    ∀ (w : Wing) (answer : List Byte) (s : State), s.resetHeld = false →
      (s.trunks.units[w].poll = none →
        exec (.pollGoodAnswer w answer) s = .next s ∧ exec (.pollMissedAnswer w) s = .next s) ∧
      ∀ q, s.trunks.units[w].poll = some q →
        let last := q.endProbe = true ∨ (s.trunks.units[w].roundLength = 128 ∧ 128 < s.trunks.units[w].nextPos)
        let ended := fun (t : State) =>
          let u := t.trunks.units[w]
          u.poll = none ∧ (last → u.roundLength = u.chainLength ∧ u.nextPos = 1) ∧
            (¬last → u.roundLength = s.trunks.units[w].roundLength ∧ u.nextPos = s.trunks.units[w].nextPos)
        (∃ t, exec (.pollGoodAnswer w answer) s = .next t ∧ ended t) ∧
          ∃ t, exec (.pollMissedAnswer w) s = .next t ∧ ended t

/-- A good answer at an ABSENT position creates a SETTLING entry with the answer's address, buttons and level and its counts
at 0, posts nothing and changes no other place; at the end probe the chain length becomes the position (R21). A good answer
with another address or unit type than the entry's, which completes no assignment, loses the recorded unit as UNIT_LOST
states it, and then the same new entry begins SETTLING in its place (R27, R34). -/
def Obligations.NewUnitBeginsSettling : Prop :=
  (∀ (w : Wing) (q : Poll) (a : TrunkAnswer) (s : State), s.resetHeld = false → s.trunks.units[w].poll = some q →
    s.trunks.entryAt ⟨w, q.pos⟩ = none → (∀ x, s.trunks.units[w].assignment = some x → x.pos ≠ q.pos) →
    ∃ t, exec (.pollGoodAnswer w (answerFrame a)) s = .next t ∧ t = { s with trunks := t.trunks } ∧
      t.trunks.entryAt ⟨w, q.pos⟩ = some ⟨a.addr, a.buttons, .settling, 0, 0, a.level, 0⟩ ∧
      (∀ p : Place, p ≠ ⟨w, q.pos⟩ → t.trunks.entryAt p = s.trunks.entryAt p) ∧
      t.trunks.units[w].poll = none ∧ t.trunks.units[w].assignment = s.trunks.units[w].assignment ∧
      t.trunks.binding = s.trunks.binding ∧ t.trunks.blocked = s.trunks.blocked ∧
      (posNumber q.pos = s.trunks.units[w].chainLength + 1 → t.trunks.units[w].chainLength = posNumber q.pos)) ∧
    ∀ (w : Wing) (q : Poll) (e : ChainEntry) (a : TrunkAnswer) (s : State), s.resetHeld = false →
      s.trunks.units[w].poll = some q → s.trunks.entryAt ⟨w, q.pos⟩ = some e →
      (a.addr ≠ e.addr ∨ a.buttons.unitType ≠ e.buttons.unitType) →
      (∀ x, s.trunks.units[w].assignment = some x → x.pos = q.pos →
        ¬(a.stored = true ∧ a.addr = some x.seat ∧ a.buttons.unitType = e.buttons.unitType)) →
      ∃ u, exec (.unitLost w (posNumber q.pos)) s = .next u ∧
        ∃ t, exec (.pollGoodAnswer w (answerFrame a)) s = .next t ∧ t = { u with trunks := t.trunks } ∧
          t.trunks.entryAt ⟨w, q.pos⟩ = some ⟨a.addr, a.buttons, .settling, 0, 0, a.level, 0⟩ ∧
          (∀ p : Place, p ≠ ⟨w, q.pos⟩ → t.trunks.entryAt p = u.trunks.entryAt p) ∧
          (∀ w', w' ≠ w → t.trunks.units[w'] = u.trunks.units[w']) ∧
          t.trunks.units[w].poll = none ∧ t.trunks.units[w].assignment = u.trunks.units[w].assignment ∧
          t.trunks.binding = u.trunks.binding ∧ t.trunks.blocked = u.trunks.blocked

/-- REFUSAL_COUNT_EXPIRY takes one off every refusal count of the wing's chain that is above 0 (R39). A good answer of the
recorded address and unit type that completes no assignment is recorded and clears the miss count: it takes a SETTLING unit
one nearer its check, and the sixteenth in a row is SETTLE_COMPLETE (R22, R23); a BLOCKED unit's is not delivered (R24); a
READY unit's is delivered as a report of its seat (R24). A missed answer clears a SETTLING unit's settle count and adds a
miss, and the third in a row is UNIT_LOST (R22, R25). Then, when the poll was the eighth or a later one that carried an
assignment to the position, the assignment fails as ASSIGN_TIMEOUT (R35; the polls are counted as sent, log entry 35), and the
poll ends (R19). A miss at an ABSENT position changes no unit. That the third miss loses the unit where it is the eighth poll
too, with no TIMEOUT after it, is the model's reading of R35 (log entry 11). The first report of a seat makes its record,
every button that is down STALE (R41), and a report is taken whole: the buttons, the level for voice, the level for the howl
guard (R42). Bytes that are no good answer are a miss (R169). -/
def Obligations.AnswersAndRefusalsAreCounted : Prop :=
  (∀ (w : Wing) (s : State), s.resetHeld = false →
     ∃ t, exec (.refusalCountExpiry w) s = .next t ∧ t = { s with trunks := t.trunks } ∧
       t.trunks.binding = s.trunks.binding ∧ t.trunks.blocked = s.trunks.blocked ∧
       (∀ w', w' ≠ w → t.trunks.units[w'] = s.trunks.units[w']) ∧
       t.trunks.units[w] = { s.trunks.units[w] with chain := t.trunks.units[w].chain } ∧
       ∀ pos : Pos, t.trunks.entryAt ⟨w, pos⟩ =
         (s.trunks.entryAt ⟨w, pos⟩).map fun e => { e with refusal := e.refusal - 1 }) ∧
    (∀ (w : Wing) (q : Poll) (s : State), s.resetHeld = false → s.trunks.units[w].poll = some q →
      let p : Place := ⟨w, q.pos⟩
      let late := (s.trunks.units[w].assignment).any fun x => decide (x.pos = q.pos ∧ 8 ≤ x.polls)
      let ends := fun (u : State) => if late then exec (.assignTimeout w) (endPoll w u) else .next (endPoll w u)
      let recorded := fun (r : ChainEntry) => s.setTrunks (s.trunks.putEntry p (some r))
      (s.trunks.entryAt p = none → exec (.pollMissedAnswer w) s = ends s) ∧
      ∀ e, s.trunks.entryAt p = some e →
        (e.miss < 2 → exec (.pollMissedAnswer w) s = ends (recorded { e with
          miss := e.miss + 1, settle := if e.presence = .settling then 0 else e.settle })) ∧
        (2 ≤ e.miss → exec (.pollMissedAnswer w) s = exec (.unitLost w (posNumber q.pos)) s) ∧
        ∀ a : TrunkAnswer, a.addr = e.addr → a.buttons.unitType = e.buttons.unitType →
          (∀ x, s.trunks.units[w].assignment = some x → x.pos = q.pos → ¬(a.stored = true ∧ a.addr = some x.seat)) →
          let heard : ChainEntry := { e with miss := 0, buttons := a.buttons, level := a.level }
          let answered := exec (.pollGoodAnswer w (answerFrame a)) s
          (e.presence = .settling → e.settle < 15 → answered = ends (recorded { heard with settle := e.settle + 1 })) ∧
          (e.presence = .settling → 15 ≤ e.settle →
            ∃ u, exec (.settleComplete w (posNumber q.pos)) (recorded heard) = .next u ∧
              answered = if late then exec (.assignTimeout w) u else .next u) ∧
          (∀ k, e.presence = .blocked k → answered = ends (recorded heard)) ∧
          ∀ seat, e.presence = .ready → e.addr = some seat →
            answered = ends (takeReport seat a.buttons a.level.val (recorded heard))) ∧
    (∀ (w : Wing) (bytes : List Byte) (s : State), s.resetHeld = false → readAnswer bytes = none →
      exec (.pollGoodAnswer w bytes) s = exec (.pollMissedAnswer w) s) ∧
    ∀ (seat : Seat) (b : Buttons) (level : Nat) (s : State),
      (s.seats[seat] = none →
        let state := fun (down : Bool) => if down then ButtonState.stale else ButtonState.up
        takeReport seat b level s = takeReport seat b level (s.setSeats (put s.seats seat (some (match b with
          | .delegate r => ⟨state r, .up, .up, .up, none, false, false, 0, 0, .off, 0, 0, 0⟩
          | .chair k p n => ⟨.up, state k, state p, state n, none, false, false, 0, 0, .off, 0, 0, 0⟩))))) ∧
      (s.seats[seat] ≠ none →
        takeReport seat b level s = takeHowl seat level (takeVoice seat level (takeButtons seat b s)))

/-- SETTLE_COMPLETE checks a SETTLING unit in the order of the table: BLANK, then the location, then the unit type, then
another unit bound to the seat; a unit that fails is BLOCKED at the tail of the blocked-unit table, one that passes is READY
and bound; no other place, and nothing outside the trunks and the link, changes (R22, R23, R31). That the command settles the unit
whatever its settle count is the model's reading of the event (log entry 5). -/
def Obligations.SettleCompleteMakesTheChecks : Prop :=
  ∀ (w : Wing) (pos : Pos) (e : ChainEntry) (s : State), Sending s →
    s.trunks.entryAt ⟨w, pos⟩ = some e → e.presence = .settling →
    ∃ t, exec (.settleComplete w (posNumber pos)) s = .next t ∧
      t = { s with trunks := t.trunks, link := t.link } ∧ LinkFrame s t ∧
      (∀ p : Place, p ≠ ⟨w, pos⟩ → t.trunks.entryAt p = s.trunks.entryAt p) ∧
      ∃ r, t.trunks.entryAt ⟨w, pos⟩ = some r ∧ r.addr = e.addr ∧ r.buttons = e.buttons ∧ r.level = e.level ∧
        r.settle = 16 ∧ r.miss = 0 ∧
        let blockedAs := fun k => r.presence = .blocked k ∧ t.trunks.binding = s.trunks.binding ∧
          t.trunks.blocked = s.trunks.blocked ++ [⟨⟨w, pos⟩, e.addr, k⟩] ∧
          Posts s t [.seatBlocked ⟨w, pos⟩ e.addr k]
        (e.addr = none → blockedAs .unbound) ∧
        ∀ seat, e.addr = some seat →
          let wrongPlace := s.plan[seat].location ≠ none ∧ s.plan[seat].location ≠ some ⟨w, pos⟩
          let wrongType := (s.plan[seat].cls = .chair ∧ e.buttons.unitType = .delegateUnit)
            ∨ (s.plan[seat].cls = .delegate ∧ e.buttons.unitType = .chairUnit)
          let taken := s.trunks.binding[seat] ≠ none ∧ s.trunks.binding[seat] ≠ some ⟨w, pos⟩
          (wrongPlace → blockedAs .location) ∧ (¬wrongPlace → wrongType → blockedAs .type) ∧
            (¬wrongPlace → ¬wrongType → taken → blockedAs .duplicate) ∧
            (¬wrongPlace → ¬wrongType → ¬taken → r.presence = .ready ∧ r.refusal = 0 ∧
              t.trunks.binding = put s.trunks.binding seat (some ⟨w, pos⟩) ∧ t.trunks.blocked = s.trunks.blocked ∧
              Posts s t [.seatReady ⟨w, pos⟩ seat e.buttons.unitType])

/-- UNIT_LOST makes the position ABSENT and leaves every other place of the chains; an assignment in flight to the position
then fails, ASSIGN FAILED with cause LOST coming after the notices of the loss (R35). A SETTLING unit leaves without a notice,
a BLOCKED one leaves the blocked-unit table with SEAT LOST, and a READY one leaves its seat with no binding, no seat record,
no slot, no entry and no reply binding to it (R25, R26). What a unit leaves: its seat is unbound and its record gone, then its
slot is closed without an advance check, its entry removed, the reply bindings to it dropped, and in class CHAIR the chair
withdrawn (R26, R29); SEAT LOST and then the one advance check of the close follow. A drop of reply bindings makes the drain
end test, and the advance check when an entry it freed is eligible and no check of a close is still to come (R69, R90; log
entry 18). Readings of the model are: that ASSIGN FAILED comes after the notices of that advance check too (log entry 10);
that the one drain end test of a drop comes after all its bindings, and none where none was bound (log entry 17); the order
within a chair's withdrawal (log entry 12); and that the command loses the unit whatever its miss count (log entry 5). -/
def Obligations.UnitLostLeavesItsSeat : Prop :=
  (∀ (w : Wing) (pos : Pos) (e : ChainEntry) (s : State), Sending s → s.trunks.entryAt ⟨w, pos⟩ = some e →
    let failed := assignmentNotices s ⟨w, pos⟩ .lost
    ∃ t, exec (.unitLost w (posNumber pos)) s = .next t ∧ LinkFrame s t ∧ t.trunks.entryAt ⟨w, pos⟩ = none ∧
      (∀ p : Place, p ≠ ⟨w, pos⟩ → t.trunks.entryAt p = s.trunks.entryAt p) ∧ t.plan = s.plan ∧ t.cursor = s.cursor ∧
      t.allowance = s.allowance ∧ t.profiles = s.profiles ∧
      (∀ w', w' ≠ w → t.trunks.units[w'] = s.trunks.units[w']) ∧
      t.trunks.units[w].assignment = (s.trunks.units[w].assignment).filter (fun x => x.pos ≠ pos) ∧
      (e.presence = .settling → t = { s with trunks := t.trunks, link := t.link } ∧
        t.trunks.binding = s.trunks.binding ∧ t.trunks.blocked = s.trunks.blocked ∧
        (failed = [] → t.link = s.link) ∧ Posts s t failed) ∧
      (∀ k, e.presence = .blocked k → t = { s with trunks := t.trunks, link := t.link } ∧
        t.trunks.binding = s.trunks.binding ∧ t.trunks.blocked = s.trunks.blocked.filter (fun b => b.place ≠ ⟨w, pos⟩) ∧
        Posts s t (.seatLost ⟨w, pos⟩ e.addr (.blocked k) :: failed)) ∧
      (∀ seat, e.presence = .ready → e.addr = some seat →
        let lost := post (.seatLost ⟨w, pos⟩ (some seat) .ready) (leaveSeat seat .lost .lost s)
        let after := if heldSlot s seat then advanceCheck lost else lost
        t = { after with link := t.link, trunks := t.trunks } ∧ t.trunks.binding = after.trunks.binding ∧
          t.trunks.blocked = after.trunks.blocked ∧ LinkFrame after t ∧ Posts after t failed) ∧
      (∀ seat, e.presence = .ready → e.addr = some seat → QueueLaw s → SlotListsLaw s → OneSlotLaw s →
        t.trunks.binding = put s.trunks.binding seat none ∧ t.trunks.blocked = s.trunks.blocked ∧
        t.seats[seat] = none ∧
        (∀ (n : SlotNo) (sl : Slot), t.floor.slots[n] = some sl → sl.seat ≠ seat) ∧
        (∀ x ∈ t.queue.entries, x.seat ≠ seat ∧ x.target ≠ some seat) ∧
        (s.plan[seat].cls ≠ .chair → NoAdvance s →
          t = { s with
            link := t.link, trunks := t.trunks, seats := put s.seats seat none
            queue := { s.queue with entries := entriesLeft seat s.queue.entries }, floor := floorLeft seat s.floor } ∧
          Posts s t (leavingNotices s seat .lost .lost ++ [.seatLost ⟨w, pos⟩ (some seat) .ready] ++ failed)))) ∧
    (∀ (seat : Seat) (reason : CloseReason) (leave : LeaveReason) (s : State),
      let unbound := { s with
        seats := put s.seats seat none, trunks := { s.trunks with binding := put s.trunks.binding seat none } }
      let closed := match s.floor.slotOf seat with
        | some n => closeSlot n reason unbound
        | none => unbound
      let dropped := dropBindings seat (s.floor.slotOf seat).isSome (leaveQueue seat leave closed)
      (s.plan[seat].cls ≠ .chair → leaveSeat seat reason leave s = dropped) ∧
      (s.plan[seat].cls = .chair → leaveSeat seat reason leave s = withdrawChair seat dropped) ∧
      (Queues s → s.queue.list = .open → FloorLaws s →
        let freed := s.floor.slotOf seat = none ∧ ∃ x ∈ s.queue.entries, x.seat ≠ seat ∧ x.target = some seat ∧
          eligibility s { x with target := none, heard := false } = .eligible
        ∃ d : State, d = { unbound with
            link := d.link
            queue := { s.queue with entries := entriesLeft seat s.queue.entries }, floor := floorLeft seat s.floor } ∧
          LinkFrame s d ∧ Posts s d (leavingNotices s seat reason leave) ∧ (¬freed → dropped = d) ∧
          (freed → dropped = advanceCheck d))) ∧
    ∀ (seat : Seat) (deferred : Bool) (s : State),
      let bound := s.queue.entries.filter fun x => x.target = some seat
      let unbound := s.queue.entries.map fun x =>
        if x.target = some seat then { x with target := none, heard := false } else x
      let d := s.setQueue { s.queue with entries := unbound }
      let freed := ∃ x ∈ bound, eligibility s { x with target := none, heard := false } = .eligible
      (bound = [] → dropBindings seat deferred s = s) ∧
      (bound ≠ [] → deferred = true ∨ ¬freed → dropBindings seat deferred s = drainEndTest d) ∧
      (bound ≠ [] → deferred = false → freed → dropBindings seat deferred s = advanceCheck (drainEndTest d))

/-- SEAT ASSIGN is refused in the order of its table with nothing changed, and otherwise records the assignment with its poll
count at 0 and answers OK; a READY unit's seat gives up its slot, by the whole close path, and then its entry, and a unit that
is not READY is left as it is (R33, R83). -/
def Obligations.SeatAssignIsRecorded : Prop :=
  ∀ (wing position : Byte) (seat : Half) (s : State), TakesOrders s →
    (3 < wing.toNat ∨ position.toNat = 0 ∨ 128 < position.toNat ∨ 511 < seat.toNat →
      exec (.seatAssign wing position seat) s = .next (answered 0x10 .badValue [] s)) ∧
    ∀ (w : Wing) (pos : Pos) (x : Seat), wing.toNat = w.val → position.toNat = posNumber pos → seat.toNat = x.val →
      (s.trunks.units[w].assignment ≠ none →
        exec (.seatAssign wing position seat) s = .next (answered 0x10 .busy [] s)) ∧
      (s.trunks.units[w].assignment = none → s.trunks.entryAt ⟨w, pos⟩ = none →
        exec (.seatAssign wing position seat) s = .next (answered 0x10 .absent [] s)) ∧
      ∀ e, s.trunks.units[w].assignment = none → s.trunks.entryAt ⟨w, pos⟩ = some e →
        (∃ t, exec (.seatAssign wing position seat) s = .next t ∧ Answers s t 0x10 .ok [] ∧ LinkFrame s t ∧
          t.trunks.units[w].assignment = some ⟨pos, x, 0⟩ ∧ t.trunks.units[w].chain = s.trunks.units[w].chain ∧
          t.trunks.binding = s.trunks.binding ∧ t.trunks.blocked = s.trunks.blocked ∧
          (∀ w', w' ≠ w → t.trunks.units[w'] = s.trunks.units[w']) ∧ t.plan = s.plan ∧ t.allowance = s.allowance ∧
          t.profiles = s.profiles ∧ t.cursor = s.cursor ∧
          (e.presence ≠ .ready → t.floor = s.floor ∧ t.queue = s.queue ∧ t.seats = s.seats ∧
            t.link.notices = s.link.notices) ∧
          ∀ b, e.presence = .ready → e.addr = some b → QueueLaw s → SlotListsLaw s → OneSlotLaw s →
            (∀ (n : SlotNo) (sl : Slot), t.floor.slots[n] = some sl → sl.seat ≠ b) ∧
              ∀ x ∈ t.queue.entries, x.seat ≠ b) ∧
        ∀ b, e.presence = .ready → e.addr = some b →
          let assigned := (oweAnswer s).setTrunks { s.trunks with
            units := put s.trunks.units w { s.trunks.units[w] with assignment := some ⟨pos, x, 0⟩ } }
          exec (.seatAssign wing position seat) s =
            .next (answered 0x10 .ok [] (leaveQueue b .plan (closeSeat b .plan assigned)))

/-- ASSIGN_TIMEOUT: the assignment in flight leaves the trunk and ASSIGN FAILED is posted with cause TIMEOUT; the unit keeps
its entry (R35; that the command fails an assignment whatever its poll count is the model's reading, log entry 5). An
assignment completes at the answer that carries the stored flag and the requested address from a unit of the recorded type
(R34). The unit takes the address and is checked at once in the order of R23: it becomes READY and bound, or BLOCKED at the
tail of the blocked-unit table, with SEAT READY or SEAT BLOCKED and then ASSIGN DONE. A SETTLING unit does not finish its
settle count, a BLOCKED one leaves the table first, one READY for the requested seat stays bound, and one READY for another
seat first leaves that seat with reason PLAN, with the advance check of its close, and, in the last clause, with the notices
written out for a seat that is no chair and no advance following (R29, R31). The refusal count is kept (R39 against R23, log
entry 13), the answer's buttons and level are recorded and not reported (log entry 14), and the seat's departure comes before
the check (log entry 15). -/
def Obligations.AssignmentCompletesOrTimesOut : Prop :=
  (∀ (w : Wing) (x : Assignment) (s : State), Sending s → s.trunks.units[w].assignment = some x →
     ∃ t, exec (.assignTimeout w) s = .next t ∧ t = { s with trunks := t.trunks, link := t.link } ∧ LinkFrame s t ∧
       t.trunks.units[w].assignment = none ∧ t.trunks.units[w].chain = s.trunks.units[w].chain ∧
       t.trunks.binding = s.trunks.binding ∧ t.trunks.blocked = s.trunks.blocked ∧
       (∀ w', w' ≠ w → t.trunks.units[w'] = s.trunks.units[w']) ∧
       Posts s t [.assignFailed ⟨w, x.pos⟩ x.seat .timeout]) ∧
    ∀ (w : Wing) (q : Poll) (e : ChainEntry) (x : Assignment) (a : TrunkAnswer) (s : State), Sending s →
      s.trunks.units[w].poll = some q → s.trunks.entryAt ⟨w, q.pos⟩ = some e →
      s.trunks.units[w].assignment = some x → x.pos = q.pos → a.stored = true → a.addr = some x.seat →
      a.buttons.unitType = e.buttons.unitType →
      let p : Place := ⟨w, q.pos⟩
      let wrongPlace := s.plan[x.seat].location ≠ none ∧ s.plan[x.seat].location ≠ some p
      let wrongType := (s.plan[x.seat].cls = .chair ∧ e.buttons.unitType = .delegateUnit)
        ∨ (s.plan[x.seat].cls = .delegate ∧ e.buttons.unitType = .chairUnit)
      let taken := s.trunks.binding[x.seat] ≠ none ∧ s.trunks.binding[x.seat] ≠ some p
      let entry := fun (state : Presence) => some ({ e with
        addr := some x.seat, buttons := a.buttons, level := a.level, presence := state, settle := 16, miss := 0 } : ChainEntry)
      let checked := fun (u t : State) (table : List BlockedEntry) (binding : Vector (Option Place) 512)
          (before : List NoticeBody) =>
        let blockedAs := fun (k : BlockKind) => t.trunks.entryAt p = entry (.blocked k) ∧ t.trunks.binding = binding ∧
          t.trunks.blocked = table ++ [⟨p, some x.seat, k⟩] ∧
          Posts u t (before ++ [.seatBlocked p (some x.seat) k, .assignDone p x.seat (.blocked k)])
        LinkFrame u t ∧ t.trunks.units[w].assignment = none ∧ t.trunks.units[w].poll = none ∧
          (∀ p' : Place, p' ≠ p → t.trunks.entryAt p' = s.trunks.entryAt p') ∧
          (∀ w', w' ≠ w → t.trunks.units[w'] = s.trunks.units[w']) ∧
          (wrongPlace → blockedAs .location) ∧ (¬wrongPlace → wrongType → blockedAs .type) ∧
          (¬wrongPlace → ¬wrongType → taken → blockedAs .duplicate) ∧
          (¬wrongPlace → ¬wrongType → ¬taken → t.trunks.entryAt p = entry .ready ∧
            t.trunks.binding = put binding x.seat (some p) ∧ t.trunks.blocked = table ∧
            Posts u t (before ++ [.seatReady p x.seat e.buttons.unitType, .assignDone p x.seat .ready]))
      (e.presence = .settling → ∃ t, exec (.pollGoodAnswer w (answerFrame a)) s = .next t ∧
        t = { s with trunks := t.trunks, link := t.link } ∧ checked s t s.trunks.blocked s.trunks.binding []) ∧
      (∀ k, e.presence = .blocked k → ∃ t, exec (.pollGoodAnswer w (answerFrame a)) s = .next t ∧
        t = { s with trunks := t.trunks, link := t.link } ∧
        checked s t (s.trunks.blocked.filter fun b => b.place ≠ p) s.trunks.binding []) ∧
      (e.presence = .ready → e.addr = some x.seat → ∃ t, exec (.pollGoodAnswer w (answerFrame a)) s = .next t ∧
        t = { s with trunks := t.trunks, link := t.link } ∧ checked s t s.trunks.blocked s.trunks.binding []) ∧
      (∀ y, e.presence = .ready → e.addr = some y → y ≠ x.seat →
        let left := leaveSeat y .plan .plan s
        let released := if heldSlot s y then advanceCheck left else left
        ∃ t, exec (.pollGoodAnswer w (answerFrame a)) s = .next t ∧
          t = { released with trunks := t.trunks, link := t.link } ∧
          checked released t s.trunks.blocked (put s.trunks.binding y none) []) ∧
      ∀ y, e.presence = .ready → e.addr = some y → y ≠ x.seat → s.plan[y].cls ≠ .chair → NoAdvance s → FloorLaws s →
        ∃ t, exec (.pollGoodAnswer w (answerFrame a)) s = .next t ∧
          t = { s with
            link := t.link, trunks := t.trunks, seats := put s.seats y none
            queue := { s.queue with entries := entriesLeft y s.queue.entries }, floor := floorLeft y s.floor } ∧
          checked s t s.trunks.blocked (put s.trunks.binding y none) (leavingNotices s y .plan .plan)

/-- TRUNK RESTART leaves the trunk of its wing with no unit and no assignment, its next poll the end probe to position 1, and
does not touch the other trunks' chains and assignments, the plan, the accounts and the profiles (R36). An assignment in flight
fails with cause RESTART, and then each unit is lost in ascending order of position, as UNIT_LOST has it (R26, R36). The seats
of its READY units are unbound and have no seat record, no slot, no entry and no reply binding to them, its BLOCKED units leave
the blocked-unit table, and the other bindings and table entries stay (R26, R31). With no advance following and no chair seat
on the wing, every other slot and entry stays as it was, and the notices are ASSIGN FAILED with cause RESTART, then those of
each loss in ascending order of position. -/
def Obligations.TrunkRestartEmptiesTheChain : Prop :=
  ∀ (wing : Byte) (s : State), TakesOrders s →
    (3 < wing.toNat → exec (.trunkRestart wing) s = .next (answered 0x13 .badValue [] s)) ∧
    ∀ w : Wing, wing.toNat = w.val →
      ∃ t, exec (.trunkRestart wing) s = .next t ∧ Answers s t 0x13 .ok [] ∧ LinkFrame s t ∧
        (∀ pos : Pos, t.trunks.entryAt ⟨w, pos⟩ = none) ∧ t.trunks.units[w].assignment = none ∧
        t.trunks.units[w].poll = none ∧ t.trunks.units[w].nextTarget = some (0, true) ∧
        (∀ w', w' ≠ w → t.trunks.units[w'] = s.trunks.units[w']) ∧ t.plan = s.plan ∧ t.cursor = s.cursor ∧
        t.allowance = s.allowance ∧ t.profiles = s.profiles ∧
        (let failed := (s.trunks.units[w].assignment.toList).foldl
           (fun u x => post (.assignFailed ⟨w, x.pos⟩ x.seat .restart) u)
           ((oweAnswer s).setTrunks { s.trunks with
             units := put s.trunks.units w { s.trunks.units[w] with assignment := none } })
         let lost := (List.finRange 128).foldl (fun u pos => stateAfter (.unitLost w (posNumber pos)) u) failed
         t = answered 0x13 .ok [] { lost with trunks := t.trunks } ∧ t.trunks.binding = lost.trunks.binding ∧
           t.trunks.blocked = lost.trunks.blocked) ∧
        (TrunkLaws s → FloorLaws s →
          (∀ seat : Seat, t.trunks.binding[seat] = if boundOn s w seat then none else s.trunks.binding[seat]) ∧
          t.trunks.blocked = s.trunks.blocked.filter (fun b => b.place.wing ≠ w) ∧
          (∀ seat : Seat, boundOn s w seat = true → t.seats[seat] = none) ∧
          (∀ (n : SlotNo) (sl : Slot), t.floor.slots[n] = some sl → boundOn s w sl.seat = false) ∧
          (∀ x ∈ t.queue.entries, boundOn s w x.seat = false ∧ (x.target).any (boundOn s w) = false) ∧
          (NoAdvance s → (∀ seat : Seat, boundOn s w seat = true → s.plan[seat].cls ≠ .chair) →
            let closed := (seatsOnWing s w).filterMap s.floor.slotOf
            t = { s with link := t.link, trunks := t.trunks, seats := t.seats
                         queue := { s.queue with entries := t.queue.entries }, floor := t.floor } ∧
            (∀ seat : Seat, boundOn s w seat = false → t.seats[seat] = s.seats[seat]) ∧
            t.queue.entries = (s.queue.entries.filter fun x => !boundOn s w x.seat).map (fun x =>
              if (x.target).any (boundOn s w) then { x with target := none, heard := false } else x) ∧
            t.floor = { s.floor with
              slots := t.floor.slots, speakers := s.floor.speakers.filter (fun n => n ∉ closed)
              free := closed.reverse ++ s.floor.free } ∧
            (∀ n : SlotNo, t.floor.slots[n] = (s.floor.slots[n]).filter fun sl => !boundOn s w sl.seat) ∧
            Posts s t ((s.trunks.units[w].assignment.toList.map fun a => .assignFailed ⟨w, a.pos⟩ a.seat .restart)
              ++ (List.finRange 128).flatMap (restartNotices s w))))

/-! ### The seat input unit -/

/-- SEAT_INPUT_EXPIRY raises the quiet count of every VOICED seat by one, and a seat whose count reaches the voice release
value becomes QUIET with its count at 0; a QUIET seat is left alone, and with no seat falling quiet nothing but the counts
changes (R49). For a seat that falls quiet alone the expiry is SILENCE of that seat, the other counts raised (R49, R88). With
no advance following, exactly the slots of origin VOICE of the DELEGATE seats that fall quiet are closed with reason SILENCE,
and the entries bound to those seats are set heard (R49, R68, R82, R88); that the seats are taken in ascending order is the
model's choice (log entry 9). -/
def Obligations.QuietCountsGoUp : Prop :=
  (∀ s : State, s.resetHeld = false →
    ∃ t, exec .seatInputExpiry s = .next t ∧
      (t.plan = s.plan ∧ t.cursor = s.cursor ∧ t.trunks = s.trunks ∧ t.allowance = s.allowance ∧
        t.profiles = s.profiles ∧ t.floor.chairs = s.floor.chairs ∧ t.floor.locked = s.floor.locked) ∧
      (∀ seat : Seat, s.seats[seat] = none → t.seats[seat] = none) ∧
      (∀ (seat : Seat) (r : SeatRecord), s.seats[seat] = some r →
        ∃ r', t.seats[seat] = some r' ∧ r'.request = r.request ∧ r'.pressStart = r.pressStart ∧
          r'.attackRun = r.attackRun ∧ r'.phase = r.phase ∧
          (r.voiced = false → r'.voiced = false ∧ r'.quietCount = r.quietCount) ∧
          (r.voiced = true → r.quietCount + 1 < (inForce s).voiceRelease →
            r'.voiced = true ∧ r'.quietCount = r.quietCount + 1) ∧
          (r.voiced = true → (inForce s).voiceRelease ≤ r.quietCount + 1 →
            r'.voiced = false ∧ r'.quietCount = 0)) ∧
      ((∀ (seat : Seat) (r : SeatRecord), s.seats[seat] = some r → r.voiced = true →
          r.quietCount + 1 < (inForce s).voiceRelease) → t = { s with seats := t.seats })) ∧
    (∀ (seat : Seat) (r : SeatRecord) (s : State), s.resetHeld = false → s.seats[seat] = some r → r.voiced = true →
      (inForce s).voiceRelease ≤ r.quietCount + 1 →
      (∀ (x : Seat) (r' : SeatRecord), s.seats[x] = some r' → x ≠ seat → r'.voiced = true →
        r'.quietCount + 1 < (inForce s).voiceRelease) →
      exec .seatInputExpiry s = exec (.silence seat) (s.setSeats (Vector.ofFn fun x : Seat =>
        if x = seat then s.seats[x] else (s.seats[x]).map quieter))) ∧
    ∀ s : State, Sending s → NoAdvance s → SlotListsLaw s → OneSlotLaw s →
      let falls := fun (x : Seat) => (s.seats[x]).any fun r =>
        r.voiced && decide ((inForce s).voiceRelease ≤ r.quietCount + 1) && decide (s.plan[x].cls = .delegate)
      let closes := fun (x : Seat) => (s.floor.slotOf x).filter fun n =>
        falls x && (s.floor.slots[n]).any fun sl => decide (sl.origin = .voice)
      let closed := (List.finRange 512).filterMap closes
      ∃ t, exec .seatInputExpiry s = .next t ∧ LinkFrame s t ∧
        t = { s with link := t.link, seats := t.seats, queue := { s.queue with entries := t.queue.entries }, floor := t.floor } ∧
        t.floor = { s.floor with
          slots := t.floor.slots, speakers := s.floor.speakers.filter (fun n => n ∉ closed)
          free := closed.reverse ++ s.floor.free } ∧
        (∀ n : SlotNo, t.floor.slots[n] = if n ∈ closed then none else s.floor.slots[n]) ∧
        t.queue.entries = s.queue.entries.map (fun e =>
          if e.target.any (fun x => (closes x).isSome) then { e with heard := true } else e) ∧
        Posts s t (closed.filterMap fun n =>
          (s.floor.slots[n]).map fun sl => .floorClosed n sl.seat .silence .voice sl.elapsed)

/-- VOICE_START of a QUIET DELEGATE seat makes it VOICED; when the mode is VOICE, the seat has its voice permit, no slot, no
lock and an unmasked wing, a free slot exists and no priority is held, it is opened with origin VOICE, and otherwise nothing
else happens (R48, R81, R88). An entry the seat has is removed first with reason GRANTED, and its drain end test comes after
the opening (R70, R81, R88, R150). A seat of another class becomes VOICED or QUIET and no more, and a seat that is VOICED
already, or QUIET already, is left alone (R48, R49). SILENCE makes a VOICED seat QUIET, and closes its slot when the origin is
VOICE, the advance check following (R49, R82, R88). That each command asserts its own trigger is the model's reading of the
events (log entry 5). A report's level is loud from 16 + 4 × voice step on (R47): it clears the quiet count of a VOICED seat,
and counts the attack run of a QUIET one, which at the voice attack value is VOICE_START; a quiet report clears the run and
leaves a VOICED seat alone (R48). -/
def Obligations.VoiceOpensAndSilenceCloses : Prop :=
  (∀ (seat : Seat) (r : SeatRecord) (s : State), Sending s →
    s.seats[seat] = some r → r.voiced = false → s.plan[seat].cls = .delegate →
    let heard := { r with voiced := true, attackRun := 0, quietCount := 0 }
    let opens := (inForce s).mode = .voice ∧ s.plan[seat].voice = true ∧
      (∀ (m : SlotNo) (sl : Slot), s.floor.slots[m] = some sl → sl.seat ≠ seat) ∧ s.floor.locked[seat] = false ∧
      isMasked s seat = false ∧ s.floor.occupied < (inForce s).speakerLimit ∧ holdCount s = 0
    (¬opens → exec (.voiceStart seat) s = .next (s.setSeats (put s.seats seat (some heard)))) ∧
    (opens → QueueLaw s → ∀ (n : SlotNo) (rest : List SlotNo), s.floor.free = n :: rest →
      let out := (s.queue.entries.find? fun e => e.seat = seat).toList.foldl (fun u e => takenOut e .granted u) s
      let opened := post (.floorOpened n seat .voice false false s.link.clock) { out with
        seats := put s.seats seat
          (some { heard with blanking := (inForce s).blankCount, howlRun := 0, releaseRun := 0 })
        floor := floorOpening n rest ⟨seat, .open, .voice, false, s.link.clock, 0, none, false, 0, false⟩ s.floor }
      ((∃ e ∈ s.queue.entries, e.seat = seat) → exec (.voiceStart seat) s = .next (drainEndTest opened)) ∧
      ((∀ e ∈ s.queue.entries, e.seat ≠ seat) ∨ s.queue.list = .open →
        exec (.voiceStart seat) s = .next opened) ∧
      opened = { s with
        link := opened.link, seats := opened.seats
        queue := { s.queue with entries := s.queue.entries.filter (fun e => e.seat ≠ seat) }, floor := opened.floor } ∧
      opened.seats = put s.seats seat
        (some { heard with blanking := (inForce s).blankCount, howlRun := 0, releaseRun := 0 }) ∧
      opened.floor = { s.floor with
        slots := put s.floor.slots n (some ⟨seat, .open, .voice, false, s.link.clock, 0, none, false, 0, false⟩)
        speakers := s.floor.speakers ++ [n], free := rest } ∧
      LinkFrame s opened ∧
      Posts s opened (((s.queue.entries.find? fun e => e.seat = seat).toList.map fun e =>
          .queueLeft seat e.kind .granted (s.queue.entries.findIdx fun x => x.seat == seat))
        ++ [.floorOpened n seat .voice false false s.link.clock]))) ∧
    (∀ (seat : Seat) (s : State), s.resetHeld = false →
      (s.seats[seat] = none → exec (.voiceStart seat) s = .next s ∧ exec (.silence seat) s = .next s) ∧
      ∀ r, s.seats[seat] = some r →
        (r.voiced = true → exec (.voiceStart seat) s = .next s) ∧ (r.voiced = false → exec (.silence seat) s = .next s) ∧
        (s.plan[seat].cls ≠ .delegate →
          (r.voiced = false → exec (.voiceStart seat) s = .next (s.setSeats (put s.seats seat
            (some { r with voiced := true, attackRun := 0, quietCount := 0 })))) ∧
          (r.voiced = true → exec (.silence seat) s = .next (s.setSeats (put s.seats seat
            (some { r with voiced := false, quietCount := 0 })))))) ∧
    (∀ (seat : Seat) (r : SeatRecord) (s : State), Sending s → s.seats[seat] = some r → r.voiced = true →
      s.plan[seat].cls = .delegate →
      let fell := s.setSeats (put s.seats seat (some { r with voiced := false, quietCount := 0 }))
      ((∀ (m : SlotNo) (sl : Slot), s.floor.slots[m] = some sl → sl.seat = seat → sl.origin ≠ .voice) →
        exec (.silence seat) s = .next fell) ∧
      ∀ (n : SlotNo) (sl : Slot), s.floor.slotOf seat = some n → s.floor.slots[n] = some sl → sl.origin = .voice →
        exec (.silence seat) s = .next (advanceCheck (closeSlot n .silence fell)) ∧
        (NoAdvance s → ∃ t, exec (.silence seat) s = .next t ∧ t = { fell with link := t.link, queue := t.queue, floor := t.floor } ∧
          LinkFrame s t ∧ t.queue.entries = s.queue.entries.map (hearEntry seat) ∧
          t.floor = { s.floor with
            slots := put s.floor.slots n none, speakers := s.floor.speakers.erase n, free := n :: s.floor.free } ∧
          Posts s t [.floorClosed n seat .silence .voice sl.elapsed])) ∧
    ∀ (seat : Seat) (r : SeatRecord) (level : Nat) (s : State), s.resetHeld = false → s.seats[seat] = some r →
      let threshold := 16 + 4 * (inForce s).voiceStep
      let attack := (inForce s).voiceAttack
      let record := fun (r' : SeatRecord) => s.setSeats (put s.seats seat (some r'))
      (threshold ≤ level → r.voiced = true → takeVoice seat level s = record { r with quietCount := 0 }) ∧
      (threshold ≤ level → r.voiced = false → r.attackRun + 1 < attack →
        takeVoice seat level s = record { r with attackRun := r.attackRun + 1 }) ∧
      (threshold ≤ level → r.voiced = false → attack ≤ r.attackRun + 1 →
        exec (.voiceStart seat) s = .next (takeVoice seat level s)) ∧
      (level < threshold → r.voiced = true → takeVoice seat level s = s) ∧
      (level < threshold → r.voiced = false → takeVoice seat level s = record { r with attackRun := 0 })

/-- HOWL and HOWL_CLEAR of a DELEGATE seat that holds no slot, and of a VACANT or LISTENER seat, clear the runs and do no
more; a seat with no record is left alone (R52, R53). HOWL of a DELEGATE seat clears its runs and, on its OPEN slot,
soft-locks it with one more strike under lock kind SOFT below two strikes, and otherwise closes the slot by the whole close
path and sets LOCKED, HOWL LOCK of kind HARD carrying the strikes as they stand (log entry 16); on a slot in another condition
it does nothing more. HOWL_CLEAR returns a SOFT_LOCKED slot to OPEN with blanking restarted, or to MUTED while priority is
held (R52, R53, R95). That each command asserts its own trigger is the model's reading of the events (log entry 5). A report's
level is taken by the howl phase, which is read at each report and clears both runs when it has changed (R50): in LIVE the
blanking count goes down first (R51), then the level counts the howl run, which at the howl count is HOWL (R52); in
LOCKED_SOFT it counts the release run up to the howl limit less 12, which at the soft release value is HOWL_CLEAR (R53). -/
def Obligations.HowlLocksTheSlot : Prop :=
  (∀ (seat : Seat) (r : SeatRecord) (n : SlotNo) (sl : Slot) (s : State), Sending s → s.seats[seat] = some r →
    s.plan[seat].cls = .delegate → s.floor.slotOf seat = some n → s.floor.slots[n] = some sl →
    let cleared := s.setSeats (put s.seats seat (some { r with howlRun := 0, releaseRun := 0 }))
    (sl.condition ≠ .open → exec (.howl seat) s = .next cleared) ∧
    (sl.condition = .open → (inForce s).lockKind = .soft → sl.strikes < 2 →
      ∃ t, exec (.howl seat) s = .next t ∧ t = { cleared with link := t.link, floor := t.floor } ∧ LinkFrame s t ∧
        t.floor = { s.floor with
          slots := put s.floor.slots n (some { sl with condition := .softLocked, strikes := sl.strikes + 1 }) } ∧
        Posts s t [.howlLock seat .soft (sl.strikes + 1)]) ∧
    (sl.condition = .open → (inForce s).lockKind = .hard ∨ 2 ≤ sl.strikes →
      let shut := advanceCheck (closeSlot n .howl (post (.howlLock seat .hard sl.strikes) cleared))
      exec (.howl seat) s = .next (shut.setFloor { shut.floor with locked := put shut.floor.locked seat true })) ∧
    (sl.condition = .open → (inForce s).lockKind = .hard ∨ 2 ≤ sl.strikes → NoAdvance s →
      ∃ t, exec (.howl seat) s = .next t ∧ t = { cleared with link := t.link, queue := t.queue, floor := t.floor } ∧
        LinkFrame s t ∧ t.queue.entries = s.queue.entries.map (hearEntry seat) ∧
        t.floor = { s.floor with
          slots := put s.floor.slots n none, speakers := s.floor.speakers.erase n, free := n :: s.floor.free
          locked := put s.floor.locked seat true } ∧
        Posts s t [.howlLock seat .hard sl.strikes, .floorClosed n seat .howl sl.origin sl.elapsed])) ∧
    (∀ (seat : Seat) (r : SeatRecord) (n : SlotNo) (sl : Slot) (s : State), Sending s → s.seats[seat] = some r →
      s.plan[seat].cls = .delegate → s.floor.slotOf seat = some n → s.floor.slots[n] = some sl →
      (sl.condition ≠ .softLocked →
        exec (.howlClear seat) s = .next (s.setSeats (put s.seats seat (some { r with releaseRun := 0 })))) ∧
      (sl.condition = .softLocked → holdCount s = 0 →
        ∃ t, exec (.howlClear seat) s = .next t ∧ t = { s with link := t.link, seats := t.seats, floor := t.floor } ∧
          LinkFrame s t ∧
          t.seats = put s.seats seat
            (some { r with releaseRun := 0, blanking := (inForce s).blankCount, howlRun := 0 }) ∧
          t.floor = { s.floor with slots := put s.floor.slots n (some { sl with condition := .open }) } ∧
          Posts s t [.howlClear seat .open]) ∧
      (sl.condition = .softLocked → 0 < holdCount s →
        ∃ t, exec (.howlClear seat) s = .next t ∧ t = { s with link := t.link, seats := t.seats, floor := t.floor } ∧
          t.seats = put s.seats seat (some { r with releaseRun := 0 }) ∧
          t.floor = { s.floor with slots := put s.floor.slots n (some { sl with condition := .muted }) } ∧
          Posts s t [.howlClear seat .muted])) ∧
    (∀ (seat : Seat) (s : State), s.resetHeld = false →
      (s.seats[seat] = none → exec (.howl seat) s = .next s ∧ exec (.howlClear seat) s = .next s) ∧
      ∀ r, s.seats[seat] = some r →
        s.plan[seat].cls = .vacant ∨ s.plan[seat].cls = .listener ∨
          (s.plan[seat].cls = .delegate ∧ s.floor.slotOf seat = none) →
        exec (.howl seat) s = .next (s.setSeats (put s.seats seat (some { r with howlRun := 0, releaseRun := 0 }))) ∧
        exec (.howlClear seat) s = .next (s.setSeats (put s.seats seat (some { r with releaseRun := 0 })))) ∧
    ∀ (seat : Seat) (r : SeatRecord) (level : Nat) (s : State), s.resetHeld = false → s.seats[seat] = some r →
      let phase := match s.floor.slotOf seat with
        | some n => match s.floor.slots[n] with
          | some sl => if sl.condition = .open then HowlPhase.live else if sl.condition = .softLocked then .lockedSoft else .off
          | none => .off
        | none => match s.floor.chairOf seat with
          | some c => if c.micOpen = false then .off else if c.softMuted = true then .lockedSoft else .live
          | none => .off
      let now := if r.phase = phase then r else { r with phase := phase, howlRun := 0, releaseRun := 0 }
      let record := fun (r' : SeatRecord) => s.setSeats (put s.seats seat (some r'))
      let limit := (inForce s).howlLimit
      let taken := takeHowl seat level s
      (phase = .off → taken = record { now with howlRun := 0, releaseRun := 0 }) ∧
      (phase = .live → 0 < now.blanking → taken = record { now with blanking := now.blanking - 1 }) ∧
      (phase = .live → now.blanking = 0 → level < limit → taken = record { now with howlRun := 0 }) ∧
      (phase = .live → now.blanking = 0 → limit ≤ level → now.howlRun + 1 < (inForce s).howlCount →
        taken = record { now with howlRun := now.howlRun + 1 }) ∧
      (phase = .live → now.blanking = 0 → limit ≤ level → (inForce s).howlCount ≤ now.howlRun + 1 →
        exec (.howl seat) (record now) = .next taken) ∧
      (phase = .lockedSoft → limit - 12 < level → taken = record { now with releaseRun := 0 }) ∧
      (phase = .lockedSoft → level ≤ limit - 12 → now.releaseRun + 1 < (inForce s).softRelease →
        taken = record { now with releaseRun := now.releaseRun + 1 }) ∧
      (phase = .lockedSoft → level ≤ limit - 12 → (inForce s).softRelease ≤ now.releaseRun + 1 →
        exec (.howlClear seat) (record now) = .next taken)

/-- TALK of a chair seat is refused while the seat is LOCKED, REFUSED shown on its unit for 20 decis, and otherwise closes an
open chair microphone or opens a closed one with its soft strikes at 0 and blanking restarted (R39, R89, R91). HOWL of a CHAIR
seat soft-mutes its open microphone with one more strike under lock kind SOFT below two strikes, and otherwise closes it and
sets LOCKED, HOWL LOCK of kind HARD carrying the strikes as they stand (log entry 16); HOWL_CLEAR takes a soft mute off and
restarts blanking (R51, R96). That the howl commands assert their own trigger is the model's reading of the events (log entry
5). The withdrawal of a chair closes an open microphone with CHAIR MIC, sets soft muted no, soft strikes 0 and the after-hold
state CLOSED, and then takes its hold off the count, when it was held (R91, R92; that order is the model's reading, log entry
12). A report of a chair unit takes PRIORITY, then TALK, then NEXT (R42). TALK and NEXT act at their down edge and PRIORITY at
both edges, in class CHAIR only; a held button and a STALE one raise nothing, a release makes the button UP, and a PRIORITY
hold is counted from a down edge and taken off only when it was counted (R45, R46). -/
def Obligations.ChairTalkAndHowl : Prop :=
  (∀ (seat : Seat) (c : ChairRecord) (s : State), Sending s → ChairsLaw s → c ∈ s.floor.chairs → c.seat = seat →
    let rewritten := fun (d : ChairRecord) => s.floor.chairs.map fun x => if x.seat = seat then d else x
    (s.floor.locked[seat] = true → EventRefused s (talk seat s) seat .talk .locked) ∧
    (s.floor.locked[seat] = false → c.micOpen = true → ∃ t, talk seat s = t ∧
      t = { s with link := t.link
                   floor := { s.floor with chairs := rewritten { c with micOpen := false, softMuted := false } } } ∧
      Posts s t [.chairMic seat false]) ∧
    (s.floor.locked[seat] = false → c.micOpen = false → ∃ t, talk seat s = t ∧
      t = { s with link := t.link, seats := t.seats
                   floor := { s.floor with chairs := rewritten { c with micOpen := true, softMuted := false, strikes := 0 } } } ∧
      t.seats = blankingRestarted s seat ∧ Posts s t [.chairMic seat true]) ∧
    ∀ r, s.seats[seat] = some r →
      let cleared := s.setSeats (put s.seats seat (some { r with howlRun := 0, releaseRun := 0 }))
      (c.micOpen = false ∨ c.softMuted = true → exec (.howl seat) s = .next cleared) ∧
      (c.micOpen = true → c.softMuted = false → (inForce s).lockKind = .soft → c.strikes < 2 →
        ∃ t, exec (.howl seat) s = .next t ∧ LinkFrame s t ∧
          t = { cleared with link := t.link
                             floor := { s.floor with
                               chairs := rewritten { c with softMuted := true, strikes := c.strikes + 1 } } } ∧
          Posts s t [.howlLock seat .soft (c.strikes + 1)]) ∧
      (c.micOpen = true → c.softMuted = false → (inForce s).lockKind = .hard ∨ 2 ≤ c.strikes →
        ∃ t, exec (.howl seat) s = .next t ∧ LinkFrame s t ∧
          t = { cleared with link := t.link
                             floor := { s.floor with
                               chairs := rewritten { c with micOpen := false, softMuted := false }
                               locked := put s.floor.locked seat true } } ∧
          Posts s t [.howlLock seat .hard c.strikes, .chairMic seat false]) ∧
      (c.softMuted = false →
        exec (.howlClear seat) s = .next (s.setSeats (put s.seats seat (some { r with releaseRun := 0 })))) ∧
      (c.softMuted = true →
        ∃ t, exec (.howlClear seat) s = .next t ∧ LinkFrame s t ∧
          t = { s with link := t.link
                       seats := put s.seats seat
                         (some { r with releaseRun := 0, blanking := (inForce s).blankCount, howlRun := 0 })
                       floor := { s.floor with chairs := rewritten { c with softMuted := false } } } ∧
          Posts s t [.howlClear seat .open])) ∧
    (∀ (seat : Seat) (s : State),
      ((∀ c ∈ s.floor.chairs, c.seat ≠ seat) → s.floor.chairOf seat = none) ∧
      (∀ c ∈ s.floor.chairs, c.seat = seat → ChairsLaw s → s.floor.chairOf seat = some c) ∧
      ((∀ c ∈ s.floor.chairs, c.seat ≠ seat) → withdrawChair seat s = s) ∧
      ∀ c ∈ s.floor.chairs, c.seat = seat → ChairsLaw s → Queues s →
        let quiet := s.setFloor { s.floor with chairs := s.floor.chairs.map fun x =>
          if x.seat = seat then { c with micOpen := false, softMuted := false, strikes := 0, afterHold := false } else x }
        let shut := if c.micOpen then post (.chairMic seat false) quiet else quiet
        withdrawChair seat s = lowerHold seat shut ∧ (c.held = false → withdrawChair seat s = shut)) ∧
    ∀ (seat : Seat) (r : SeatRecord) (k p n : Bool) (s : State), s.seats[seat] = some r →
      let record := fun (r' : SeatRecord) => s.setSeats (put s.seats seat (some r'))
      let isChair := s.plan[seat].cls = .chair
      takeButtons seat (.chair k p n) s = takeNext seat n (takeTalk seat k (takePriority seat p s)) ∧
      (r.priority = .up → p = true → isChair →
        takePriority seat p s = raiseHold seat (record { r with priority := .down, counted := true })) ∧
      (r.priority = .up → p = true → ¬isChair → takePriority seat p s = record { r with priority := .down }) ∧
      (r.priority = .down → p = false → isChair → r.counted = true →
        takePriority seat p s = lowerHold seat (record { r with priority := .up, counted := false })) ∧
      (r.priority = .down → p = false → ¬isChair ∨ r.counted = false →
        takePriority seat p s = record { r with priority := .up, counted := false }) ∧
      (r.priority = .stale → p = false → takePriority seat p s = record { r with priority := .up }) ∧
      (p = decide (r.priority ≠ .up) → takePriority seat p s = s) ∧
      (r.talk = .up → k = true → isChair → takeTalk seat k s = talk seat (record { r with talk := .down })) ∧
      (r.talk = .up → k = true → ¬isChair → takeTalk seat k s = record { r with talk := .down }) ∧
      (k = false → takeTalk seat k s = record { r with talk := .up }) ∧
      (r.talk ≠ .up → k = true → takeTalk seat k s = s) ∧
      (r.next = .up → n = true → isChair → takeNext seat n s = chairNext seat (record { r with next := .down })) ∧
      (r.next = .up → n = true → ¬isChair → takeNext seat n s = record { r with next := .down }) ∧
      (n = false → takeNext seat n s = record { r with next := .up }) ∧
      (r.next ≠ .up → n = true → takeNext seat n s = s)

/-- A REQUEST press starts at its down edge and is measured at its release, modulo 2^32 and at most 255 decis: in class
DELEGATE it is then a LONG PRESS from the long press value on and a SHORT PRESS below it; a held button and a STALE one raise
nothing (R43, R44). A SHORT PRESS by the first case that applies: a speaker closes its slot, the advance check following, or
is ignored, a waiting seat leaves the queue, the drain end test following, in VOICE mode nothing happens, a LOCKED or masked
seat is refused (R84, R89). In QUEUE mode the seat joins the queue. In OPEN mode it opens a free slot when nobody is eligible,
and in OVERRIDE mode any free slot or, with none, the slot of the oldest unprotected speaker, which is closed with REPLACED;
while priority is held it is refused instead; and with no slot to open it joins the queue, or is refused when queue when full
is no (R85, R86). A LONG PRESS is ignored in VOICE mode and from a speaker or a PRIORITY entry, moves an ORDINARY entry to the
tail of the PRIORITY group, is refused from a LOCKED or masked seat, and otherwise joins as a PRIORITY entry (R64, R87). To
join, a new entry goes to the tail of its group, and the advance check follows when it is eligible; it is refused while the
list drains or the queue is full (R63). -/
def Obligations.ShortPressCases : Prop :=
  (∀ (seat : Seat) (s : State), s.link.tx ≠ .idle →
    let joins := fun (event : SeatEvent) (kind : EntryKind) (source : EntrySource) (t : State) =>
      let e : QueueEntry := ⟨seat, kind, none, false, s.link.clock, source⟩
      let ahead := match kind with
        | .ordinary => s.queue.entries
        | .priority => s.queue.entries.filter fun x => x.kind = .priority
      let joined := post (.queueEntered seat kind source ahead.length none false) (setEntries (ahead ++ e :: (match kind with
        | .ordinary => []
        | .priority => s.queue.entries.filter fun x => x.kind = .ordinary)) s)
      (s.queue.list = .draining → EventRefused s t seat event .draining) ∧
      (s.queue.list = .open → 128 ≤ s.queue.entries.length → EventRefused s t seat event .full) ∧
      (s.queue.list = .open → s.queue.entries.length < 128 →
        t = (if eligibility s e = .eligible then advanceCheck joined else joined) ∧
        joined = { s with link := joined.link, queue := joined.queue } ∧
        Posts s joined [.queueEntered seat kind source ahead.length none false] ∧ (NoAdvance s → t = joined))
    let t := shortPress seat s
    let u := longPress seat s
    (∀ n, s.floor.slotOf seat = some n → (inForce s).speakerMayClose = false → t = s) ∧
    (∀ n, s.floor.slotOf seat = some n → (inForce s).speakerMayClose = true →
      t = advanceCheck (closeSlot n .seat s)) ∧
    (∀ n sl, s.floor.slotOf seat = some n → s.floor.slots[n] = some sl → (inForce s).speakerMayClose = true →
      NoAdvance s → t = { s with link := t.link, queue := t.queue, floor := floorClosing n s.floor } ∧
        t.queue.entries = s.queue.entries.map (hearEntry seat) ∧
        Posts s t [.floorClosed n seat .seat sl.origin sl.elapsed]) ∧
    ((∃ n, s.floor.slotOf seat = some n) → u = s) ∧
    ((inForce s).mode = .voice → u = s) ∧
    (s.floor.slotOf seat = none → QueueLaw s →
      (∀ e, e ∈ s.queue.entries → e.seat = seat →
        let others := s.queue.entries.filter fun x => x.seat ≠ seat
        (t = drainEndTest (takenOut e .seat s)) ∧
        (s.queue.list = .open → t = { s with link := t.link, queue := t.queue } ∧ t.queue.entries = others ∧
          Posts s t [.queueLeft seat e.kind .seat (s.queue.entries.findIdx fun x => x.seat == seat)]) ∧
        (e.kind = .priority → u = s) ∧
        (e.kind = .ordinary → (inForce s).mode ≠ .voice →
          let ahead := others.filter fun x => x.kind = .priority
          u = { s with link := u.link, queue := { s.queue with entries :=
            ahead ++ { e with kind := .priority } :: others.filter fun x => x.kind = .ordinary } } ∧
          Posts s u [.queuePromoted seat ahead.length])) ∧
      ((∀ e ∈ s.queue.entries, e.seat ≠ seat) →
        ((inForce s).mode = .voice → t = s) ∧
        ((inForce s).mode ≠ .voice → s.floor.locked[seat] = true →
          EventRefused s t seat .shortPress .locked ∧ EventRefused s u seat .longPress .locked) ∧
        ((inForce s).mode ≠ .voice → s.floor.locked[seat] = false → isMasked s seat = true →
          EventRefused s t seat .shortPress .masked ∧ EventRefused s u seat .longPress .masked) ∧
        (s.floor.locked[seat] = false → isMasked s seat = false →
          let free := s.floor.occupied < (inForce s).speakerLimit
          let noneEligible := ∀ e ∈ s.queue.entries, eligibility s e ≠ .eligible
          let speech : Slot := ⟨seat, .open, .press, false, s.link.clock, 0, none, false, 0, false⟩
          let opens := 0 < holdCount s → EventRefused s t seat .shortPress .priority
          let opensFirst := ∀ (n : SlotNo) (rest : List SlotNo), holdCount s = 0 → s.floor.free = n :: rest →
            t = { s with link := t.link, seats := blankingRestarted s seat, floor := floorOpening n rest speech s.floor } ∧
            LinkFrame s t ∧ Posts s t [.floorOpened n seat .press false false s.link.clock]
          let waits := ((inForce s).queueWhenFull = true → joins .shortPress .ordinary .press t) ∧
            ((inForce s).queueWhenFull = false → EventRefused s t seat .shortPress .noSlot)
          let oldest := s.floor.speakers.find? fun n => (s.floor.slots[n]).any fun sl => !sl.guarded
          ((inForce s).mode ≠ .voice → joins .longPress .priority .longPress u) ∧
          ((inForce s).mode = .queue → joins .shortPress .ordinary .press t) ∧
          ((inForce s).mode = .open → (free → noneEligible → opens ∧ opensFirst) ∧ (¬free ∨ ¬noneEligible → waits)) ∧
          ((inForce s).mode = .override →
            (free → opens ∧ opensFirst) ∧ (¬free → oldest = none → waits) ∧
            ∀ n sl, ¬free → oldest = some n → s.floor.slots[n] = some sl →
              let o := openSlot seat .press false (closeSlot n .replaced s)
              opens ∧ (holdCount s = 0 → t = advanceCheck o) ∧ (holdCount s = 0 → s.queue.list = .open →
                (NoAdvance s → t = o) ∧
                o = { s with link := o.link, seats := blankingRestarted s seat, queue := o.queue, floor :=
                  floorOpening n s.floor.free speech (floorClosing n s.floor) } ∧
                o.queue = { s.queue with entries := s.queue.entries.map (hearEntry sl.seat) } ∧ LinkFrame s o ∧
                Posts s o [.floorClosed n sl.seat .replaced sl.origin sl.elapsed,
                  .floorOpened n seat .press false false s.link.clock])))))) ∧
    ∀ (seat : Seat) (r : SeatRecord) (down : Bool) (s : State), s.seats[seat] = some r →
      let record := fun (r' : SeatRecord) => s.setSeats (put s.seats seat (some r'))
      let t := takeButtons seat (.delegate down) s
      (r.request = .up → down = true → t = record { r with request := .down, pressStart := some s.link.clock }) ∧
      (r.request ≠ .up → down = true → t = s) ∧ (r.request = .up → down = false → t = s) ∧
      (r.request = .stale → down = false → t = record { r with request := .up }) ∧
      ∀ start, r.request = .down → down = false → r.pressStart = some start →
        let released := record { r with request := .up, pressStart := none }
        let duration := min ((2 ^ 32 + s.link.clock.toNat - start.toNat) % 2 ^ 32) 255
        (s.plan[seat].cls ≠ .delegate → t = released) ∧
        (s.plan[seat].cls = .delegate → (inForce s).longPress ≤ duration → t = longPress seat released) ∧
        (s.plan[seat].cls = .delegate → duration < (inForce s).longPress → t = shortPress seat released)

/-! ### The request queue and the list -/

/-- The six tests of QUEUE ADD in the order of the table, each with its code and no change of any state (R65). -/
def Obligations.QueueAddTests : Prop :=
  ∀ (seat target : Half) (kind : Byte) (s : State), TakesOrders s →
    let codes := fun (c : ResultCode) => exec (.queueAdd seat kind target) s = .next (answered 0x18 c [] s)
    (511 < seat.toNat ∨ 1 < kind.toNat ∨ (target ≠ 0xFFFF ∧ 511 < target.toNat) → codes .badValue) ∧
    ∀ x : Seat, seat.toNat = x.val → kind.toNat ≤ 1 → (target = 0xFFFF ∨ target.toNat ≤ 511) →
      let ineligible := s.plan[x].cls ≠ .delegate ∨ s.trunks.binding[x] = none
      let holds := ∃ (n : SlotNo) (sl : Slot), s.floor.slots[n] = some sl ∧ sl.seat = x
      let badTarget := ∃ y : Seat, target.toNat = y.val ∧ (y = x ∨ s.plan[y].cls ≠ .delegate)
      let queued := ∃ e ∈ s.queue.entries, e.seat = x
      (s.queue.list = .draining → codes .notPermitted) ∧
      (s.queue.list = .open → ineligible → codes .notEligible) ∧
      (s.queue.list = .open → ¬ineligible → holds → codes .held) ∧
      (s.queue.list = .open → ¬ineligible → ¬holds → badTarget → codes .badValue) ∧
      (s.queue.list = .open → ¬ineligible → ¬holds → ¬badTarget → ¬queued → 128 ≤ s.queue.entries.length →
        codes .full) ∧
      (s.queue.list = .open → ¬ineligible → ¬holds → ¬badTarget → (queued ∨ s.queue.entries.length < 128) →
        ∃ t d, exec (.queueAdd seat kind target) s = .next t ∧ Answers s t 0x18 .ok d)

/-- A QUEUE ADD that passes its tests makes the entry anew at the tail of its kind's group, with source LINK, the target whose
number the order carries or none for 0xFFFF, heard no and the floor clock, and takes out the entry the seat had without a
QUEUE LEFT; QUEUE ENTERED is posted, and the advance check follows when the new entry is eligible (R66, R59, R62, R90). The
answer carries the place at which the entry stands after the order; where the entry was granted within it no place is stated,
and the byte is a free value (log entry 2). -/
def Obligations.QueueAddJoinsItsGroup : Prop :=
  ∀ (seat target : Half) (kind : Byte) (x : Seat) (k : EntryKind) (g : Option Seat) (s : State), TakesOrders s →
    QueueLaw s → s.queue.list = .open → seat.toNat = x.val → kind = k.code →
    (g = none → target = 0xFFFF) → (∀ y, g = some y → target.toNat = y.val) →
    s.plan[x].cls = .delegate → s.trunks.binding[x] ≠ none → s.floor.slotOf x = none →
    (∀ y, g = some y → y ≠ x ∧ s.plan[y].cls = .delegate) →
    ((∃ e ∈ s.queue.entries, e.seat = x) ∨ s.queue.entries.length < 128) →
    let others := s.queue.entries.filter fun e => e.seat ≠ x
    let entry : QueueEntry := ⟨x, k, g, false, s.link.clock, .link⟩
    let ahead := match k with
      | .ordinary => others
      | .priority => others.filter fun e => e.kind = .priority
    let entries := ahead ++ entry :: (match k with
      | .ordinary => []
      | .priority => others.filter fun e => e.kind = .ordinary)
    let notice : NoticeBody := .queueEntered x k .link ahead.length g (decide (∃ e ∈ s.queue.entries, e.seat = x))
    let joined := post notice (setEntries entries (oweAnswer s))
    let u := if eligibility s entry = .eligible then advanceCheck joined else joined
    (joined = { s with link := joined.link, queue := { s.queue with entries := entries } } ∧ LinkFrame s joined ∧
      Posts s joined [notice]) ∧
    ((∃ e ∈ u.queue.entries, e.seat = x) → exec (.queueAdd seat kind target) s = .next (answered 0x18 .ok
      (seatBytes x ++ [byteOf (u.queue.entries.findIdx fun e => e.seat == x)]) u)) ∧
    ((∀ e ∈ u.queue.entries, e.seat ≠ x) → ∃ b, exec (.queueAdd seat kind target) s = .next (answered 0x18 .ok
      (seatBytes x ++ [b]) (u.setDraws (s.draws + 1)))) ∧
    (NoAdvance s → ∃ t, exec (.queueAdd seat kind target) s = .next t ∧
      Answers s t 0x18 .ok (seatBytes x ++ [byteOf ahead.length]) ∧ LinkFrame s t ∧
      t = { s with link := t.link, queue := { s.queue with entries := entries } } ∧ Posts s t [notice])

/-- QUEUE DROP is refused for a seat above 511 or without an entry, and otherwise takes out the seat's entry with reason LINK
(R70, R72). QUEUE EMPTY takes out every entry from the head, each with reason EMPTIED, and answers their number (R73). The
drain end test follows the one removal, and the last of the others, and while the list is DRAINING it may end the drain within
the order: the entries left are skipped and LIST DRAINED is posted (R72, R73, R150, R151). On an empty queue QUEUE EMPTY
answers 0 and makes no test. Every removal of an entry by a press, a loss or a plan change makes the same test (R70). -/
def Obligations.QueueDropAndEmpty : Prop :=
  (∀ (seat : Half) (s : State), TakesOrders s → QueueLaw s →
    (511 < seat.toNat → exec (.queueDrop seat) s = .next (answered 0x19 .badValue [] s)) ∧
    ∀ x : Seat, seat.toNat = x.val →
      ((∀ e ∈ s.queue.entries, e.seat ≠ x) → exec (.queueDrop seat) s = .next (answered 0x19 .notFound [] s)) ∧
      ∀ e ∈ s.queue.entries, e.seat = x →
        let place := s.queue.entries.findIdx fun y => y.seat == x
        let out := takenOut e .link (oweAnswer s)
        exec (.queueDrop seat) s =
          .next (answered 0x19 .ok (seatBytes x ++ [byteOf place]) (drainEndTest out)) ∧
        (out = { s with
            link := out.link, queue := { s.queue with entries := s.queue.entries.filter (fun y => y.seat ≠ x) } } ∧
          LinkFrame s out ∧ Posts s out [.queueLeft x e.kind .link place]) ∧
        (¬DrainEnds out → exec (.queueDrop seat) s = .next (answered 0x19 .ok (seatBytes x ++ [byteOf place]) out)) ∧
        (DrainEnds out → ∃ t, exec (.queueDrop seat) s = .next t ∧
          Answers s t 0x19 .ok (seatBytes x ++ [byteOf place]) ∧ LinkFrame s t ∧
          t = { s with link := t.link, queue := ⟨[], .open, none, 0⟩ } ∧
          Posts s t (.queueLeft x e.kind .link place :: drainNotices s.queue.skips out.queue.entries))) ∧
    (∀ s : State, TakesOrders s →
      let es := s.queue.entries
      let out := emptyQueue .emptied (oweAnswer s)
      let left := es.map fun e => NoticeBody.queueLeft e.seat e.kind .emptied 0
      (es = [] → exec .queueEmpty s = .next (answered 0x1A .ok [0] s)) ∧
      (es ≠ [] → exec .queueEmpty s = .next (answered 0x1A .ok [byteOf es.length] (drainEndTest out)) ∧
        (out = { s with link := out.link, queue := { s.queue with entries := [] } } ∧ LinkFrame s out ∧
          Posts s out left) ∧
        (¬DrainEnds out → exec .queueEmpty s = .next (answered 0x1A .ok [byteOf es.length] out)) ∧
        (DrainEnds out → ∃ t, exec .queueEmpty s = .next t ∧ Answers s t 0x1A .ok [byteOf es.length] ∧ LinkFrame s t ∧
          t = { s with link := t.link, queue := ⟨[], .open, none, 0⟩ } ∧
          Posts s t (left ++ [.listDrained s.queue.skips])))) ∧
    ∀ (seat : Seat) (reason : LeaveReason) (s : State), QueueLaw s →
      ((∀ e ∈ s.queue.entries, e.seat ≠ seat) → leaveQueue seat reason s = s ∧ s.queue.entryOf seat = none) ∧
      (∀ (k : Nat) (e : QueueEntry), s.queue.entries[k]? = some e → e.seat = seat →
        s.queue.entryOf seat = some e ∧ s.queue.placeOf seat = k) ∧
      ∀ e ∈ s.queue.entries, e.seat = seat → leaveQueue seat reason s = drainEndTest (takenOut e reason s)

/-- LIST OPEN on a DRAINING list cancels the drain and keeps every entry; on an OPEN list it changes nothing; either way it
answers whether a drain was cancelled and the number of entries, and posts nothing (R149). The drain end test ends a drain when no
drain grant is occupied and the mode is VOICE or nobody is eligible: every entry is skipped with its QUEUE LEFT, LIST DRAINED
carries the number skipped, and the list is OPEN again; otherwise it changes nothing (R150, R151). LIST CLOSE is refused for a
limit of 0 or above 36000 and while the list drains already; otherwise the list is DRAINING with the limit, and the advance check
and then the drain end test follow (R148). In mode VOICE, or with nobody eligible, the drain ends within the order unless a drain
grant is occupied. Otherwise, with priority held or no free slot, the list stays DRAINING and nothing is granted; and with a slot
free the first eligible entry is granted, every new slot being a drain grant of origin QUEUE with the limit as its override, and
the drain goes on (R71, R90, R148). -/
def Obligations.ListCloseDrainsAndListOpenCancels : Prop :=
  (∀ s : State, TakesOrders s →
     (s.queue.list = .open →
       exec .listOpen s = .next (answered 0x1D .ok [0, byteOf s.queue.entries.length] s)) ∧
     (s.queue.list = .draining →
       ∃ t, exec .listOpen s = .next t ∧ Answers s t 0x1D .ok [1, byteOf s.queue.entries.length] ∧ LinkFrame s t ∧
         t = { s with link := t.link, queue := ⟨s.queue.entries, .open, none, 0⟩ } ∧
         t.link.notices = s.link.notices)) ∧
    (∀ s : State, Queues s →
      (¬DrainEnds s → drainEndTest s = s) ∧ (DrainEnds s → DrainEnded s (drainEndTest s))) ∧
    ∀ (limit : Half) (s : State), TakesOrders s →
      (limit.toNat = 0 ∨ 36000 < limit.toNat → exec (.listClose limit) s = .next (answered 0x1C .badValue [] s)) ∧
      (1 ≤ limit.toNat → limit.toNat ≤ 36000 → s.queue.list = .draining →
        exec (.listClose limit) s = .next (answered 0x1C .notPermitted [] s)) ∧
      (1 ≤ limit.toNat → limit.toNat ≤ 36000 → s.queue.list = .open →
        let es := s.queue.entries
        let data := halfBytes limit ++ [byteOf es.length]
        let closing := setList .draining (some limit.toNat) (oweAnswer s)
        let noneEligible := ∀ e ∈ es, eligibility s e ≠ .eligible
        let full := 0 < holdCount s ∨ (inForce s).speakerLimit ≤ s.floor.occupied
        exec (.listClose limit) s = .next (answered 0x1C .ok data (drainEndTest (advanceCheck closing))) ∧
        (closing = { s with link := closing.link, queue := ⟨es, .draining, some limit.toNat, 0⟩ } ∧
          LinkFrame s closing ∧ closing.link.notices = s.link.notices) ∧
        ((inForce s).mode = .voice ∨ noneEligible →
          ∃ t, exec (.listClose limit) s = .next t ∧ Answers s t 0x1C .ok data ∧ LinkFrame s t ∧
            t = { s with link := t.link, queue := t.queue } ∧
            ((∀ (m : SlotNo) (sl : Slot), s.floor.slots[m] = some sl → sl.drainGrant = false) →
              t.queue = ⟨[], .open, none, 0⟩ ∧ Posts s t (drainNotices 0 es)) ∧
            ((∃ (m : SlotNo) (sl : Slot), s.floor.slots[m] = some sl ∧ sl.drainGrant = true) →
              t.queue = ⟨es, .draining, some limit.toNat, 0⟩ ∧ Posts s t [])) ∧
        ((inForce s).mode ≠ .voice → ¬noneEligible → full →
          ∃ t, exec (.listClose limit) s = .next t ∧ Answers s t 0x1C .ok data ∧ LinkFrame s t ∧
            t = { s with link := t.link, queue := ⟨es, .draining, some limit.toNat, 0⟩ } ∧ Posts s t []) ∧
        ((inForce s).mode ≠ .voice → ¬full → FloorLaws s → (inForce s).speakerLimit ≤ 8 →
          ∀ e, es.find? (fun x => decide (eligibility s x = .eligible)) = some e →
            ∃ t, exec (.listClose limit) s = .next t ∧ Answers s t 0x1C .ok data ∧ LinkFrame s t ∧
              t.queue.list = .draining ∧ t.queue.drainLimit = some limit.toNat ∧ heldSlot t e.seat = true ∧
              (∀ (n : SlotNo) (sl : Slot), s.floor.slots[n] = some sl → t.floor.slots[n] = some sl) ∧
              ∀ (n : SlotNo) (sl : Slot), s.floor.slots[n] = none → t.floor.slots[n] = some sl →
                sl.drainGrant = true ∧ sl.override = some limit.toNat ∧ sl.origin = .queue ∧
                  ∃ x ∈ es, x.seat = sl.seat ∧ eligibility s x = .eligible))

/-! ### The floor -/

/-- The five tests of FLOOR GRANT in the order of the table; then the seat is opened into the slot at the head of the free-slot
order with origin LINK and protected as given, its entry removed first and its blanking restarted, and never as a drain grant
(R81, R100). Where an entry was removed, the drain end test comes after the opening (R70, R150). -/
def Obligations.FloorGrantOpensASlot : Prop :=
  ∀ (seat : Half) (protect : Byte) (s : State), TakesOrders s → QueueLaw s →
    let codes := fun (c : ResultCode) => exec (.floorGrant seat protect) s = .next (answered 0x20 c [] s)
    (511 < seat.toNat ∨ 1 < protect.toNat → codes .badValue) ∧
    ∀ x : Seat, seat.toNat = x.val → protect.toNat ≤ 1 →
      let holds := ∃ (n : SlotNo) (sl : Slot), s.floor.slots[n] = some sl ∧ sl.seat = x
      let ineligible := s.plan[x].cls ≠ .delegate ∨ s.trunks.binding[x] = none ∨ isMasked s x = true
        ∨ s.floor.locked[x] = true
      (0 < holdCount s → codes .notPermitted) ∧
      (holdCount s = 0 → holds → codes .held) ∧
      (holdCount s = 0 → ¬holds → ineligible → codes .notEligible) ∧
      (holdCount s = 0 → ¬holds → ¬ineligible → (inForce s).speakerLimit ≤ s.floor.occupied → codes .full) ∧
      ∀ (n : SlotNo) (rest : List SlotNo), holdCount s = 0 → ¬holds → ¬ineligible →
        s.floor.occupied < (inForce s).speakerLimit → s.floor.free = n :: rest →
        let g := decide (protect = 1)
        let answer := answered 0x20 .ok (seatBytes x ++ [byteOf (slotNumber n)])
        let out := (s.queue.entryOf x).toList.foldl (fun u e => takenOut e .granted u) (oweAnswer s)
        let opened := post (.floorOpened n x .link g false s.link.clock) { out with
          seats := blankingRestarted s x
          floor := floorOpening n rest ⟨x, .open, .link, g, s.link.clock, 0, none, false, 0, false⟩ s.floor }
        ((∃ e ∈ s.queue.entries, e.seat = x) →
          exec (.floorGrant seat protect) s = .next (answer (drainEndTest opened))) ∧
        ((∀ e ∈ s.queue.entries, e.seat ≠ x) ∨ s.queue.list = .open →
          exec (.floorGrant seat protect) s = .next (answer opened)) ∧
        opened = { s with
          link := opened.link, seats := opened.seats
          queue := { s.queue with entries := opened.queue.entries }, floor := opened.floor } ∧
        opened.queue.entries = s.queue.entries.filter (fun e => e.seat ≠ x) ∧
        opened.floor = { s.floor with
          slots := put s.floor.slots n (some ⟨x, .open, .link, g, s.link.clock, 0, none, false, 0, false⟩)
          speakers := s.floor.speakers ++ [n], free := rest } ∧
        opened.seats = put s.seats x ((s.seats[x]).map fun r =>
          { r with blanking := (inForce s).blankCount, howlRun := 0, releaseRun := 0 }) ∧
        LinkFrame s opened ∧
        Posts s opened (((s.queue.entryOf x).toList.map fun e => .queueLeft x e.kind .granted (s.queue.placeOf x))
          ++ [.floorOpened n x .link g false s.link.clock])

/-- FLOOR NEXT is refused while priority is held, with the floor full, and with nobody eligible, in that order; otherwise the
eligible entry nearest the head is granted with origin NEXT, and while the list is DRAINING its slot is a drain grant with
the drain limit as its override (R61, R81, R101). NEXT of a chair seat is taken the same way, its refusals being PRESS REFUSED
with PRIORITY, NO_SLOT or EMPTY and REFUSED shown on the chair unit (R89, R101). -/
def Obligations.FloorNextGrantsTheFirstEligible : Prop :=
  (∀ s : State, TakesOrders s →
    (0 < holdCount s → exec .floorNext s = .next (answered 0x21 .notPermitted [] s)) ∧
    (holdCount s = 0 → (inForce s).speakerLimit ≤ s.floor.occupied →
      exec .floorNext s = .next (answered 0x21 .full [] s)) ∧
    (holdCount s = 0 → s.floor.occupied < (inForce s).speakerLimit →
      (∀ e ∈ s.queue.entries, eligibility s e ≠ .eligible) →
      exec .floorNext s = .next (answered 0x21 .empty [] s)) ∧
    ∀ (ahead behind : List QueueEntry) (e : QueueEntry) (n : SlotNo) (rest : List SlotNo), FloorLaws s →
      holdCount s = 0 → s.floor.occupied < (inForce s).speakerLimit → s.queue.entries = ahead ++ e :: behind →
      (∀ x ∈ ahead, eligibility s x ≠ .eligible) → eligibility s e = .eligible → s.floor.free = n :: rest →
      ∃ t, exec .floorNext s = .next t ∧ Answers s t 0x21 .ok (seatBytes e.seat ++ [byteOf (slotNumber n)]) ∧
        Grants s t ahead behind e n rest .next) ∧
    ∀ (seat : Seat) (s : State), Sending s →
      (0 < holdCount s → EventRefused s (chairNext seat s) seat .next .priority) ∧
      (holdCount s = 0 → (inForce s).speakerLimit ≤ s.floor.occupied →
        EventRefused s (chairNext seat s) seat .next .noSlot) ∧
      (holdCount s = 0 → s.floor.occupied < (inForce s).speakerLimit →
        (∀ e ∈ s.queue.entries, eligibility s e ≠ .eligible) →
        EventRefused s (chairNext seat s) seat .next .empty) ∧
      ∀ (ahead behind : List QueueEntry) (e : QueueEntry) (n : SlotNo) (rest : List SlotNo), FloorLaws s →
        holdCount s = 0 → s.floor.occupied < (inForce s).speakerLimit → s.queue.entries = ahead ++ e :: behind →
        (∀ x ∈ ahead, eligibility s x ≠ .eligible) → eligibility s e = .eligible → s.floor.free = n :: rest →
        Grants s (chairNext seat s) ahead behind e n rest .next

/-- FLOOR REVOKE is refused for a seat above 511 or without a slot, and otherwise closes the seat's slot with reason LINK by
the whole close path; FLOOR CLEAR closes every slot from the head of the speaker list with reason CHAIR, with one advance
check after the last (R82, R102, R103). The close path: the slot goes to the head of the free-slot order, FLOOR CLOSED is
posted, the entries bound to the seat that spoke are set heard, and the drain end test is made (once, after all of them: log
entry 17), which ends the drain when the last drain grant closes with nobody eligible left (R68, R82, R150, R151); the advance
check comes last (R82, R90). A close request for a seat without a slot does nothing (R83). -/
def Obligations.RevokeAndClearCloseSlots : Prop :=
  (∀ (seat : Half) (s : State), TakesOrders s →
    (511 < seat.toNat → exec (.floorRevoke seat) s = .next (answered 0x22 .badValue [] s)) ∧
    ∀ x : Seat, seat.toNat = x.val →
      (s.floor.slotOf x = none → exec (.floorRevoke seat) s = .next (answered 0x22 .notFound [] s)) ∧
      ∀ (n : SlotNo) (sl : Slot), s.floor.slotOf x = some n → s.floor.slots[n] = some sl →
        let data := seatBytes x ++ [byteOf (slotNumber n)]
        exec (.floorRevoke seat) s =
          .next (answered 0x22 .ok data (advanceCheck (closeSlot n .link (oweAnswer s)))) ∧
        (NoAdvance s →
          ∃ t, exec (.floorRevoke seat) s = .next t ∧ Answers s t 0x22 .ok data ∧ LinkFrame s t ∧
            t = { s with link := t.link, queue := { s.queue with entries := t.queue.entries }, floor := t.floor } ∧
            t.queue.entries = s.queue.entries.map (fun e =>
              if e.target = some x then { e with heard := true } else e) ∧
            t.floor = { s.floor with
              slots := put s.floor.slots n none, speakers := s.floor.speakers.erase n, free := n :: s.floor.free } ∧
            Posts s t [.floorClosed n x .link sl.origin sl.elapsed]) ∧
        (DrainEnds (closedSlot n sl .link s) →
          ∃ t, exec (.floorRevoke seat) s = .next t ∧ Answers s t 0x22 .ok data ∧ LinkFrame s t ∧
            t = { s with link := t.link, queue := ⟨[], .open, none, 0⟩, floor := floorClosing n s.floor } ∧
            Posts s t (.floorClosed n x .link sl.origin sl.elapsed :: drainNotices s.queue.skips s.queue.entries))) ∧
    (∀ s : State, TakesOrders s →
      exec .floorClear s = .next (answered 0x23 .ok [byteOf s.floor.occupied]
        (advanceCheck (closedInTurn s.floor.speakers .chair (oweAnswer s)))) ∧
      (NoAdvance s → SlotListsLaw s →
        ∃ t, exec .floorClear s = .next t ∧ Answers s t 0x23 .ok [byteOf s.floor.speakers.length] ∧ LinkFrame s t ∧
          t = { s with link := t.link, queue := { s.queue with entries := t.queue.entries }, floor := t.floor } ∧
          t.floor = { s.floor with
            slots := Vector.replicate 8 none, speakers := [], free := s.floor.speakers.reverse ++ s.floor.free } ∧
          t.queue.entries = s.queue.entries.map (fun e =>
            if e.target.any (heldSlot s) then { e with heard := true } else e) ∧
          Posts s t (s.floor.speakers.filterMap fun n =>
            (s.floor.slots[n]).map fun sl => .floorClosed n sl.seat .chair sl.origin sl.elapsed))) ∧
    (∀ (n : SlotNo) (reason : CloseReason) (s : State), Queues s →
      (s.floor.slots[n] = none → closeSlot n reason s = s) ∧
      ∀ sl, s.floor.slots[n] = some sl →
        let told := closedSlot n sl reason s
        let heard := s.queue.entries.map fun e => if e.target = some sl.seat then { e with heard := true } else e
        told = { s with
          link := told.link, queue := { s.queue with entries := heard }
          floor := { s.floor with
            slots := put s.floor.slots n none, speakers := s.floor.speakers.erase n, free := n :: s.floor.free } } ∧
        LinkFrame s told ∧ Posts s told [.floorClosed n sl.seat reason sl.origin sl.elapsed] ∧
        (¬DrainEnds told → closeSlot n reason s = told) ∧
        (DrainEnds told → DrainEnded told (closeSlot n reason s))) ∧
    ∀ (seat : Seat) (reason : CloseReason) (s : State),
      (s.floor.slotOf seat = none ↔ ∀ (n : SlotNo) (sl : Slot), s.floor.slots[n] = some sl → sl.seat ≠ seat) ∧
      (∀ (n : SlotNo) (sl : Slot), OneSlotLaw s → s.floor.slots[n] = some sl → sl.seat = seat →
        s.floor.slotOf seat = some n) ∧
      (s.floor.slotOf seat = none → closeSeat seat reason s = s) ∧
      ∀ n, s.floor.slotOf seat = some n → closeSeat seat reason s = advanceCheck (closeSlot n reason s)

/-- WING MASK above 15 is refused; otherwise it is the mask, and the slots of seats on a wing whose enable went from on to off
are closed, from the head of the speaker list, and no others; the drain end test and one advance check follow. The closes set
heard on the entries bound to the seats that spoke (R68, R82, R98). UNLOCK is refused for a seat above 511 or not LOCKED, and
otherwise clears the flag of the seat; the drain end test follows when the seat has an entry, and then the advance check (R97).
Where no advance follows, nothing else changes. A seat is masked when the wing of its bound unit has its enable off, wing A in
the least significant place; a seat with no bound unit is not; a seat is READY when a unit is bound to it (R3, R18, R98). -/
def Obligations.WingMaskAndUnlock : Prop :=
  (∀ (mask : Byte) (s : State), TakesOrders s →
    (15 < mask.toNat → exec (.wingMask mask) s = .next (answered 0x25 .badValue [] s)) ∧
    (mask.toNat ≤ 15 →
      let off := fun (sl : Slot) => (s.trunks.binding[sl.seat]).any fun p =>
        s.floor.mask.getLsbD p.wing.val && !mask.getLsbD p.wing.val
      let masked := (oweAnswer s).setFloor { s.floor with mask := mask.truncate 4 }
      let closed := closedInTurn (s.floor.speakers.filter fun n => (s.floor.slots[n]).any off) .mask masked
      exec (.wingMask mask) s = .next (answered 0x25 .ok [mask] (advanceCheck (drainEndTest closed)))) ∧
    (mask.toNat ≤ 15 → NoAdvance s → SlotListsLaw s →
      let off := fun (sl : Slot) => (s.trunks.binding[sl.seat]).any fun p =>
        s.floor.mask.getLsbD p.wing.val && !mask.getLsbD p.wing.val
      let closed := s.floor.speakers.filter fun n => (s.floor.slots[n]).any off
      ∃ t, exec (.wingMask mask) s = .next t ∧ Answers s t 0x25 .ok [mask] ∧ LinkFrame s t ∧
        t = { s with link := t.link, queue := { s.queue with entries := t.queue.entries }, floor := t.floor } ∧
        t.floor.mask.toNat = mask.toNat ∧ t.floor.chairs = s.floor.chairs ∧ t.floor.locked = s.floor.locked ∧
        (∀ (n : SlotNo), t.floor.slots[n] = (s.floor.slots[n]).filter fun sl => !off sl) ∧
        t.floor.speakers = s.floor.speakers.filter (fun n => (t.floor.slots[n]).isSome) ∧
        t.floor.free = closed.reverse ++ s.floor.free ∧
        t.queue.entries = s.queue.entries.map (fun e =>
          if e.target.any (fun y => closed.any fun n => (s.floor.slots[n]).any fun sl => sl.seat == y)
          then { e with heard := true } else e) ∧
        Posts s t ((s.floor.speakers.filterMap fun n => s.floor.slots[n].map fun sl => (n, sl)).filterMap fun x =>
          if off x.2 then some (.floorClosed x.1 x.2.seat .mask x.2.origin x.2.elapsed) else none))) ∧
    (∀ (seat : Seat) (s : State),
      (isMasked s seat = true ↔ ∃ p, s.trunks.binding[seat] = some p ∧ s.floor.mask.toNat / 2 ^ p.wing.val % 2 = 0) ∧
      (isReady s seat = true ↔ s.trunks.binding[seat] ≠ none) ∧ isLocked s seat = s.floor.locked[seat]) ∧
    ∀ (seat : Half) (s : State), TakesOrders s →
      (511 < seat.toNat → exec (.unlock seat) s = .next (answered 0x26 .badValue [] s)) ∧
      ∀ x : Seat, seat.toNat = x.val →
        (s.floor.locked[x] = false → exec (.unlock seat) s = .next (answered 0x26 .notFound [] s)) ∧
        (s.floor.locked[x] = true →
          let cleared := (oweAnswer s).setFloor { s.floor with locked := put s.floor.locked x false }
          ((∃ e ∈ s.queue.entries, e.seat = x) → exec (.unlock seat) s =
            .next (answered 0x26 .ok (seatBytes x) (advanceCheck (drainEndTest cleared)))) ∧
          ((∀ e ∈ s.queue.entries, e.seat ≠ x) → exec (.unlock seat) s =
            .next (answered 0x26 .ok (seatBytes x) (advanceCheck cleared)))) ∧
        (s.floor.locked[x] = true → NoAdvance s → exec (.unlock seat) s = .next (answered 0x26 .ok (seatBytes x)
          (s.setFloor { s.floor with locked := put s.floor.locked x false })))

/-- FLOOR RESET frees every slot, empties the queue and the notice queue, reopens the list, clears every LOCKED flag and closes
every chair microphone without a notice; it keeps the mask, the holds and everything outside the floor, the queue and the
link (R60, R105, R147, R159). -/
def Obligations.FloorResetClearsTheFloor : Prop :=
  ∀ s : State, TakesOrders s →
    ∃ t, exec .floorReset s = .next t ∧ Answers s t 0x27 .ok [] ∧
      t = { s with link := t.link, queue := t.queue, floor := t.floor } ∧ t.queue = ⟨[], .open, none, 0⟩ ∧
      (∀ n : SlotNo, t.floor.slots[n] = none) ∧ t.floor.speakers = [] ∧ t.floor.free = [0, 1, 2, 3, 4, 5, 6, 7] ∧
      (∀ seat : Seat, t.floor.locked[seat] = false) ∧ t.floor.mask = s.floor.mask ∧
      t.floor.chairs = s.floor.chairs.map (fun c => ⟨c.seat, false, false, 0, false, c.held⟩) ∧
      t.link.notices = [] ∧ t.link.mask = s.link.mask ∧ t.link.clock = s.link.clock ∧ t.link.stage = s.link.stage ∧
      t.link.lost = s.link.lost ∧ t.link.dropped = s.link.dropped ∧ t.link.restart = s.link.restart

/-- The three tests of FLOOR EXTEND in the order of the table; then the slot's override becomes its effective limit plus the
decis, at most 36000, and nothing else changes (R114). -/
def Obligations.FloorExtendRaisesTheLimit : Prop :=
  ∀ (seat decis : Half) (s : State), TakesOrders s →
    (511 < seat.toNat ∨ decis.toNat = 0 ∨ 3000 < decis.toNat →
      exec (.floorExtend seat decis) s = .next (answered 0x28 .badValue [] s)) ∧
    ∀ x : Seat, seat.toNat = x.val → 1 ≤ decis.toNat → decis.toNat ≤ 3000 →
      (s.floor.slotOf x = none → exec (.floorExtend seat decis) s = .next (answered 0x28 .notFound [] s)) ∧
      ∀ (n : SlotNo) (sl : Slot), s.floor.slotOf x = some n → s.floor.slots[n] = some sl →
        let limit := match sl.override with
          | some k => k
          | none => (inForce s).speechLimit
        let raised := min (limit + decis.toNat) 36000
        (limit = 0 → exec (.floorExtend seat decis) s = .next (answered 0x28 .noLimit [] s)) ∧
        (limit ≠ 0 → exec (.floorExtend seat decis) s = .next (answered 0x28 .ok
          (seatBytes x ++ [byteOf (slotNumber n)] ++ halfOf raised ++ halfOf sl.elapsed)
          (s.setFloor { s.floor with slots := put s.floor.slots n (some { sl with override := some raised }) })))

/-- SPEECH_TIMING_EXPIRY takes each occupied slot from the head of the speaker list: it counts an OPEN slot up to 65535,
closes a slot at or above its effective limit with reason TIME by the close path, warns a slot within the warning lead with
SPEECH WARNING, and clears the warning of a slot that is no longer (R108 to R112); the closes set heard on the entries bound
to the seats that spoke (R68). One advance check follows the last slot when any of them closed (R90, R110). The notices stand
in that order. That the expiry makes its advance check within its own step, before any other event, against the last row of
R117's table, is the model's choice (log entry 36). TIME_LIMIT_CLOSE makes the limit test of one slot, with the advance check
after its close (R110, log entry 5). -/
def Obligations.SpeechTimingTakesEachSlot : Prop :=
  (∀ s : State, s.resetHeld = false → SlotListsLaw s →
    let counted := fun (sl : Slot) => if sl.condition = .open then min (sl.elapsed + 1) 65535 else sl.elapsed
    let limit := fun (sl : Slot) => sl.override.getD (inForce s).speechLimit
    let lead := (inForce s).warningLead
    let closes := fun (sl : Slot) => decide (limit sl ≠ 0 ∧ limit sl ≤ counted sl)
    let warns := fun (sl : Slot) => decide (limit sl ≠ 0 ∧ lead ≠ 0 ∧ sl.warned = false ∧ limit sl ≤ counted sl + lead)
    let closed := s.floor.speakers.filter fun n => (s.floor.slots[n]).any closes
    let t := s.floor.speakers.foldl timeSlot s
    (closed = [] → exec .speechTimingExpiry s = .next t) ∧
    (closed ≠ [] → exec .speechTimingExpiry s = .next (advanceCheck t)) ∧
    (s.queue.list = .open →
      (NoAdvance s → exec .speechTimingExpiry s = .next t) ∧
      t = { s with link := t.link, queue := { s.queue with entries := t.queue.entries }, floor := t.floor } ∧
      t.floor.chairs = s.floor.chairs ∧ t.floor.mask = s.floor.mask ∧ t.floor.locked = s.floor.locked ∧
      t.floor.speakers = s.floor.speakers.filter (fun n => (t.floor.slots[n]).isSome) ∧
      t.floor.free = closed.reverse ++ s.floor.free ∧
      t.queue.entries = s.queue.entries.map (fun e =>
        if e.target.any (fun y => closed.any fun n => (s.floor.slots[n]).any fun sl => sl.seat == y)
        then { e with heard := true } else e) ∧
      (s.link.tx ≠ .idle → LinkFrame s t ∧
        Posts s t ((s.floor.speakers.filterMap fun n => (s.floor.slots[n]).map fun sl => (n, sl)).filterMap fun x =>
          if closes x.2 then some (.floorClosed x.1 x.2.seat .time x.2.origin (counted x.2))
          else if warns x.2 then some (.speechWarning x.1 x.2.seat (limit x.2 - counted x.2) (limit x.2))
          else none)) ∧
      (∀ n : SlotNo, s.floor.slots[n] = none → t.floor.slots[n] = none) ∧
      ∀ (n : SlotNo) (sl : Slot), s.floor.slots[n] = some sl →
        (closes sl = true → t.floor.slots[n] = none) ∧
        (closes sl = false → t.floor.slots[n] = some { sl with
          elapsed := counted sl
          warned := if warns sl then true
            else if sl.warned = true ∧ (limit sl = 0 ∨ counted sl + lead < limit sl) then false
            else sl.warned }))) ∧
    (∀ (n : SlotNo) (sl : Slot) (s : State), Queues s → s.floor.slots[n] = some sl →
      let elapsed := if sl.condition = .open then min (sl.elapsed + 1) 65535 else sl.elapsed
      let limit := sl.override.getD (inForce s).speechLimit
      let lead := (inForce s).warningLead
      let warns := limit ≠ 0 ∧ lead ≠ 0 ∧ sl.warned = false ∧ limit ≤ elapsed + lead
      let set := fun (w : Bool) => s.setFloor { s.floor with
        slots := put s.floor.slots n (some { sl with elapsed := elapsed, warned := w }) }
      (limit ≠ 0 → limit ≤ elapsed → timeSlot s n = closeSlot n .time (set sl.warned)) ∧
      (limit = 0 ∨ elapsed < limit →
        (warns → timeSlot s n = post (.speechWarning n sl.seat (limit - elapsed) limit) (set true)) ∧
        (¬warns → timeSlot s n = set (sl.warned && !decide (limit = 0 ∨ elapsed + lead < limit))))) ∧
    ∀ (n : SlotNo) (sl : Slot) (s : State), Sending s → s.floor.slots[n] = some sl →
      let limit := sl.override.getD (inForce s).speechLimit
      (limit = 0 ∨ sl.elapsed < limit → exec (.timeLimitClose (slotNumber n)) s = .next s) ∧
      (limit ≠ 0 → limit ≤ sl.elapsed →
        exec (.timeLimitClose (slotNumber n)) s = .next (advanceCheck (closeSlot n .time s))) ∧
      (limit ≠ 0 → limit ≤ sl.elapsed → NoAdvance s →
        ∃ t, exec (.timeLimitClose (slotNumber n)) s = .next t ∧ LinkFrame s t ∧
          t = { s with link := t.link, queue := { s.queue with entries := t.queue.entries }, floor := t.floor } ∧
          t.floor = { s.floor with
            slots := put s.floor.slots n none, speakers := s.floor.speakers.erase n, free := n :: s.floor.free } ∧
          t.queue.entries = s.queue.entries.map (hearEntry sl.seat) ∧
          Posts s t [.floorClosed n sl.seat .time sl.origin sl.elapsed])

/-- The advance check goes on until one of its conditions fails: after it, auto advance is no with the list OPEN, or the mode
is VOICE, or priority is held, or no free slot exists, or nobody is eligible; it keeps every seat that spoke (R90). Where one
fails to begin with it changes nothing. While they all hold, it grants the eligible entry nearest the head by the opening path
with origin QUEUE, as a drain grant while the list is DRAINING, and goes on from there (R71, R81, R90). An entry is eligible
when its seat is DELEGATE, has a bound unit, on an unmasked wing, and is not LOCKED, and its reply target is absent or heard:
the first of these that fails gives the cause, so that an entry bound to a seat whose other conditions hold is AWAITING_REPLY
until it is heard (R61, R67). The profile in force, the occupied count, the priority hold count and the seat's class are read
as they stand (R77, R92, R140). -/
def Obligations.AdvanceCheckRunsToItsEnd : Prop :=
  (∀ s : State, FloorLaws s → (inForce s).speakerLimit ≤ 8 →
    let t := advanceCheck s
    (((inForce t).autoAdvance = false ∧ t.queue.list = .open) ∨ (inForce t).mode = .voice ∨ 0 < holdCount t ∨
      (inForce t).speakerLimit ≤ t.floor.occupied ∨ ∀ e ∈ t.queue.entries, eligibility t e ≠ .eligible) ∧
    (∀ (n : SlotNo) (sl : Slot), s.floor.slots[n] = some sl → t.floor.slots[n] = some sl) ∧
    s.floor.speakers <+: t.floor.speakers) ∧
    (∀ s : State, (((inForce s).autoAdvance = false ∧ s.queue.list = .open) ∨ (inForce s).mode = .voice ∨ 0 < holdCount s ∨
      (inForce s).speakerLimit ≤ s.floor.occupied ∨ ∀ e ∈ s.queue.entries, eligibility s e ≠ .eligible) →
      advanceCheck s = s) ∧
    (∀ (e : QueueEntry) (s : State),
      (s.plan[e.seat].cls ≠ .delegate → eligibility s e = .notDelegate) ∧
      (s.plan[e.seat].cls = .delegate →
        (s.trunks.binding[e.seat] = none → eligibility s e = .notReady) ∧
        ∀ p, s.trunks.binding[e.seat] = some p →
          (s.floor.mask.getLsbD p.wing.val = false → eligibility s e = .masked) ∧
          (s.floor.mask.getLsbD p.wing.val = true →
            (s.floor.locked[e.seat] = true → eligibility s e = .locked) ∧
            (s.floor.locked[e.seat] = false →
              (∀ y, e.target = some y → e.heard = false → eligibility s e = .awaitingReply) ∧
              (e.target = none ∨ e.heard = true → eligibility s e = .eligible)))) ∧
      inForce s = s.profiles.records[s.profiles.inForce] ∧ holdCount s = (s.floor.chairs.filter fun c => c.held).length ∧
      s.floor.occupied = ((List.finRange 8).filter fun n : SlotNo => (s.floor.slots[n]).isSome).length) ∧
    ∀ s : State, FloorLaws s → (inForce s).speakerLimit ≤ 8 →
      ((inForce s).autoAdvance = true ∨ s.queue.list = .draining) → (inForce s).mode ≠ .voice → holdCount s = 0 →
      s.floor.occupied < (inForce s).speakerLimit →
      ∀ (ahead behind : List QueueEntry) (e : QueueEntry) (n : SlotNo) (rest : List SlotNo),
        s.queue.entries = ahead ++ e :: behind → (∀ x ∈ ahead, eligibility s x ≠ .eligible) →
        eligibility s e = .eligible → s.floor.free = n :: rest →
        let granted := openSlot e.seat .queue false s
        advanceCheck s = advanceCheck granted ∧ (s.link.tx ≠ .idle → Grants s granted ahead behind e n rest .queue)

/-- The start of a priority hold with action MUTE mutes every OPEN slot, and with action CLOSE closes every slot from the head
of the speaker list with reason PRIORITY; it keeps every chair's microphone state for after the hold and opens the closed ones
whose seats may open, in order of seat, after PRIORITY ON. Its end, after PRIORITY OFF, opens every MUTED slot with blanking
restarted, closes the open microphones whose after-hold state is CLOSED, and opens the closed ones whose after-hold state is
OPEN when their seats may open, and the one advance check follows. A hold that joins another, or leaves one standing, changes
its own chair record alone, and the release of a hold that is not counted changes nothing (R68, R82, R92 to R94). -/
def Obligations.PriorityHoldMutesAndReturns : Prop :=
  (∀ (seat : Seat) (s : State), Queues s → SlotListsLaw s → ChairsLaw s → s.plan[seat].cls = .chair →
    holdCount s = 0 →
    let t := raiseHold seat s
    let opens := fun (c : ChairRecord) => !c.micOpen && isReady s c.seat && !isLocked s c.seat
    let chairs := s.floor.chairs.map fun c => { c with
      held := decide (c.seat = seat), afterHold := c.micOpen, micOpen := c.micOpen || opens c
      softMuted := c.softMuted && !opens c, strikes := if opens c then 0 else c.strikes }
    let mics : List NoticeBody := (s.floor.chairs.filter opens).map fun c => .chairMic c.seat true
    holdCount t = 1 ∧ LinkFrame s t ∧
      (∀ x : Seat, t.seats[x] =
        if s.floor.chairs.any (fun c => c.seat == x && opens c) then (blankingRestarted s x)[x] else s.seats[x]) ∧
      ((inForce s).priorityAction = .mute →
        t = { s with link := t.link, seats := t.seats
                     floor := { s.floor with slots := t.floor.slots, chairs := chairs } } ∧
        (∀ n : SlotNo, t.floor.slots[n] = (s.floor.slots[n]).map fun sl =>
          if sl.condition = .open then { sl with condition := .muted } else sl) ∧
        Posts s t (.priorityOn seat :: mics)) ∧
      ((inForce s).priorityAction = .close →
        let shut := closedInTurn s.floor.speakers .priority (post (.priorityOn seat) (setHeld seat true s))
        t = { shut with link := t.link, seats := t.seats, floor := { shut.floor with chairs := chairs } } ∧
        LinkFrame shut t ∧ Posts shut t mics) ∧
      ((inForce s).priorityAction = .close → s.queue.list = .open →
        t = { s with link := t.link, seats := t.seats, queue := { s.queue with entries := t.queue.entries }
                     floor := { s.floor with
                       slots := t.floor.slots, speakers := [], free := s.floor.speakers.reverse ++ s.floor.free
                       chairs := chairs } } ∧
        (∀ n : SlotNo, t.floor.slots[n] = none) ∧
        t.queue.entries = s.queue.entries.map (fun e =>
          if e.target.any (heldSlot s) then { e with heard := true } else e) ∧
        Posts s t (.priorityOn seat :: (s.floor.speakers.filterMap fun n =>
          (s.floor.slots[n]).map fun sl => .floorClosed n sl.seat .priority sl.origin sl.elapsed) ++ mics))) ∧
    (∀ (seat : Seat) (c : ChairRecord) (s : State), Queues s → SlotListsLaw s → ChairsLaw s →
      c ∈ s.floor.chairs → c.seat = seat → c.held = true → holdCount s = 1 →
      let shuts := fun (d : ChairRecord) => d.micOpen && !d.afterHold
      let opens := fun (d : ChairRecord) => !d.micOpen && d.afterHold && isReady s d.seat && !isLocked s d.seat
      ∃ t, lowerHold seat s = advanceCheck t ∧ (NoAdvance s → lowerHold seat s = t) ∧
        t = { s with link := t.link, seats := t.seats
                     floor := { s.floor with
                       slots := t.floor.slots
                       chairs := s.floor.chairs.map fun d => { d with
                       held := false, micOpen := (d.micOpen && !shuts d) || opens d
                       softMuted := d.softMuted && !shuts d && !opens d, strikes := if opens d then 0 else d.strikes } } } ∧
        holdCount t = 0 ∧ LinkFrame s t ∧
        (∀ n : SlotNo, t.floor.slots[n] = (s.floor.slots[n]).map fun sl =>
          if sl.condition = .muted then { sl with condition := .open } else sl) ∧
        (∀ x : Seat, t.seats[x] =
          if (List.finRange 8).any (fun n => (s.floor.slots[n]).any fun sl => sl.seat == x && sl.condition == .muted)
            || s.floor.chairs.any (fun d => d.seat == x && opens d)
          then (blankingRestarted s x)[x] else s.seats[x]) ∧
        Posts s t (.priorityOff seat :: s.floor.chairs.filterMap fun d =>
          if shuts d then some (.chairMic d.seat false) else if opens d then some (.chairMic d.seat true) else none)) ∧
    ∀ (seat : Seat) (c : ChairRecord) (s : State), ChairsLaw s → c ∈ s.floor.chairs → c.seat = seat →
      let withHeld := fun (h : Bool) => s.setFloor { s.floor with
        chairs := s.floor.chairs.map fun d => if d.seat = seat then { d with held := h } else d }
      (0 < holdCount s → raiseHold seat s = withHeld true) ∧
      (c.held = true → 2 ≤ holdCount s → lowerHold seat s = withHeld false) ∧
      (c.held = false → lowerHold seat s = s)

/-! ### The reads -/

/-- The reads are refused for an argument out of range, and otherwise answer what stands and change nothing; where a place of
an answer has no stated value the model's draw counter alone goes up (log entry 2). TRUNK READ answers the chain length, the
assignment and the records of the positions from the start on, not past 128 (R37); BLOCKED READ at most 32 entries from the
start on (R32); QUEUE READ the counts, the first eligible place and the records from the start place on (R74); ACCOUNT READ the
records from the start account on, not past 575 (R132); FLOOR READ the floor (R104); PROFILE GET a record (R139); and PROFILE
IN FORCE the profile unit's state with the limits of the occupied slots (R145). Each record is the fields of section 11.2 in
order, numbers most significant byte first: of a position, the assignment, a blocked unit, a queue entry, an account, a slot, a
chair, a slot's limits, a plan record and a profile record. What stands at the places of an ABSENT position, of a free slot and
of the flags byte for which no value is stated is left open (log entry 2); that the places of a position's buttons byte other than
4–6 are clear is the model's choice (log entry 38). -/
def Obligations.ReadsChangeNothing : Prop :=
  (∀ (wing start count : Byte) (s : State), TakesOrders s →
    (3 < wing.toNat ∨ start.toNat = 0 ∨ 128 < start.toNat ∨ count.toNat = 0 ∨ 16 < count.toNat →
      exec (.trunkRead wing start count) s = .next (answered 0x11 .badValue [] s)) ∧
    ∀ (w : Wing) (pos : Pos), wing.toNat = w.val → start.toNat = posNumber pos → 1 ≤ count.toNat → count.toNat ≤ 16 →
      exec (.trunkRead wing start count) s = .next (answered 0x11 .ok
        (byteOf s.trunks.units[w].chainLength :: assignmentBytes s.trunks.units[w].assignment
          ++ (((List.finRange 128).filter fun p => decide (pos ≤ p ∧ p.val < pos.val + count.toNat)).map
            (positionRecord s w)).flatten)
        (s.setDraws (s.draws + 1)))) ∧
    (∀ (start : Half) (s : State), TakesOrders s →
      (511 < start.toNat → exec (.blockedRead start) s = .next (answered 0x12 .badValue [] s)) ∧
      (start.toNat ≤ 511 → exec (.blockedRead start) s = .next (answered 0x12 .ok (halfOf s.trunks.blocked.length
        ++ (((s.trunks.blocked.drop start.toNat).take 32).map BlockedEntry.bytes).flatten) s))) ∧
    (∀ (start count : Byte) (s : State), TakesOrders s →
      (127 < start.toNat ∨ count.toNat = 0 ∨ 16 < count.toNat →
        exec (.queueRead start count) s = .next (answered 0x1B .badValue [] s)) ∧
      (start.toNat ≤ 127 → 1 ≤ count.toNat → count.toNat ≤ 16 →
        exec (.queueRead start count) s = .next (answered 0x1B .ok
          ([byteOf s.queue.entries.length, byteOf (s.queue.entries.countP fun e => e.kind = .priority), firstPlace s]
            ++ ((((s.queue.entries.zipIdx).drop start.toNat).take count.toNat).map fun x =>
              entryRecord s x.1 x.2).flatten) s))) ∧
    (∀ (start : Half) (count : Byte) (s : State), TakesOrders s →
      (575 < start.toNat ∨ count.toNat = 0 ∨ 16 < count.toNat →
        exec (.accountRead start count) s = .next (answered 0x31 .badValue [] s)) ∧
      (start.toNat ≤ 575 → 1 ≤ count.toNat → count.toNat ≤ 16 →
        let asked := (List.finRange 576).filter fun a =>
          decide (start.toNat ≤ a.val ∧ a.val < start.toNat + count.toNat)
        exec (.accountRead start count) s = .next (answered 0x31 .ok
          (halfBytes start ++ byteOf asked.length :: (asked.map (accountRecord s)).flatten) (s.setDraws (s.draws + 1))))) ∧
    (∀ (start : Half) (s : State), TakesOrders s →
      (511 < start.toNat → exec (.floorRead start) s = .next (answered 0x24 .badValue [] s)) ∧
      ∀ x : Seat, start.toNat = x.val →
        let locked := (List.finRange 512).filter fun y : Seat => s.floor.locked[y]
        let listed := ((List.finRange 512).filter fun y : Seat => s.floor.locked[y] && decide (x ≤ y)).take 16
        exec (.floorRead start) s = .next (answered 0x24 .ok
          (byteOf s.floor.speakers.length :: s.floor.speakers.map (fun n => byteOf (slotNumber n))
            ++ ((List.finRange 8).map (slotRecord s)).flatten
            ++ byteOf s.floor.chairs.length :: (s.floor.chairs.map (chairBytes s)).flatten
            ++ [byteOf (holdCount s), s.floor.mask.zeroExtend 8] ++ halfOf locked.length
            ++ byteOf listed.length :: (listed.map seatBytes).flatten) (s.setDraws (s.draws + 1)))) ∧
    (∀ (number : Byte) (s : State), TakesOrders s →
      (15 < number.toNat → exec (.profileGet number) s = .next (answered 0x39 .badValue [] s)) ∧
      ∀ n : ProfileNo, number.toNat = n.val →
        exec (.profileGet number) s = .next (answered 0x39 .ok
          ([number, if n = s.profiles.inForce then 1 else 0] ++ (s.profiles.records[n]).bytes) s)) ∧
    (∀ s : State, TakesOrders s →
       exec .profileInForce s = .next (answered 0x3C .ok
         ([byteOf s.profiles.inForce.val, s.profiles.source.code, byteOf s.profiles.selected.val,
             match s.profiles.lastSample with
             | some n => byteOf n.val
             | none => 0xFF,
             byteOf s.profiles.stable]
           ++ (s.profiles.records[s.profiles.inForce]).bytes
           ++ byteOf s.floor.speakers.length :: (s.floor.speakers.map (limitRecord s)).flatten) s)) ∧
    ∀ s : State,
      let num := fun (n : Nat) => BitVec.ofNat 8 n
      let two := fun (n : Nat) => [num (n / 256), num n]
      let three := fun (n : Int) => [BitVec.ofInt 8 (n / 65536), BitVec.ofInt 8 (n / 256), BitVec.ofInt 8 n]
      let four := fun (c : Clock) => [num (c.toNat / 2 ^ 24), num (c.toNat / 2 ^ 16), num (c.toNat / 2 ^ 8), num c.toNat]
      let flag := fun (b : Bool) => if b then (1 : Byte) else 0
      let who := fun (x : Option Seat) => match x with
        | some y => two y.val
        | none => [0xFF, 0xFF]
      (∀ (w : Wing) (pos : Pos), (s.trunks.entryAt ⟨w, pos⟩ = none →
          (positionRecord s w pos).take 4 = [num (pos.val + 1), 0, 0xFF, 0xFF] ∧ (positionRecord s w pos).length = 10 ∧
            (positionRecord s w pos)[5]? = some 0xFF) ∧
        ∀ e, s.trunks.entryAt ⟨w, pos⟩ = some e →
          let presence := match e.presence with
            | .settling => ((1 : Byte), (0xFF : Byte))
            | .ready => (2, 0xFF)
            | .blocked k => (3, k.code)
          let buttons := match e.buttons with
            | .delegate r => 16 * r.toNat
            | .chair k p n => 16 * k.toNat + 32 * p.toNat + 64 * n.toNat
          positionRecord s w pos = [num (pos.val + 1), presence.1] ++ who e.addr
            ++ [if e.buttons.unitType = .chairUnit then 1 else 0, presence.2, num e.settle, num e.miss, num buttons,
                num e.level.val]) ∧
      (assignmentBytes none = [0, 0, 0, 0, 0] ∧ ∀ x : Assignment,
        assignmentBytes (some x) = [1, num (x.pos.val + 1)] ++ two x.seat.val ++ [num x.polls]) ∧
      (∀ b : BlockedEntry, b.bytes = [num b.place.wing.val, num (b.place.pos.val + 1)] ++ who b.addr ++ [b.kind.code]) ∧
      (∀ (e : QueueEntry) (place : Nat), entryRecord s e place = num place :: two e.seat.val ++ [e.kind.code, e.source.code]
        ++ who e.target ++ [flag e.heard] ++ four e.time ++ [(eligibility s e).code]) ∧
      ((∀ e ∈ s.queue.entries, eligibility s e ≠ .eligible) → firstPlace s = 0xFF) ∧
      (∀ k e, s.queue.entries[k]? = some e → eligibility s e = .eligible →
        (∀ x ∈ s.queue.entries.take k, eligibility s x ≠ .eligible) → firstPlace s = num k) ∧
      (∀ a : AccountNo,
        let r := s.allowance.accounts[a]
        let list := if a ∈ s.allowance.lowList then 1 else if a ∈ s.allowance.recovered then 2 else 0
        (accountRecord s a).length = 15 ∧
        (accountRecord s a).take 13 =
          three r.balance ++ two r.cap ++ two r.rate ++ two r.remainder ++ two r.threshold ++ two r.delta ∧
        (accountRecord s a)[13]?.map (fun b => b.toNat % 8) = some (r.low.toNat + 2 * list) ∧
        (SlotListsLaw s → (accountRecord s a)[14]? = some (num (16 * membersOpen s a + membersHolding s a)))) ∧
      (∀ n : SlotNo, (s.floor.slots[n] = none → (slotRecord s n).length = 19 ∧ (slotRecord s n)[0]? = some 0 ∧
          (slotRecord s n)[12]? = some 0 ∧ (slotRecord s n)[13]? = some 0) ∧
        ∀ sl, s.floor.slots[n] = some sl →
          let limit := sl.override.getD (inForce s).speechLimit
          slotRecord s n = 1 :: two sl.seat.val ++ [sl.condition.code, sl.origin.code, flag sl.guarded] ++ four sl.grantTime
            ++ two sl.elapsed ++ two (sl.override.getD 0) ++ two limit
            ++ [flag sl.warned, num sl.strikes, flag sl.drainGrant] ∧
          limitRecord s n = num (n.val + 1) :: two sl.seat.val ++ two (sl.override.getD 0) ++ two limit) ∧
      (∀ c : ChairRecord, chairBytes s c = two c.seat.val ++ [flag c.micOpen, flag c.softMuted, num c.strikes,
        flag c.afterHold, flag c.held, flag s.floor.locked[c.seat]]) ∧
      (∀ r : PlanRecord, r.bytes = [r.cls.code] ++ (match r.location with
        | some p => [num p.wing.val, num (p.pos.val + 1)]
        | none => [0xFF, 0]) ++ [num r.delegation.val, flag r.voice]) ∧
      ∀ p : Profile, p.bytes = [p.mode.code, num p.speakerLimit, flag p.autoAdvance, flag p.queueWhenFull,
          flag p.speakerMayClose] ++ two p.speechLimit ++ two p.warningLead ++ [p.allowanceMode.code, num p.longPress,
          num p.voiceStep, num p.voiceAttack, num p.voiceRelease, num p.howlLimit, num p.howlCount, num p.blankCount,
          p.lockKind.code, num p.softRelease, p.priorityAction.code]

/-! ### The accounts -/

/-- The accrue step pays the rate into the remainder, takes 600 out for one credit, and clears the remainder at the cap; an
account at its cap is left alone (R124). -/
def Obligations.AccruePaysIn : Prop :=
  ∀ r : Account, r.lawful →
    (r.balance = r.cap → accrue r = r) ∧
    (r.balance < r.cap → r.remainder + r.rate < 600 → accrue r = { r with remainder := r.remainder + r.rate }) ∧
    (r.balance < r.cap → 600 ≤ r.remainder + r.rate → r.balance + 1 < r.cap →
      accrue r = { r with balance := r.balance + 1, remainder := r.remainder + r.rate - 600 }) ∧
    (r.balance < r.cap → 600 ≤ r.remainder + r.rate → r.balance + 1 = r.cap →
      accrue r = { r with balance := r.cap, remainder := 0 }) ∧
    accrue ⟨99, 100, 200, 450, 0, 1, false⟩ = ⟨100, 100, 200, 0, 0, 1, false⟩

/-- ALLOWANCE_EXPIRY does nothing under OFF. Under WARN and CUT each account is consumed, held or paid in by the members that
hold slots as the expiry is taken, and crosses when its balance changed: an account that becomes LOW leaves the Recovered list
for the tail of the Low list, one that becomes NORMAL the other way, in ascending order of account (R120 to R122, R124, R126).
Under WARN nothing is closed and nothing posted. Under CUT exactly the slots of the accounts that were consumed to 0 or below
are closed with reason ALLOWANCE, in ascending order of account and within one in the order of the speaker list, with one
advance check after the group (R68, R82, R90, R125); a seat with delegation 0 is a member of the account of its number, and
one with delegation d of account 511 + d (R119); that an expiry taken first charges the members of a slot that another close
would have taken, and closes them itself, is the model's choice (log entry 39). -/
def Obligations.AllowanceExpiryChargesAndPays : Prop :=
  (∀ (seat : Seat) (r : PlanRecord),
    (r.delegation.val = 0 → (accountOf r seat).val = seat.val) ∧
    (1 ≤ r.delegation.val → (accountOf r seat).val = 511 + r.delegation.val)) ∧
  ∀ s : State, s.resetHeld = false →
    ((inForce s).allowanceMode = .off → exec .allowanceExpiry s = .next s) ∧
    ((inForce s).allowanceMode ≠ .off → SlotListsLaw s → OneSlotLaw s →
      let cut := (inForce s).allowanceMode = .cut
      let after := fun (a : AccountNo) =>
        let r := s.allowance.accounts[a]
        if 0 < membersOpen s a then
          if cut then { r with balance := if r.balance ≤ 0 then r.balance else r.balance - min (membersOpen s a : Int) r.balance }
          else { r with balance := max (r.balance - membersOpen s a) (-36000) }
        else if 0 < membersHolding s a then r
        else accrue r
      let spent := fun (a : AccountNo) => decide cut && decide (0 < membersOpen s a) && decide ((after a).balance ≤ 0)
      let closed := (List.finRange 576).flatMap fun a => if spent a then s.floor.speakers.filter fun n =>
        (s.floor.slots[n]).any fun sl => accountOf s.plan[sl.seat] sl.seat == a else []
      let paid := (List.finRange 576).foldl (expireAccount s (inForce s).allowanceMode) s
      ∃ t, exec .allowanceExpiry s = .next t ∧ t.plan = s.plan ∧ t.cursor = s.cursor ∧ t.trunks = s.trunks ∧
        t.profiles = s.profiles ∧
        (closed = [] → t = paid) ∧ (closed ≠ [] → t = advanceCheck (closedInTurn closed .allowance paid)) ∧
        paid = { s with link := paid.link, allowance := t.allowance } ∧
        (s.link.tx ≠ .idle → LinkFrame s paid ∧ paid.link.notices = s.link.notices) ∧
        (∀ a : AccountNo, t.allowance.accounts[a] =
          if (after a).balance = (s.allowance.accounts[a]).balance then after a
          else { after a with low := crossedLow (after a).low (after a).threshold (after a).delta (after a).balance }) ∧
        (let fell := fun (a : AccountNo) => !(s.allowance.accounts[a]).low && (t.allowance.accounts[a]).low
         let rose := fun (a : AccountNo) => (s.allowance.accounts[a]).low && !(t.allowance.accounts[a]).low
         t.allowance.lowList = (s.allowance.lowList.filter fun a => !rose a) ++ (List.finRange 576).filter fell ∧
         t.allowance.recovered = (s.allowance.recovered.filter fun a => !fell a) ++ (List.finRange 576).filter rose) ∧
        ((inForce s).allowanceMode = .warn → t = { s with link := t.link, allowance := t.allowance } ∧
          (s.link.tx ≠ .idle → t.link.notices = s.link.notices)) ∧
        (cut → NoAdvance s →
          t = { s with link := t.link, allowance := t.allowance, queue := { s.queue with entries := t.queue.entries }
                       floor := { s.floor with
                         slots := t.floor.slots, speakers := s.floor.speakers.filter (fun n => n ∉ closed)
                         free := closed.reverse ++ s.floor.free } } ∧
          (∀ n : SlotNo, t.floor.slots[n] = (s.floor.slots[n]).filter fun sl =>
            !spent (accountOf s.plan[sl.seat] sl.seat)) ∧
          t.queue.entries = s.queue.entries.map (fun e =>
            if e.target.any (fun y => closed.any fun n => (s.floor.slots[n]).any fun sl => sl.seat == y)
            then { e with heard := true } else e) ∧
          (s.link.tx ≠ .idle → LinkFrame s t ∧ Posts s t (closed.filterMap fun n =>
            (s.floor.slots[n]).map fun sl => .floorClosed n sl.seat .allowance sl.origin sl.elapsed))))

/-- ACCOUNT SET is refused for a field out of range; otherwise it writes the account with its balance clamped to −36000 and the
cap and its remainder 0, makes the crossing test against the state before, moves the account between the lists at a
crossing, and leaves the other accounts and the floor (R126, R130, R131). -/
def Obligations.AccountSetWritesAndCrosses : Prop :=
  ∀ (account cap rate low delta : Half) (balance : BitVec 32) (s : State), TakesOrders s →
    (575 < account.toNat ∨ cap.toNat = 0 ∨ 36000 < cap.toNat ∨ 600 < rate.toNat ∨ 36000 < low.toNat ∨ delta.toNat = 0 ∨
        3000 < delta.toNat →
      exec (.accountSet account balance cap rate low delta) s = .next (answered 0x30 .badValue [] s)) ∧
    ∀ a : AccountNo, account.toNat = a.val → 1 ≤ cap.toNat → cap.toNat ≤ 36000 → rate.toNat ≤ 600 → low.toNat ≤ 36000 →
      1 ≤ delta.toNat → delta.toNat ≤ 3000 →
      let before := (s.allowance.accounts[a]).low
      let b : Int := max (min balance.toInt cap.toNat) (-36000)
      let now := crossedLow before low.toNat delta.toNat b
      ∃ t, exec (.accountSet account balance cap rate low delta) s = .next t ∧ LinkFrame s t ∧
        Answers s t 0x30 .ok (halfBytes account ++ wordBytes (BitVec.ofInt 32 b)
          ++ [if now then 1 else 0, if b = balance.toInt then 0 else 1]) ∧
        t = { s with link := t.link, allowance := t.allowance } ∧
        t.allowance.accounts = put s.allowance.accounts a
          ⟨b, cap.toNat, rate.toNat, 0, low.toNat, delta.toNat, now⟩ ∧
        t.link.notices = s.link.notices ∧
        (before = now → t.allowance.lowList = s.allowance.lowList ∧ t.allowance.recovered = s.allowance.recovered) ∧
        (before = false → now = true → t.allowance.lowList = s.allowance.lowList ++ [a] ∧
          t.allowance.recovered = s.allowance.recovered.filter (fun x => x ≠ a)) ∧
        (before = true → now = false → t.allowance.recovered = s.allowance.recovered ++ [a] ∧
          t.allowance.lowList = s.allowance.lowList.filter (fun x => x ≠ a))

/-- LOW READ and RECOVERED READ are refused for a count of 0 or above 32; otherwise each takes that many of the oldest entries
off its list, answers their number, how many are left, and each entry's account, balance and state, and touches nothing else;
its summary bit stands for what is left (R128, R129). -/
def Obligations.ListReadsTakeTheOldest : Prop :=
  ∀ (count : Byte) (s : State), TakesOrders s →
    let records := fun (l : List AccountNo) => (l.map fun a => halfOf a.val
      ++ tripleBytes (BitVec.ofInt 24 (s.allowance.accounts[a]).balance)
      ++ [if (s.allowance.accounts[a]).low then 1 else 0]).flatten
    (count.toNat = 0 ∨ 32 < count.toNat → exec (.lowRead count) s = .next (answered 0x32 .badValue [] s) ∧
      exec (.recoveredRead count) s = .next (answered 0x33 .badValue [] s)) ∧
    (1 ≤ count.toNat → count.toNat ≤ 32 →
      (∃ t, exec (.lowRead count) s = .next t ∧ LinkFrame s t ∧ t.link.notices = s.link.notices ∧
        t = { s with link := t.link
                     allowance := { s.allowance with lowList := s.allowance.lowList.drop count.toNat } } ∧
        Answers s t 0x32 .ok (byteOf (min count.toNat s.allowance.lowList.length)
          :: halfOf (s.allowance.lowList.length - count.toNat) ++ records (s.allowance.lowList.take count.toNat)) ∧
        (summary t).lowPending = decide (count.toNat < s.allowance.lowList.length)) ∧
      ∃ t, exec (.recoveredRead count) s = .next t ∧ LinkFrame s t ∧ t.link.notices = s.link.notices ∧
        t = { s with link := t.link
                     allowance := { s.allowance with recovered := s.allowance.recovered.drop count.toNat } } ∧
        Answers s t 0x33 .ok (byteOf (min count.toNat s.allowance.recovered.length)
          :: halfOf (s.allowance.recovered.length - count.toNat) ++ records (s.allowance.recovered.take count.toNat)) ∧
        (summary t).recoveredPending = decide (count.toNat < s.allowance.recovered.length))

/-! ### The profiles -/

/-- PROFILE PUT is refused exactly for a number above 15 or a record out of range. The record written holds every field as the
order carries it, numbers as they stand and enumerated values by their codes, so that its twenty bytes are the ones that came
(R135, R137, section 11.2). A record not in force is written and nothing else follows; the record in force is a change with
cause PUT: PROFILE CHANGED is posted first, then slots are closed with reason PROFILE from the tail of the speaker list until
the new speaker limit is met, and then the advance check is made (R68, R82, R90, R99, R138, R144). -/
def Obligations.ProfilePutWritesTheRecord : Prop :=
  ∀ (number : Byte) (r : RawProfile) (s : State), TakesOrders s →
    (15 < number.toNat ∨ profileOutOfRange r → exec (.profilePut number r) s = .next (answered 0x38 .badValue [] s)) ∧
    ∀ n : ProfileNo, number.toNat = n.val → ¬profileOutOfRange r →
      ∃ p, profileOf r = some p ∧ p.mode.code = r.mode ∧ p.speakerLimit = r.speakerLimit.toNat ∧
        p.autoAdvance = decide (r.autoAdvance = 1) ∧ p.queueWhenFull = decide (r.queueWhenFull = 1) ∧
        p.speakerMayClose = decide (r.speakerMayClose = 1) ∧ p.speechLimit = r.speechLimit.toNat ∧
        p.warningLead = r.warningLead.toNat ∧ p.allowanceMode.code = r.allowanceMode ∧ p.longPress = r.longPress.toNat ∧
        p.voiceStep = r.voiceStep.toNat ∧ p.voiceAttack = r.voiceAttack.toNat ∧ p.voiceRelease = r.voiceRelease.toNat ∧
        p.howlLimit = r.howlLimit.toNat ∧ p.howlCount = r.howlCount.toNat ∧ p.blankCount = r.blankCount.toNat ∧
        p.lockKind.code = r.lockKind ∧ p.softRelease = r.softRelease.toNat ∧ p.priorityAction.code = r.priorityAction ∧
        p.bytes = recordBytes r ∧
        (n ≠ s.profiles.inForce → exec (.profilePut number r) s = .next (answered 0x38 .ok [number, 0]
          (s.setProfiles { s.profiles with records := put s.profiles.records n p }))) ∧
        (n = s.profiles.inForce → SlotListsLaw s → exec (.profilePut number r) s = .next (answered 0x38 .ok [number, 1]
          (profileChange n .put ((oweAnswer s).setProfiles { s.profiles with records := put s.profiles.records n p })))) ∧
        (n = s.profiles.inForce →
          ∃ t, exec (.profilePut number r) s = .next t ∧ Answers s t 0x38 .ok [number, 1] ∧ LinkFrame s t ∧
            t.profiles = { s.profiles with records := put s.profiles.records n p } ∧ t.plan = s.plan ∧
            t.cursor = s.cursor ∧ t.trunks = s.trunks ∧ t.allowance = s.allowance ∧
            (s.link.notices.length < 32 → s.link.mask.getLsbD 18 = true →
              t.link.notices.take (s.link.notices.length + 1) =
                s.link.notices ++ [⟨s.link.clock, .profileChanged n n .put s.profiles.source⟩]) ∧
            (SlotListsLaw s → t.floor.occupied ≤ p.speakerLimit) ∧
            (s.floor.occupied ≤ p.speakerLimit → p.autoAdvance = false → s.queue.list = .open →
              t = { s with link := t.link, profiles := t.profiles } ∧
              Posts s t [.profileChanged n n .put s.profiles.source]) ∧
            (SlotListsLaw s → p.autoAdvance = false → s.queue.list = .open →
              let closed := (s.floor.speakers.drop p.speakerLimit).reverse
              t = { s with link := t.link, profiles := t.profiles
                           queue := { s.queue with entries := t.queue.entries }
                           floor := { s.floor with
                             slots := t.floor.slots, speakers := s.floor.speakers.take p.speakerLimit
                             free := s.floor.speakers.drop p.speakerLimit ++ s.floor.free } } ∧
              (∀ m : SlotNo, t.floor.slots[m] = if m ∈ closed then none else s.floor.slots[m]) ∧
              t.queue.entries = s.queue.entries.map (fun e =>
                if e.target.any (fun y => closed.any fun m => (s.floor.slots[m]).any fun sl => sl.seat == y)
                then { e with heard := true } else e) ∧
              Posts s t (.profileChanged n n .put s.profiles.source :: closed.filterMap fun m =>
                (s.floor.slots[m]).map fun sl => .floorClosed m sl.seat .profile sl.origin sl.elapsed)))

/-- PROFILE SELECT stores its number, and under INTERNAL brings it into force with cause SELECT when it differs; PROFILE SOURCE
sets the source, and INTERNAL brings the stored number into force with cause SOURCE when it differs. A change posts PROFILE
CHANGED, closes the slots past the new speaker limit from the tail of the speaker list, and makes one advance check (R99,
R144). Each is refused for a value out of range (R140, R142, R143). -/
def Obligations.SelectAndSourceSetTheProfile : Prop :=
  (∀ (number : Byte) (s : State), TakesOrders s →
    (15 < number.toNat → exec (.profileSelect number) s = .next (answered 0x3A .badValue [] s)) ∧
    ∀ n : ProfileNo, number.toNat = n.val →
      let stored := s.setProfiles { s.profiles with selected := n }
      (s.profiles.source = .external → exec (.profileSelect number) s = .next (answered 0x3A .ok
        [number, 1, byteOf s.profiles.inForce.val] stored)) ∧
      (s.profiles.source = .internal → n = s.profiles.inForce → exec (.profileSelect number) s = .next (answered 0x3A .ok
        [number, 0, number] stored)) ∧
      (s.profiles.source = .internal → n ≠ s.profiles.inForce → SlotListsLaw s →
        exec (.profileSelect number) s = .next (answered 0x3A .ok [number, 0, number]
          (profileChange s.profiles.inForce .select
            ((oweAnswer s).setProfiles { s.profiles with selected := n, inForce := n })))) ∧
      (s.profiles.source = .internal → n ≠ s.profiles.inForce →
        ∃ t more, exec (.profileSelect number) s = .next t ∧ Answers s t 0x3A .ok [number, 0, number] ∧
          t.profiles = { s.profiles with selected := n, inForce := n } ∧ t.plan = s.plan ∧ t.cursor = s.cursor ∧
          t.trunks = s.trunks ∧ t.allowance = s.allowance ∧
          (s.link.notices.length < 32 → s.link.mask.getLsbD 18 = true → t.link.notices =
            s.link.notices ++ ⟨s.link.clock, .profileChanged n s.profiles.inForce .select .internal⟩ :: more))) ∧
    ∀ (source : Byte) (s : State), TakesOrders s →
      (1 < source.toNat → exec (.profileSource source) s = .next (answered 0x3B .badValue [] s)) ∧
      (source = 1 → exec (.profileSource source) s = .next (answered 0x3B .ok
        [1, byteOf s.profiles.selected.val, byteOf s.profiles.inForce.val]
        (s.setProfiles { s.profiles with source := .external }))) ∧
      (source = 0 → s.profiles.selected = s.profiles.inForce → exec (.profileSource source) s = .next (answered 0x3B .ok
        [0, byteOf s.profiles.selected.val, byteOf s.profiles.selected.val]
        (s.setProfiles { s.profiles with source := .internal }))) ∧
      (source = 0 → s.profiles.selected ≠ s.profiles.inForce → SlotListsLaw s →
        exec (.profileSource source) s = .next (answered 0x3B .ok
          [0, byteOf s.profiles.selected.val, byteOf s.profiles.selected.val]
          (profileChange s.profiles.inForce .source
            ((oweAnswer s).setProfiles { s.profiles with source := .internal, inForce := s.profiles.selected })))) ∧
      (source = 0 → s.profiles.selected ≠ s.profiles.inForce →
        ∃ t more, exec (.profileSource source) s = .next t ∧
          Answers s t 0x3B .ok [0, byteOf s.profiles.selected.val, byteOf s.profiles.selected.val] ∧
          t.profiles = { s.profiles with source := .internal, inForce := s.profiles.selected } ∧ t.plan = s.plan ∧
          t.cursor = s.cursor ∧ t.trunks = s.trunks ∧ t.allowance = s.allowance ∧
          (s.link.notices.length < 32 → s.link.mask.getLsbD 18 = true → t.link.notices =
            s.link.notices ++ ⟨s.link.clock,
              .profileChanged s.profiles.selected s.profiles.inForce .source .internal⟩ :: more))

/-- PSEL_SAMPLE counts equal samples up to 3 and starts again at 1 with a different one, whatever the source; a third equal
sample under EXTERNAL that is not the profile in force comes into force, as a change with cause PINS (R99, R144), and otherwise
nothing else changes (R141).
PROFILE_PINS_QUALIFY makes the qualification test alone (log entry 5). -/
def Obligations.PinsQualifyAtTheThirdSample : Prop :=
  (∀ (pins : BitVec 4) (s : State), s.resetHeld = false →
    let n : ProfileNo := pins.toFin
    let stable := if s.profiles.lastSample = some n then min (s.profiles.stable + 1) 3 else 1
    let sampled := { s.profiles with lastSample := some n, stable := stable }
    let qualifies := s.profiles.source = .external ∧ stable = 3 ∧ n ≠ s.profiles.inForce
    (¬qualifies → exec (.pselSample pins) s = .next (s.setProfiles sampled)) ∧
    (qualifies → SlotListsLaw s → exec (.pselSample pins) s = .next
      (profileChange s.profiles.inForce .pins (s.setProfiles { sampled with inForce := n }))) ∧
    (qualifies → ∃ t, exec (.pselSample pins) s = .next t ∧ t.profiles = { sampled with inForce := n } ∧
      t.plan = s.plan ∧ t.cursor = s.cursor ∧ t.trunks = s.trunks ∧ t.allowance = s.allowance ∧
      (s.floor.occupied ≤ (s.profiles.records[n]).speakerLimit → (s.profiles.records[n]).autoAdvance = false →
        s.queue.list = .open → s.link.tx ≠ .idle →
        t = { s with link := t.link, profiles := t.profiles } ∧ LinkFrame s t ∧
        Posts s t [.profileChanged n s.profiles.inForce .pins .external]))) ∧
    ∀ s : State, s.resetHeld = false →
      (∀ n, s.profiles.lastSample = some n → s.profiles.source = .external → s.profiles.stable = 3 →
        n ≠ s.profiles.inForce → SlotListsLaw s → exec .profilePinsQualify s = .next
          (profileChange s.profiles.inForce .pins (s.setProfiles { s.profiles with inForce := n }))) ∧
      (∀ n, s.profiles.lastSample = some n → s.profiles.source = .external → s.profiles.stable = 3 →
        n ≠ s.profiles.inForce → ∃ t, exec .profilePinsQualify s = .next t ∧
          t.profiles = { s.profiles with inForce := n } ∧ t.plan = s.plan ∧ t.trunks = s.trunks ∧
          t.allowance = s.allowance) ∧
      (s.profiles.lastSample = none ∨ s.profiles.source = .internal ∨ s.profiles.stable ≠ 3 ∨
        s.profiles.lastSample = some s.profiles.inForce → exec .profilePinsQualify s = .next s)

/-! ### What every step keeps -/

/-- The part after a power reset meets every law below. -/
def Obligations.ResetMeetsTheLaws : Prop :=
  AccountsLaw State.reset ∧ ListsLaw State.reset ∧ FloorLaws State.reset ∧ ListStateLaw State.reset ∧
    SlotRangesLaw State.reset ∧ HoldLaw State.reset ∧ CursorLaw State.reset ∧ ChairsLaw State.reset ∧
    TrunkLaws State.reset ∧ SlotSeatsLaw State.reset ∧ LinkLaw State.reset ∧ StageLaw State.reset ∧
    ProfileLaw State.reset

/-- Every step keeps every account in its ranges, and the Low and Recovered lists free of doubles with LOW accounts on the one
and NORMAL ones on the other (R118, R127). -/
def Obligations.StepsKeepTheAccounts : Prop :=
  ∀ s t : State, AccountsLaw s → ListsLaw s → step s = .next t → AccountsLaw t ∧ ListsLaw t

/-- Every step keeps the queue within 128 entries, one for a seat, PRIORITY ahead; the speaker list and the free-slot order
apart; one slot for a seat and none for a waiting one; the list state with its limit; and the slot records in their ranges
(R58, R59, R77 to R79, R147). -/
def Obligations.StepsKeepTheFloor : Prop :=
  ∀ s t : State, FloorLaws s → ListStateLaw s → SlotRangesLaw s → step s = .next t →
    FloorLaws t ∧ ListStateLaw t ∧ SlotRangesLaw t

/-- Every step keeps at most four chairs with one record each in order of seat, the read buffer by the cursor's direction, and no
OPEN slot while a priority is held, nor a MUTED one while none is (R5, R6, R77, R91, R92). -/
def Obligations.StepsKeepTheHold : Prop :=
  ∀ s t : State, FloorLaws s → ChairsLaw s → CursorLaw s → HoldLaw s → step s = .next t →
    ChairsLaw t ∧ CursorLaw t ∧ HoldLaw t

/-- Every step keeps the binding map and the blocked-unit table at one with the chain tables, every READY unit at one with the
plan, and seat records for bound seats alone (R18, R23, R28, R31, R54). -/
def Obligations.StepsKeepTheTrunks : Prop := ∀ s t : State, TrunkLaws s → step s = .next t → TrunkLaws t

/-- Every step keeps the floor to DELEGATE seats with READY units on unmasked wings that are not LOCKED, and to the speaker limit
of the profile in force (R79). -/
def Obligations.StepsKeepTheSpeakersLawful : Prop :=
  ∀ s t : State, FloorLaws s → TrunkLaws s → SlotSeatsLaw s → step s = .next t → SlotSeatsLaw t

/-- Every step keeps at most 32 notices, a frame held only behind an answer, the transmitter idle only with nothing to send, the
floor clock at 0 until the deci at which RESTARTED is posted, the receive stage within LEN, under INTERNAL the selected profile in
force, and the stable count within 0–3 and 0 exactly while there is no last sample (R136, R140, R141, R153, R154, R159, R162,
R165, R166). It also keeps the model's own marker `owed` out of the answer register between commands (log entry 3). -/
def Obligations.StepsKeepTheLinkAndTheProfile : Prop :=
  ∀ s t : State, LinkLaw s → StageLaw s → ProfileLaw s → step s = .next t → LinkLaw t ∧ StageLaw t ∧ ProfileLaw t
end

