-- ==== Sys2Proof/Laws/State.lean ====
section
/-! SUPPORT. One lemma for each field and each update of State: the updated field reads as written, every other field as
before. -/

namespace Sys2Proof.Machine

@[simp] theorem State.setLink_pending (s : State) (x : Link) : (s.setLink x).pending = s.pending := rfl
@[simp] theorem State.setLink_resetHeld (s : State) (x : Link) : (s.setLink x).resetHeld = s.resetHeld := rfl
@[simp] theorem State.setLink_draws (s : State) (x : Link) : (s.setLink x).draws = s.draws := rfl
@[simp] theorem State.setLink_link (s : State) (x : Link) : (s.setLink x).link = x := rfl
@[simp] theorem State.setLink_plan (s : State) (x : Link) : (s.setLink x).plan = s.plan := rfl
@[simp] theorem State.setLink_cursor (s : State) (x : Link) : (s.setLink x).cursor = s.cursor := rfl
@[simp] theorem State.setLink_trunks (s : State) (x : Link) : (s.setLink x).trunks = s.trunks := rfl
@[simp] theorem State.setLink_seats (s : State) (x : Link) : (s.setLink x).seats = s.seats := rfl
@[simp] theorem State.setLink_queue (s : State) (x : Link) : (s.setLink x).queue = s.queue := rfl
@[simp] theorem State.setLink_floor (s : State) (x : Link) : (s.setLink x).floor = s.floor := rfl
@[simp] theorem State.setLink_allowance (s : State) (x : Link) : (s.setLink x).allowance = s.allowance := rfl
@[simp] theorem State.setLink_profiles (s : State) (x : Link) : (s.setLink x).profiles = s.profiles := rfl

@[simp] theorem State.setPlan_pending (s : State) (x : Vector PlanRecord 512) : (s.setPlan x).pending = s.pending := rfl
@[simp] theorem State.setPlan_resetHeld (s : State) (x : Vector PlanRecord 512) : (s.setPlan x).resetHeld = s.resetHeld := rfl
@[simp] theorem State.setPlan_draws (s : State) (x : Vector PlanRecord 512) : (s.setPlan x).draws = s.draws := rfl
@[simp] theorem State.setPlan_link (s : State) (x : Vector PlanRecord 512) : (s.setPlan x).link = s.link := rfl
@[simp] theorem State.setPlan_plan (s : State) (x : Vector PlanRecord 512) : (s.setPlan x).plan = x := rfl
@[simp] theorem State.setPlan_cursor (s : State) (x : Vector PlanRecord 512) : (s.setPlan x).cursor = s.cursor := rfl
@[simp] theorem State.setPlan_trunks (s : State) (x : Vector PlanRecord 512) : (s.setPlan x).trunks = s.trunks := rfl
@[simp] theorem State.setPlan_seats (s : State) (x : Vector PlanRecord 512) : (s.setPlan x).seats = s.seats := rfl
@[simp] theorem State.setPlan_queue (s : State) (x : Vector PlanRecord 512) : (s.setPlan x).queue = s.queue := rfl
@[simp] theorem State.setPlan_floor (s : State) (x : Vector PlanRecord 512) : (s.setPlan x).floor = s.floor := rfl
@[simp] theorem State.setPlan_allowance (s : State) (x : Vector PlanRecord 512) : (s.setPlan x).allowance = s.allowance := rfl
@[simp] theorem State.setPlan_profiles (s : State) (x : Vector PlanRecord 512) : (s.setPlan x).profiles = s.profiles := rfl

@[simp] theorem State.setCursor_pending (s : State) (x : Cursor) : (s.setCursor x).pending = s.pending := rfl
@[simp] theorem State.setCursor_resetHeld (s : State) (x : Cursor) : (s.setCursor x).resetHeld = s.resetHeld := rfl
@[simp] theorem State.setCursor_draws (s : State) (x : Cursor) : (s.setCursor x).draws = s.draws := rfl
@[simp] theorem State.setCursor_link (s : State) (x : Cursor) : (s.setCursor x).link = s.link := rfl
@[simp] theorem State.setCursor_plan (s : State) (x : Cursor) : (s.setCursor x).plan = s.plan := rfl
@[simp] theorem State.setCursor_cursor (s : State) (x : Cursor) : (s.setCursor x).cursor = x := rfl
@[simp] theorem State.setCursor_trunks (s : State) (x : Cursor) : (s.setCursor x).trunks = s.trunks := rfl
@[simp] theorem State.setCursor_seats (s : State) (x : Cursor) : (s.setCursor x).seats = s.seats := rfl
@[simp] theorem State.setCursor_queue (s : State) (x : Cursor) : (s.setCursor x).queue = s.queue := rfl
@[simp] theorem State.setCursor_floor (s : State) (x : Cursor) : (s.setCursor x).floor = s.floor := rfl
@[simp] theorem State.setCursor_allowance (s : State) (x : Cursor) : (s.setCursor x).allowance = s.allowance := rfl
@[simp] theorem State.setCursor_profiles (s : State) (x : Cursor) : (s.setCursor x).profiles = s.profiles := rfl

@[simp] theorem State.setTrunks_pending (s : State) (x : Trunks) : (s.setTrunks x).pending = s.pending := rfl
@[simp] theorem State.setTrunks_resetHeld (s : State) (x : Trunks) : (s.setTrunks x).resetHeld = s.resetHeld := rfl
@[simp] theorem State.setTrunks_draws (s : State) (x : Trunks) : (s.setTrunks x).draws = s.draws := rfl
@[simp] theorem State.setTrunks_link (s : State) (x : Trunks) : (s.setTrunks x).link = s.link := rfl
@[simp] theorem State.setTrunks_plan (s : State) (x : Trunks) : (s.setTrunks x).plan = s.plan := rfl
@[simp] theorem State.setTrunks_cursor (s : State) (x : Trunks) : (s.setTrunks x).cursor = s.cursor := rfl
@[simp] theorem State.setTrunks_trunks (s : State) (x : Trunks) : (s.setTrunks x).trunks = x := rfl
@[simp] theorem State.setTrunks_seats (s : State) (x : Trunks) : (s.setTrunks x).seats = s.seats := rfl
@[simp] theorem State.setTrunks_queue (s : State) (x : Trunks) : (s.setTrunks x).queue = s.queue := rfl
@[simp] theorem State.setTrunks_floor (s : State) (x : Trunks) : (s.setTrunks x).floor = s.floor := rfl
@[simp] theorem State.setTrunks_allowance (s : State) (x : Trunks) : (s.setTrunks x).allowance = s.allowance := rfl
@[simp] theorem State.setTrunks_profiles (s : State) (x : Trunks) : (s.setTrunks x).profiles = s.profiles := rfl

@[simp] theorem State.setSeats_pending (s : State) (x : Vector (Option SeatRecord) 512) : (s.setSeats x).pending = s.pending := rfl
@[simp] theorem State.setSeats_resetHeld (s : State) (x : Vector (Option SeatRecord) 512) : (s.setSeats x).resetHeld = s.resetHeld := rfl
@[simp] theorem State.setSeats_draws (s : State) (x : Vector (Option SeatRecord) 512) : (s.setSeats x).draws = s.draws := rfl
@[simp] theorem State.setSeats_link (s : State) (x : Vector (Option SeatRecord) 512) : (s.setSeats x).link = s.link := rfl
@[simp] theorem State.setSeats_plan (s : State) (x : Vector (Option SeatRecord) 512) : (s.setSeats x).plan = s.plan := rfl
@[simp] theorem State.setSeats_cursor (s : State) (x : Vector (Option SeatRecord) 512) : (s.setSeats x).cursor = s.cursor := rfl
@[simp] theorem State.setSeats_trunks (s : State) (x : Vector (Option SeatRecord) 512) : (s.setSeats x).trunks = s.trunks := rfl
@[simp] theorem State.setSeats_seats (s : State) (x : Vector (Option SeatRecord) 512) : (s.setSeats x).seats = x := rfl
@[simp] theorem State.setSeats_queue (s : State) (x : Vector (Option SeatRecord) 512) : (s.setSeats x).queue = s.queue := rfl
@[simp] theorem State.setSeats_floor (s : State) (x : Vector (Option SeatRecord) 512) : (s.setSeats x).floor = s.floor := rfl
@[simp] theorem State.setSeats_allowance (s : State) (x : Vector (Option SeatRecord) 512) : (s.setSeats x).allowance = s.allowance := rfl
@[simp] theorem State.setSeats_profiles (s : State) (x : Vector (Option SeatRecord) 512) : (s.setSeats x).profiles = s.profiles := rfl

@[simp] theorem State.setQueue_pending (s : State) (x : RequestQueue) : (s.setQueue x).pending = s.pending := rfl
@[simp] theorem State.setQueue_resetHeld (s : State) (x : RequestQueue) : (s.setQueue x).resetHeld = s.resetHeld := rfl
@[simp] theorem State.setQueue_draws (s : State) (x : RequestQueue) : (s.setQueue x).draws = s.draws := rfl
@[simp] theorem State.setQueue_link (s : State) (x : RequestQueue) : (s.setQueue x).link = s.link := rfl
@[simp] theorem State.setQueue_plan (s : State) (x : RequestQueue) : (s.setQueue x).plan = s.plan := rfl
@[simp] theorem State.setQueue_cursor (s : State) (x : RequestQueue) : (s.setQueue x).cursor = s.cursor := rfl
@[simp] theorem State.setQueue_trunks (s : State) (x : RequestQueue) : (s.setQueue x).trunks = s.trunks := rfl
@[simp] theorem State.setQueue_seats (s : State) (x : RequestQueue) : (s.setQueue x).seats = s.seats := rfl
@[simp] theorem State.setQueue_queue (s : State) (x : RequestQueue) : (s.setQueue x).queue = x := rfl
@[simp] theorem State.setQueue_floor (s : State) (x : RequestQueue) : (s.setQueue x).floor = s.floor := rfl
@[simp] theorem State.setQueue_allowance (s : State) (x : RequestQueue) : (s.setQueue x).allowance = s.allowance := rfl
@[simp] theorem State.setQueue_profiles (s : State) (x : RequestQueue) : (s.setQueue x).profiles = s.profiles := rfl

@[simp] theorem State.setFloor_pending (s : State) (x : Floor) : (s.setFloor x).pending = s.pending := rfl
@[simp] theorem State.setFloor_resetHeld (s : State) (x : Floor) : (s.setFloor x).resetHeld = s.resetHeld := rfl
@[simp] theorem State.setFloor_draws (s : State) (x : Floor) : (s.setFloor x).draws = s.draws := rfl
@[simp] theorem State.setFloor_link (s : State) (x : Floor) : (s.setFloor x).link = s.link := rfl
@[simp] theorem State.setFloor_plan (s : State) (x : Floor) : (s.setFloor x).plan = s.plan := rfl
@[simp] theorem State.setFloor_cursor (s : State) (x : Floor) : (s.setFloor x).cursor = s.cursor := rfl
@[simp] theorem State.setFloor_trunks (s : State) (x : Floor) : (s.setFloor x).trunks = s.trunks := rfl
@[simp] theorem State.setFloor_seats (s : State) (x : Floor) : (s.setFloor x).seats = s.seats := rfl
@[simp] theorem State.setFloor_queue (s : State) (x : Floor) : (s.setFloor x).queue = s.queue := rfl
@[simp] theorem State.setFloor_floor (s : State) (x : Floor) : (s.setFloor x).floor = x := rfl
@[simp] theorem State.setFloor_allowance (s : State) (x : Floor) : (s.setFloor x).allowance = s.allowance := rfl
@[simp] theorem State.setFloor_profiles (s : State) (x : Floor) : (s.setFloor x).profiles = s.profiles := rfl

@[simp] theorem State.setAllowance_pending (s : State) (x : Allowance) : (s.setAllowance x).pending = s.pending := rfl
@[simp] theorem State.setAllowance_resetHeld (s : State) (x : Allowance) : (s.setAllowance x).resetHeld = s.resetHeld := rfl
@[simp] theorem State.setAllowance_draws (s : State) (x : Allowance) : (s.setAllowance x).draws = s.draws := rfl
@[simp] theorem State.setAllowance_link (s : State) (x : Allowance) : (s.setAllowance x).link = s.link := rfl
@[simp] theorem State.setAllowance_plan (s : State) (x : Allowance) : (s.setAllowance x).plan = s.plan := rfl
@[simp] theorem State.setAllowance_cursor (s : State) (x : Allowance) : (s.setAllowance x).cursor = s.cursor := rfl
@[simp] theorem State.setAllowance_trunks (s : State) (x : Allowance) : (s.setAllowance x).trunks = s.trunks := rfl
@[simp] theorem State.setAllowance_seats (s : State) (x : Allowance) : (s.setAllowance x).seats = s.seats := rfl
@[simp] theorem State.setAllowance_queue (s : State) (x : Allowance) : (s.setAllowance x).queue = s.queue := rfl
@[simp] theorem State.setAllowance_floor (s : State) (x : Allowance) : (s.setAllowance x).floor = s.floor := rfl
@[simp] theorem State.setAllowance_allowance (s : State) (x : Allowance) : (s.setAllowance x).allowance = x := rfl
@[simp] theorem State.setAllowance_profiles (s : State) (x : Allowance) : (s.setAllowance x).profiles = s.profiles := rfl

@[simp] theorem State.setProfiles_pending (s : State) (x : Profiles) : (s.setProfiles x).pending = s.pending := rfl
@[simp] theorem State.setProfiles_resetHeld (s : State) (x : Profiles) : (s.setProfiles x).resetHeld = s.resetHeld := rfl
@[simp] theorem State.setProfiles_draws (s : State) (x : Profiles) : (s.setProfiles x).draws = s.draws := rfl
@[simp] theorem State.setProfiles_link (s : State) (x : Profiles) : (s.setProfiles x).link = s.link := rfl
@[simp] theorem State.setProfiles_plan (s : State) (x : Profiles) : (s.setProfiles x).plan = s.plan := rfl
@[simp] theorem State.setProfiles_cursor (s : State) (x : Profiles) : (s.setProfiles x).cursor = s.cursor := rfl
@[simp] theorem State.setProfiles_trunks (s : State) (x : Profiles) : (s.setProfiles x).trunks = s.trunks := rfl
@[simp] theorem State.setProfiles_seats (s : State) (x : Profiles) : (s.setProfiles x).seats = s.seats := rfl
@[simp] theorem State.setProfiles_queue (s : State) (x : Profiles) : (s.setProfiles x).queue = s.queue := rfl
@[simp] theorem State.setProfiles_floor (s : State) (x : Profiles) : (s.setProfiles x).floor = s.floor := rfl
@[simp] theorem State.setProfiles_allowance (s : State) (x : Profiles) : (s.setProfiles x).allowance = s.allowance := rfl
@[simp] theorem State.setProfiles_profiles (s : State) (x : Profiles) : (s.setProfiles x).profiles = x := rfl

@[simp] theorem State.setPending_pending (s : State) (x : List Instr) : (s.setPending x).pending = x := rfl
@[simp] theorem State.setPending_resetHeld (s : State) (x : List Instr) : (s.setPending x).resetHeld = s.resetHeld := rfl
@[simp] theorem State.setPending_draws (s : State) (x : List Instr) : (s.setPending x).draws = s.draws := rfl
@[simp] theorem State.setPending_link (s : State) (x : List Instr) : (s.setPending x).link = s.link := rfl
@[simp] theorem State.setPending_plan (s : State) (x : List Instr) : (s.setPending x).plan = s.plan := rfl
@[simp] theorem State.setPending_cursor (s : State) (x : List Instr) : (s.setPending x).cursor = s.cursor := rfl
@[simp] theorem State.setPending_trunks (s : State) (x : List Instr) : (s.setPending x).trunks = s.trunks := rfl
@[simp] theorem State.setPending_seats (s : State) (x : List Instr) : (s.setPending x).seats = s.seats := rfl
@[simp] theorem State.setPending_queue (s : State) (x : List Instr) : (s.setPending x).queue = s.queue := rfl
@[simp] theorem State.setPending_floor (s : State) (x : List Instr) : (s.setPending x).floor = s.floor := rfl
@[simp] theorem State.setPending_allowance (s : State) (x : List Instr) : (s.setPending x).allowance = s.allowance := rfl
@[simp] theorem State.setPending_profiles (s : State) (x : List Instr) : (s.setPending x).profiles = s.profiles := rfl

@[simp] theorem State.setDraws_pending (s : State) (x : Nat) : (s.setDraws x).pending = s.pending := rfl
@[simp] theorem State.setDraws_resetHeld (s : State) (x : Nat) : (s.setDraws x).resetHeld = s.resetHeld := rfl
@[simp] theorem State.setDraws_draws (s : State) (x : Nat) : (s.setDraws x).draws = x := rfl
@[simp] theorem State.setDraws_link (s : State) (x : Nat) : (s.setDraws x).link = s.link := rfl
@[simp] theorem State.setDraws_plan (s : State) (x : Nat) : (s.setDraws x).plan = s.plan := rfl
@[simp] theorem State.setDraws_cursor (s : State) (x : Nat) : (s.setDraws x).cursor = s.cursor := rfl
@[simp] theorem State.setDraws_trunks (s : State) (x : Nat) : (s.setDraws x).trunks = s.trunks := rfl
@[simp] theorem State.setDraws_seats (s : State) (x : Nat) : (s.setDraws x).seats = s.seats := rfl
@[simp] theorem State.setDraws_queue (s : State) (x : Nat) : (s.setDraws x).queue = s.queue := rfl
@[simp] theorem State.setDraws_floor (s : State) (x : Nat) : (s.setDraws x).floor = s.floor := rfl
@[simp] theorem State.setDraws_allowance (s : State) (x : Nat) : (s.setDraws x).allowance = s.allowance := rfl
@[simp] theorem State.setDraws_profiles (s : State) (x : Nat) : (s.setDraws x).profiles = s.profiles := rfl

end Sys2Proof.Machine
end

