-- ==== Sys2Proof/Laws/Tables.lean ====
section
/-! SUPPORT. Reading a table after one place was rewritten, and folding an update over a list. -/

namespace Sys2Proof.Machine

/-- The place rewritten reads as written, its index as a number. -/
@[simp] theorem put_getElem_val {α : Type} {n : Nat} (v : Vector α n) (i : Fin n) (x : α) : (put v i x)[i.val] = x := by
  simp [put]

/-- The place rewritten reads as written. -/
theorem put_getElem_self {α : Type} {n : Nat} (v : Vector α n) (i : Fin n) (x : α) : (put v i x)[i] = x := by
  simp

/-- Every other place reads as before. -/
theorem put_getElem_ne {α : Type} {n : Nat} (v : Vector α n) {i j : Fin n} (x : α) (h : j ≠ i) :
    (put v i x)[j] = v[j] := by
  have h' : i.val ≠ j.val := fun e => h (Fin.ext e.symm)
  simp [put, Vector.getElem_set_ne, h']

/-- A place of a rewritten table, by whether it is the one rewritten. -/
theorem put_getElem {α : Type} {n : Nat} (v : Vector α n) (i j : Fin n) (x : α) :
    (put v i x)[j] = if j = i then x else v[j] := by
  split
  · next h => subst h; exact put_getElem_self v j x
  · next h => exact put_getElem_ne v x h

/-- Writing what a place holds changes nothing. -/
@[simp] theorem put_self {α : Type} {n : Nat} (v : Vector α n) (i : Fin n) : put v i v[i] = v := by
  simp [put]

/-- What each step of a fold leaves as it was, the fold leaves as it was. -/
theorem foldl_keeps {σ α β : Type} (f : σ → β) (g : σ → α → σ) (h : ∀ s a, f (g s a) = f s) (l : List α) (s : σ) :
    f (l.foldl g s) = f s := by
  induction l generalizing s with
  | nil => rfl
  | cons a l ih => rw [List.foldl_cons, ih, h]

/-- What each step of a fold keeps, the fold keeps. -/
theorem foldl_inv {σ α : Type} (P : σ → Prop) (g : σ → α → σ) (h : ∀ s a, P s → P (g s a)) (l : List α) (s : σ)
    (hs : P s) : P (l.foldl g s) := by
  induction l generalizing s with
  | nil => exact hs
  | cons a l ih => exact ih _ (h _ _ hs)

end Sys2Proof.Machine
end

