-- ==== Sys2Proof/Laws/Frames.lean ====
section
/-! SUPPORT. What each shared operation leaves as it was. `Keeps s t` lists the parts of the state that no operation of the
floor, the queue or the trunks touches; each operation has one frame lemma, and simp reads it field by field. -/

namespace Sys2Proof.Machine

/-- The waiting commands, the RESET level, the draw counter, the plan, the cursor, the accounts and the profiles are as
they were. -/
abbrev Keeps (s t : State) : Prop :=
  t.pending = s.pending ∧ t.resetHeld = s.resetHeld ∧ t.draws = s.draws ∧ t.plan = s.plan ∧ t.cursor = s.cursor ∧
    t.allowance = s.allowance ∧ t.profiles = s.profiles

/-- `Keeps`, and the trunk units. -/
abbrev KeepsTrunks (s t : State) : Prop := Keeps s t ∧ t.trunks = s.trunks

/-! ### The order unit -/

@[simp] theorem post_keeps (b : NoticeBody) (s : State) :
    KeepsTrunks s (post b s) ∧ (post b s).seats = s.seats ∧ (post b s).queue = s.queue ∧ (post b s).floor = s.floor := by simp [post, Keeps, KeepsTrunks]

@[simp] theorem noteOwners_keeps (o : OwnerBits) (s : State) :
    KeepsTrunks s (noteOwners o s) ∧ (noteOwners o s).seats = s.seats ∧ (noteOwners o s).queue = s.queue ∧ (noteOwners o s).floor = s.floor := by
  unfold noteOwners; (repeat' split) <;> simp [Keeps, KeepsTrunks]

@[simp] theorem setEntries_keeps (es : List QueueEntry) (s : State) :
    KeepsTrunks s (setEntries es s) ∧ (setEntries es s).seats = s.seats ∧ (setEntries es s).floor = s.floor := by simp [setEntries, Keeps, KeepsTrunks]

@[simp] theorem setList_keeps (l : ListState) (n : Option Nat) (s : State) :
    KeepsTrunks s (setList l n s) ∧ (setList l n s).seats = s.seats ∧ (setList l n s).floor = s.floor := by simp [setList, Keeps, KeepsTrunks]

@[simp] theorem setBlocked_keeps (b : List BlockedEntry) (s : State) :
    Keeps s (setBlocked b s) ∧ (setBlocked b s).seats = s.seats ∧ (setBlocked b s).queue = s.queue ∧ (setBlocked b s).floor = s.floor := by simp [setBlocked, Keeps]

@[simp] theorem setChairs_keeps (c : List ChairRecord) (s : State) :
    KeepsTrunks s (setChairs c s) ∧ (setChairs c s).seats = s.seats ∧ (setChairs c s).queue = s.queue := by simp [setChairs, Keeps, KeepsTrunks]

@[simp] theorem restartBlanking_keeps (seat : Seat) (s : State) :
    KeepsTrunks s (restartBlanking seat s) ∧ (restartBlanking seat s).link = s.link ∧ (restartBlanking seat s).queue = s.queue ∧ (restartBlanking seat s).floor = s.floor := by
  unfold restartBlanking; (repeat' split) <;> simp [Keeps, KeepsTrunks]

/-! ### The queue -/

@[simp] theorem takeOut_keeps (seat : Seat) (r : LeaveReason) (s : State) :
    KeepsTrunks s (takeOut seat r s) ∧ (takeOut seat r s).seats = s.seats ∧ (takeOut seat r s).floor = s.floor := by
  unfold takeOut; (repeat' split) <;> simp [Keeps, KeepsTrunks]

@[simp] theorem skipEntry_keeps (s : State) (e : QueueEntry) :
    KeepsTrunks s (skipEntry s e) ∧ (skipEntry s e).seats = s.seats ∧ (skipEntry s e).floor = s.floor := by simp [skipEntry, Keeps, KeepsTrunks]

@[simp] theorem endDrain_keeps (s : State) :
    KeepsTrunks s (endDrain s) ∧ (endDrain s).seats = s.seats ∧ (endDrain s).floor = s.floor := by
  simp [endDrain, Keeps, KeepsTrunks,
    foldl_keeps State.pending skipEntry (by simp), foldl_keeps State.resetHeld skipEntry (by simp), foldl_keeps State.draws skipEntry (by simp), foldl_keeps State.plan skipEntry (by simp), foldl_keeps State.cursor skipEntry (by simp), foldl_keeps State.allowance skipEntry (by simp), foldl_keeps State.profiles skipEntry (by simp), foldl_keeps State.trunks skipEntry (by simp), foldl_keeps State.seats skipEntry (by simp), foldl_keeps State.floor skipEntry (by simp)]

@[simp] theorem drainEndTest_keeps (s : State) :
    KeepsTrunks s (drainEndTest s) ∧ (drainEndTest s).seats = s.seats ∧ (drainEndTest s).floor = s.floor := by
  unfold drainEndTest; (repeat' split) <;> simp [Keeps, KeepsTrunks]

@[simp] theorem leaveQueue_keeps (seat : Seat) (r : LeaveReason) (s : State) :
    KeepsTrunks s (leaveQueue seat r s) ∧ (leaveQueue seat r s).seats = s.seats ∧ (leaveQueue seat r s).floor = s.floor := by
  unfold leaveQueue; (repeat' split) <;> simp [Keeps, KeepsTrunks]

/-! ### The opening path, the advance check and the close path -/

@[simp] theorem occupy_keeps (n : SlotNo) (rest : List SlotNo) (seat : Seat) (o : Origin) (g : Bool) (s : State) :
    KeepsTrunks s (occupy n rest seat o g s) ∧ (occupy n rest seat o g s).queue = s.queue := by simp [occupy, Keeps, KeepsTrunks]

@[simp] theorem openSlot_keeps (seat : Seat) (o : Origin) (g : Bool) (s : State) :
    KeepsTrunks s (openSlot seat o g s) := by
  unfold openSlot; (repeat' split) <;> simp [Keeps, KeepsTrunks]

@[simp] theorem advance_keeps (k : Nat) (s : State) :
    KeepsTrunks s (advance k s) := by
  induction k generalizing s with
  | zero => simp [advance, Keeps, KeepsTrunks]
  | succ k ih => unfold advance; (repeat' split) <;> simp [ih, Keeps, KeepsTrunks]

@[simp] theorem advanceCheck_keeps (s : State) :
    KeepsTrunks s (advanceCheck s) := by simp [advanceCheck, Keeps, KeepsTrunks]

@[simp] theorem tellClose_keeps (seat : Seat) (s : State) :
    KeepsTrunks s (tellClose seat s) ∧ (tellClose seat s).seats = s.seats ∧ (tellClose seat s).floor = s.floor := by simp [tellClose, Keeps, KeepsTrunks]

@[simp] theorem closeSlot_keeps (n : SlotNo) (r : CloseReason) (s : State) :
    KeepsTrunks s (closeSlot n r s) ∧ (closeSlot n r s).seats = s.seats := by
  unfold closeSlot; (repeat' split) <;> simp [Keeps, KeepsTrunks]

@[simp] theorem closeSeatQuiet_keeps (seat : Seat) (r : CloseReason) (s : State) :
    KeepsTrunks s (closeSeatQuiet seat r s) ∧ (closeSeatQuiet seat r s).seats = s.seats := by
  unfold closeSeatQuiet; (repeat' split) <;> simp [Keeps, KeepsTrunks]

@[simp] theorem closeSeat_keeps (seat : Seat) (r : CloseReason) (s : State) :
    KeepsTrunks s (closeSeat seat r s) := by
  unfold closeSeat; (repeat' split) <;> simp [Keeps, KeepsTrunks]

@[simp] theorem closeGroup_keeps (ns : List SlotNo) (r : CloseReason) (s : State) :
    KeepsTrunks s (closeGroup ns r s) ∧ (closeGroup ns r s).seats = s.seats := by
  simp [closeGroup, Keeps, KeepsTrunks,
    foldl_keeps State.pending (fun s n => closeSlot n r s) (by simp), foldl_keeps State.resetHeld (fun s n => closeSlot n r s) (by simp), foldl_keeps State.draws (fun s n => closeSlot n r s) (by simp), foldl_keeps State.plan (fun s n => closeSlot n r s) (by simp), foldl_keeps State.cursor (fun s n => closeSlot n r s) (by simp), foldl_keeps State.allowance (fun s n => closeSlot n r s) (by simp), foldl_keeps State.profiles (fun s n => closeSlot n r s) (by simp), foldl_keeps State.trunks (fun s n => closeSlot n r s) (by simp), foldl_keeps State.seats (fun s n => closeSlot n r s) (by simp)]

/-! ### Bindings and requests to join -/

@[simp] theorem dropBindings_keeps (seat : Seat) (d : Bool) (s : State) :
    KeepsTrunks s (dropBindings seat d s) := by
  unfold dropBindings; dsimp only; (repeat' split) <;> simp [Keeps, KeepsTrunks]

@[simp] theorem enterQueue_keeps (e : QueueEntry) (b : Bool) (s : State) :
    KeepsTrunks s (enterQueue e b s) := by
  unfold enterQueue; dsimp only; (repeat' split) <;> simp [Keeps, KeepsTrunks]

@[simp] theorem showRefused_keeps (seat : Seat) (s : State) :
    Keeps s (showRefused seat s) ∧ (showRefused seat s).link = s.link ∧ (showRefused seat s).seats = s.seats ∧ (showRefused seat s).queue = s.queue ∧ (showRefused seat s).floor = s.floor := by
  unfold showRefused; (repeat' split) <;> simp [Keeps]

@[simp] theorem refuse_keeps (seat : Seat) (e : SeatEvent) (c : RefusalCause) (s : State) :
    Keeps s (refuse seat e c s) ∧ (refuse seat e c s).seats = s.seats ∧ (refuse seat e c s).queue = s.queue ∧ (refuse seat e c s).floor = s.floor := by simp [refuse, Keeps]

@[simp] theorem enqueuePress_keeps (seat : Seat) (k : EntryKind) (e : SeatEvent) (s : State) :
    Keeps s (enqueuePress seat k e s) := by
  unfold enqueuePress; dsimp only; (repeat' split) <;> simp [Keeps]

/-! ### Chair microphones and the priority hold -/

@[simp] theorem openChair_keeps (seat : Seat) (s : State) :
    KeepsTrunks s (openChair seat s) ∧ (openChair seat s).queue = s.queue := by simp [openChair, Keeps, KeepsTrunks]

@[simp] theorem closeChair_keeps (seat : Seat) (s : State) :
    KeepsTrunks s (closeChair seat s) ∧ (closeChair seat s).seats = s.seats ∧ (closeChair seat s).queue = s.queue := by simp [closeChair, Keeps, KeepsTrunks]

@[simp] theorem holdChair_keeps (s : State) (seat : Seat) :
    KeepsTrunks s (holdChair s seat) ∧ (holdChair s seat).queue = s.queue := by
  unfold holdChair; dsimp only; (repeat' split) <;> simp [Keeps, KeepsTrunks]

@[simp] theorem releaseChair_keeps (s : State) (seat : Seat) :
    KeepsTrunks s (releaseChair s seat) ∧ (releaseChair s seat).queue = s.queue := by
  unfold releaseChair; (repeat' split) <;> simp [Keeps, KeepsTrunks]

@[simp] theorem muteSlot_keeps (s : State) (n : SlotNo) :
    KeepsTrunks s (muteSlot s n) ∧ (muteSlot s n).link = s.link ∧ (muteSlot s n).seats = s.seats ∧ (muteSlot s n).queue = s.queue := by simp [muteSlot, Keeps, KeepsTrunks]

@[simp] theorem unmuteSlot_keeps (s : State) (n : SlotNo) :
    KeepsTrunks s (unmuteSlot s n) ∧ (unmuteSlot s n).link = s.link ∧ (unmuteSlot s n).queue = s.queue := by
  unfold unmuteSlot; (repeat' split) <;> simp [Keeps, KeepsTrunks]

@[simp] theorem closeForHold_keeps (s : State) (n : SlotNo) :
    KeepsTrunks s (closeForHold s n) := by simp [closeForHold, Keeps, KeepsTrunks]

@[simp] theorem startHold_keeps (seat : Seat) (s : State) :
    KeepsTrunks s (startHold seat s) := by
  cases h : (inForce (post (.priorityOn seat) s)).priorityAction <;> simp [startHold, h, Keeps, KeepsTrunks,
    foldl_keeps State.pending holdChair (by simp), foldl_keeps State.resetHeld holdChair (by simp), foldl_keeps State.draws holdChair (by simp), foldl_keeps State.plan holdChair (by simp), foldl_keeps State.cursor holdChair (by simp), foldl_keeps State.allowance holdChair (by simp), foldl_keeps State.profiles holdChair (by simp), foldl_keeps State.trunks holdChair (by simp),
    foldl_keeps State.pending muteSlot (by simp), foldl_keeps State.resetHeld muteSlot (by simp), foldl_keeps State.draws muteSlot (by simp), foldl_keeps State.plan muteSlot (by simp), foldl_keeps State.cursor muteSlot (by simp), foldl_keeps State.allowance muteSlot (by simp), foldl_keeps State.profiles muteSlot (by simp), foldl_keeps State.trunks muteSlot (by simp),
    foldl_keeps State.pending closeForHold (by simp), foldl_keeps State.resetHeld closeForHold (by simp), foldl_keeps State.draws closeForHold (by simp), foldl_keeps State.plan closeForHold (by simp), foldl_keeps State.cursor closeForHold (by simp), foldl_keeps State.allowance closeForHold (by simp), foldl_keeps State.profiles closeForHold (by simp), foldl_keeps State.trunks closeForHold (by simp)]

@[simp] theorem endHold_keeps (seat : Seat) (s : State) :
    KeepsTrunks s (endHold seat s) := by
  simp [endHold, Keeps, KeepsTrunks,
    foldl_keeps State.pending releaseChair (by simp), foldl_keeps State.pending unmuteSlot (by simp), foldl_keeps State.resetHeld releaseChair (by simp), foldl_keeps State.resetHeld unmuteSlot (by simp), foldl_keeps State.draws releaseChair (by simp), foldl_keeps State.draws unmuteSlot (by simp), foldl_keeps State.plan releaseChair (by simp), foldl_keeps State.plan unmuteSlot (by simp), foldl_keeps State.cursor releaseChair (by simp), foldl_keeps State.cursor unmuteSlot (by simp), foldl_keeps State.allowance releaseChair (by simp), foldl_keeps State.allowance unmuteSlot (by simp), foldl_keeps State.profiles releaseChair (by simp), foldl_keeps State.profiles unmuteSlot (by simp), foldl_keeps State.trunks releaseChair (by simp), foldl_keeps State.trunks unmuteSlot (by simp)]

@[simp] theorem setHeld_keeps (seat : Seat) (b : Bool) (s : State) :
    KeepsTrunks s (setHeld seat b s) ∧ (setHeld seat b s).seats = s.seats ∧ (setHeld seat b s).queue = s.queue := by simp [setHeld, Keeps, KeepsTrunks]

@[simp] theorem lowerHold_keeps (seat : Seat) (s : State) :
    KeepsTrunks s (lowerHold seat s) := by
  unfold lowerHold; dsimp only; (repeat' split) <;> simp [Keeps, KeepsTrunks]

@[simp] theorem raiseHold_keeps (seat : Seat) (s : State) :
    KeepsTrunks s (raiseHold seat s) := by
  unfold raiseHold; dsimp only; (repeat' split) <;> simp [Keeps, KeepsTrunks]

@[simp] theorem withdrawChair_keeps (seat : Seat) (s : State) :
    KeepsTrunks s (withdrawChair seat s) := by
  unfold withdrawChair; dsimp only; (repeat' split) <;> simp [Keeps, KeepsTrunks]

@[simp] theorem setLocked_keeps (seat : Seat) (b : Bool) (s : State) :
    KeepsTrunks s (setLocked seat b s) ∧ (setLocked seat b s).link = s.link ∧ (setLocked seat b s).seats = s.seats ∧ (setLocked seat b s).queue = s.queue := by simp [setLocked, Keeps, KeepsTrunks]

@[simp] theorem reduce_keeps (k : Nat) (s : State) :
    KeepsTrunks s (reduce k s) ∧ (reduce k s).seats = s.seats := by
  induction k generalizing s with
  | zero => simp [reduce, Keeps, KeepsTrunks]
  | succ k ih => unfold reduce; (repeat' split) <;> simp [ih, Keeps, KeepsTrunks]

@[simp] theorem reduceFloor_keeps (s : State) :
    KeepsTrunks s (reduceFloor s) := by simp [reduceFloor, Keeps, KeepsTrunks]

end Sys2Proof.Machine
end

