-- ==== Sys2Proof/Laws/SeatFrames.lean ====
section
/-! SUPPORT. What the seat events, the seat input unit and speech timing leave as they were. -/

namespace Sys2Proof.Machine

/-! ### Seat events at the allocator -/

@[simp] theorem queueOrRefuse_keeps (seat : Seat) (s : State) :
    Keeps s (queueOrRefuse seat s) := by
  unfold queueOrRefuse; (repeat' split) <;> simp [Keeps]

@[simp] theorem requestOpen_keeps (seat : Seat) (s : State) :
    Keeps s (requestOpen seat s) := by
  unfold requestOpen; (repeat' split) <;> simp [Keeps]

@[simp] theorem replaceSpeaker_keeps (n : SlotNo) (seat : Seat) (s : State) :
    KeepsTrunks s (replaceSpeaker n seat s) := by simp [replaceSpeaker, Keeps, KeepsTrunks]

@[simp] theorem requestOverride_keeps (seat : Seat) (s : State) :
    Keeps s (requestOverride seat s) := by
  unfold requestOverride; (repeat' split) <;> simp [Keeps]

@[simp] theorem shortPress_keeps (seat : Seat) (s : State) :
    Keeps s (shortPress seat s) := by
  unfold shortPress; (repeat' split) <;> simp [Keeps]

@[simp] theorem promote_keeps (seat : Seat) (s : State) :
    KeepsTrunks s (promote seat s) ∧ (promote seat s).seats = s.seats ∧ (promote seat s).floor = s.floor := by
  unfold promote; dsimp only; (repeat' split) <;> simp [Keeps, KeepsTrunks]

@[simp] theorem longPress_keeps (seat : Seat) (s : State) :
    Keeps s (longPress seat s) := by
  unfold longPress; (repeat' split) <;> simp [Keeps]

@[simp] theorem voiceStartEvent_keeps (seat : Seat) (s : State) :
    KeepsTrunks s (voiceStartEvent seat s) := by
  unfold voiceStartEvent; (repeat' split) <;> simp [Keeps, KeepsTrunks]

@[simp] theorem silenceEvent_keeps (seat : Seat) (s : State) :
    KeepsTrunks s (silenceEvent seat s) := by
  unfold silenceEvent; (repeat' split) <;> simp [Keeps, KeepsTrunks]

@[simp] theorem talk_keeps (seat : Seat) (s : State) :
    Keeps s (talk seat s) := by
  unfold talk; (repeat' split) <;> simp [Keeps]

@[simp] theorem chairNext_keeps (seat : Seat) (s : State) :
    Keeps s (chairNext seat s) := by
  unfold chairNext; (repeat' split) <;> simp [Keeps]

@[simp] theorem howlSlot_keeps (seat : Seat) (s : State) :
    KeepsTrunks s (howlSlot seat s) := by
  unfold howlSlot; (repeat' split) <;> simp [Keeps, KeepsTrunks]

@[simp] theorem howlChair_keeps (seat : Seat) (s : State) :
    KeepsTrunks s (howlChair seat s) := by
  unfold howlChair; dsimp only; (repeat' split) <;> simp [Keeps, KeepsTrunks]

@[simp] theorem howlEvent_keeps (seat : Seat) (s : State) :
    KeepsTrunks s (howlEvent seat s) := by
  unfold howlEvent; (repeat' split) <;> simp [Keeps, KeepsTrunks]

@[simp] theorem howlClearSlot_keeps (seat : Seat) (s : State) :
    KeepsTrunks s (howlClearSlot seat s) ∧ (howlClearSlot seat s).queue = s.queue := by
  unfold howlClearSlot; (repeat' split) <;> simp [Keeps, KeepsTrunks]

@[simp] theorem howlClearChair_keeps (seat : Seat) (s : State) :
    KeepsTrunks s (howlClearChair seat s) ∧ (howlClearChair seat s).queue = s.queue := by
  unfold howlClearChair; (repeat' split) <;> simp [Keeps, KeepsTrunks]

@[simp] theorem howlClearEvent_keeps (seat : Seat) (s : State) :
    KeepsTrunks s (howlClearEvent seat s) ∧ (howlClearEvent seat s).queue = s.queue := by
  unfold howlClearEvent; (repeat' split) <;> simp [Keeps, KeepsTrunks]

/-! ### Speech timing -/

@[simp] theorem warnSlot_keeps (n : SlotNo) (sl : Slot) (s : State) :
    KeepsTrunks s (warnSlot n sl s) ∧ (warnSlot n sl s).seats = s.seats ∧ (warnSlot n sl s).queue = s.queue := by
  unfold warnSlot; (repeat' split) <;> simp [Keeps, KeepsTrunks]

@[simp] theorem timeSlot_keeps (s : State) (n : SlotNo) :
    KeepsTrunks s (timeSlot s n) ∧ (timeSlot s n).seats = s.seats := by
  unfold timeSlot; dsimp only; (repeat' split) <;> simp [Keeps, KeepsTrunks]

/-! ### The seat input unit -/

@[simp] theorem mapSeat_keeps (seat : Seat) (g : SeatRecord → SeatRecord) (s : State) :
    KeepsTrunks s (mapSeat seat g s) ∧ (mapSeat seat g s).link = s.link ∧ (mapSeat seat g s).queue = s.queue ∧ (mapSeat seat g s).floor = s.floor := by simp [mapSeat, Keeps, KeepsTrunks]

@[simp] theorem forgetSeat_keeps (seat : Seat) (s : State) :
    KeepsTrunks s (forgetSeat seat s) ∧ (forgetSeat seat s).link = s.link ∧ (forgetSeat seat s).queue = s.queue ∧ (forgetSeat seat s).floor = s.floor := by simp [forgetSeat, Keeps, KeepsTrunks]

@[simp] theorem takeRequest_keeps (seat : Seat) (d : Bool) (s : State) :
    Keeps s (takeRequest seat d s) := by
  unfold takeRequest; dsimp only; (repeat' split) <;> simp [Keeps]

@[simp] theorem takePriority_keeps (seat : Seat) (d : Bool) (s : State) :
    KeepsTrunks s (takePriority seat d s) := by
  unfold takePriority; dsimp only; (repeat' split) <;> simp [Keeps, KeepsTrunks]

@[simp] theorem takeTalk_keeps (seat : Seat) (d : Bool) (s : State) :
    Keeps s (takeTalk seat d s) := by
  unfold takeTalk; dsimp only; (repeat' split) <;> simp [Keeps]

@[simp] theorem takeNext_keeps (seat : Seat) (d : Bool) (s : State) :
    Keeps s (takeNext seat d s) := by
  unfold takeNext; dsimp only; (repeat' split) <;> simp [Keeps]

@[simp] theorem takeButtons_keeps (seat : Seat) (b : Buttons) (s : State) :
    Keeps s (takeButtons seat b s) := by
  unfold takeButtons; (repeat' split) <;> simp [Keeps]

@[simp] theorem becomeVoiced_keeps (seat : Seat) (s : State) :
    KeepsTrunks s (becomeVoiced seat s) := by
  unfold becomeVoiced; dsimp only; (repeat' split) <;> simp [Keeps, KeepsTrunks]

@[simp] theorem becomeQuiet_keeps (seat : Seat) (s : State) :
    KeepsTrunks s (becomeQuiet seat s) := by
  unfold becomeQuiet; dsimp only; (repeat' split) <;> simp [Keeps, KeepsTrunks]

@[simp] theorem takeVoice_keeps (seat : Seat) (level : Nat) (s : State) :
    KeepsTrunks s (takeVoice seat level s) := by
  unfold takeVoice; (repeat' split) <;> simp [Keeps, KeepsTrunks]

@[simp] theorem raiseHowl_keeps (seat : Seat) (s : State) :
    KeepsTrunks s (raiseHowl seat s) := by
  unfold raiseHowl; dsimp only; (repeat' split) <;> simp [Keeps, KeepsTrunks]

@[simp] theorem raiseHowlClear_keeps (seat : Seat) (s : State) :
    KeepsTrunks s (raiseHowlClear seat s) := by
  unfold raiseHowlClear; dsimp only; (repeat' split) <;> simp [Keeps, KeepsTrunks]

@[simp] theorem takeLive_keeps (seat : Seat) (r : SeatRecord) (level : Nat) (s : State) :
    KeepsTrunks s (takeLive seat r level s) := by
  unfold takeLive; (repeat' split) <;> simp [Keeps, KeepsTrunks]

@[simp] theorem takeLockedSoft_keeps (seat : Seat) (r : SeatRecord) (level : Nat) (s : State) :
    KeepsTrunks s (takeLockedSoft seat r level s) := by
  unfold takeLockedSoft; (repeat' split) <;> simp [Keeps, KeepsTrunks]

@[simp] theorem takeHowl_keeps (seat : Seat) (level : Nat) (s : State) :
    KeepsTrunks s (takeHowl seat level s) := by
  unfold takeHowl; dsimp only; (repeat' split) <;> simp [Keeps, KeepsTrunks]

@[simp] theorem beginSeat_keeps (seat : Seat) (b : Buttons) (s : State) :
    KeepsTrunks s (beginSeat seat b s) ∧ (beginSeat seat b s).link = s.link ∧ (beginSeat seat b s).queue = s.queue ∧ (beginSeat seat b s).floor = s.floor := by
  unfold beginSeat; (repeat' split) <;> simp [Keeps, KeepsTrunks]

@[simp] theorem takeReport_keeps (seat : Seat) (b : Buttons) (level : Nat) (s : State) :
    Keeps s (takeReport seat b level s) := by simp [takeReport, Keeps]

@[simp] theorem quietSeat_keeps (s : State) (seat : Seat) :
    KeepsTrunks s (quietSeat s seat) := by
  unfold quietSeat; (repeat' split) <;> simp [Keeps, KeepsTrunks]

end Sys2Proof.Machine
end

