-- ==== Sys2Proof/Laws/TrunkFrames.lean ====
section
/-! SUPPORT. What the operations of the trunk units and of the seat plan leave as they were. -/

namespace Sys2Proof.Machine

/-! ### Tables, polls and checks -/

@[simp] theorem mapTrunk_keeps (w : Wing) (g : Trunk → Trunk) (s : State) :
    Keeps s (mapTrunk w g s) ∧ (mapTrunk w g s).link = s.link ∧ (mapTrunk w g s).seats = s.seats ∧ (mapTrunk w g s).queue = s.queue ∧ (mapTrunk w g s).floor = s.floor := by simp [mapTrunk, Keeps]

@[simp] theorem setEntry_keeps (p : Place) (e : Option ChainEntry) (s : State) :
    Keeps s (setEntry p e s) ∧ (setEntry p e s).link = s.link ∧ (setEntry p e s).seats = s.seats ∧ (setEntry p e s).queue = s.queue ∧ (setEntry p e s).floor = s.floor := by simp [setEntry, Keeps]

@[simp] theorem endPoll_keeps (w : Wing) (s : State) :
    Keeps s (endPoll w s) ∧ (endPoll w s).link = s.link ∧ (endPoll w s).seats = s.seats ∧ (endPoll w s).queue = s.queue ∧ (endPoll w s).floor = s.floor := by simp [endPoll, Keeps]

@[simp] theorem endPollAt_keeps (p : Place) (s : State) :
    Keeps s (endPollAt p s) ∧ (endPollAt p s).link = s.link ∧ (endPollAt p s).seats = s.seats ∧ (endPollAt p s).queue = s.queue ∧ (endPollAt p s).floor = s.floor := by
  unfold endPollAt; (repeat' split) <;> simp [Keeps]

@[simp] theorem sendPoll_keeps (w : Wing) (s : State) :
    Keeps s (sendPoll w s) ∧ (sendPoll w s).link = s.link ∧ (sendPoll w s).seats = s.seats ∧ (sendPoll w s).queue = s.queue ∧ (sendPoll w s).floor = s.floor := by
  unfold sendPoll; dsimp only; (repeat' split) <;> simp [Keeps]

@[simp] theorem becomeReady_keeps (p : Place) (e : ChainEntry) (seat : Seat) (s : State) :
    Keeps s (becomeReady p e seat s) ∧ (becomeReady p e seat s).seats = s.seats ∧ (becomeReady p e seat s).queue = s.queue ∧ (becomeReady p e seat s).floor = s.floor := by simp [becomeReady, Keeps]

@[simp] theorem becomeBlocked_keeps (p : Place) (e : ChainEntry) (k : BlockKind) (s : State) :
    Keeps s (becomeBlocked p e k s) ∧ (becomeBlocked p e k s).seats = s.seats ∧ (becomeBlocked p e k s).queue = s.queue ∧ (becomeBlocked p e k s).floor = s.floor := by simp [becomeBlocked, Keeps]

@[simp] theorem settleUnit_keeps (p : Place) (e : ChainEntry) (s : State) :
    Keeps s (settleUnit p e s) ∧ (settleUnit p e s).seats = s.seats ∧ (settleUnit p e s).queue = s.queue ∧ (settleUnit p e s).floor = s.floor := by
  unfold settleUnit; (repeat' split) <;> simp [Keeps]

@[simp] theorem leaveBlocked_keeps (p : Place) (s : State) :
    Keeps s (leaveBlocked p s) ∧ (leaveBlocked p s).seats = s.seats ∧ (leaveBlocked p s).queue = s.queue ∧ (leaveBlocked p s).floor = s.floor := by simp [leaveBlocked, Keeps]

/-! ### Leaving a binding, loss and re-check -/

@[simp] theorem leaveSeat_keeps (seat : Seat) (c : CloseReason) (l : LeaveReason) (s : State) :
    Keeps s (leaveSeat seat c l s) := by
  unfold leaveSeat; dsimp only; (repeat' split) <;> simp [Keeps]

@[simp] theorem deferredAdvance_keeps (b : Bool) (s : State) :
    KeepsTrunks s (deferredAdvance b s) := by
  unfold deferredAdvance; (repeat' split) <;> simp [Keeps, KeepsTrunks]

@[simp] theorem loseEffects_keeps (p : Place) (e : ChainEntry) (s : State) :
    Keeps s (loseEffects p e s) := by
  unfold loseEffects; (repeat' split) <;> simp [Keeps]

@[simp] theorem failAssignment_keeps (p : Place) (c : AssignFailure) (s : State) :
    Keeps s (failAssignment p c s) ∧ (failAssignment p c s).seats = s.seats ∧ (failAssignment p c s).queue = s.queue ∧ (failAssignment p c s).floor = s.floor := by
  unfold failAssignment; (repeat' split) <;> simp [Keeps]

@[simp] theorem loseUnit_keeps (p : Place) (s : State) :
    Keeps s (loseUnit p s) := by
  unfold loseUnit; (repeat' split) <;> simp [Keeps]

@[simp] theorem recheckBound_keeps (seat : Seat) (s : State) :
    Keeps s (recheckBound seat s) := by
  unfold recheckBound; dsimp only; (repeat' split) <;> simp [Keeps]

@[simp] theorem recheckBlocked_keeps (s : State) (b : BlockedEntry) :
    Keeps s (recheckBlocked s b) ∧ (recheckBlocked s b).seats = s.seats ∧ (recheckBlocked s b).queue = s.queue ∧ (recheckBlocked s b).floor = s.floor := by
  unfold recheckBlocked; dsimp only; (repeat' split) <;> simp [Keeps]

@[simp] theorem recheckSeat_keeps (seat : Seat) (s : State) :
    Keeps s (recheckSeat seat s) := by
  simp [recheckSeat, Keeps,
    foldl_keeps State.pending recheckBlocked (by simp), foldl_keeps State.resetHeld recheckBlocked (by simp), foldl_keeps State.draws recheckBlocked (by simp), foldl_keeps State.plan recheckBlocked (by simp), foldl_keeps State.cursor recheckBlocked (by simp), foldl_keeps State.allowance recheckBlocked (by simp), foldl_keeps State.profiles recheckBlocked (by simp)]

/-! ### Answers -/

@[simp] theorem ordinaryAnswer_keeps (p : Place) (e : ChainEntry) (a : TrunkAnswer) (s : State) :
    Keeps s (ordinaryAnswer p e a s) := by
  unfold ordinaryAnswer; dsimp only; (repeat' split) <;> simp [Keeps]

@[simp] theorem releaseForAssignment_keeps (p : Place) (e : ChainEntry) (seat : Seat) (s : State) :
    Keeps s (releaseForAssignment p e seat s) := by
  unfold releaseForAssignment; (repeat' split) <;> simp [Keeps]

@[simp] theorem completeAssignment_keeps (p : Place) (e : ChainEntry) (a : TrunkAnswer) (seat : Seat) (s : State) :
    Keeps s (completeAssignment p e a seat s) := by
  unfold completeAssignment; dsimp only; (repeat' split) <;> simp [Keeps]

@[simp] theorem takeAnswer_keeps (p : Place) (a : TrunkAnswer) (s : State) :
    Keeps s (takeAnswer p a s) := by
  unfold takeAnswer; (repeat' split) <;> simp [Keeps]

@[simp] theorem takeMiss_keeps (p : Place) (s : State) :
    Keeps s (takeMiss p s) := by
  unfold takeMiss; dsimp only; (repeat' split) <;> simp [Keeps]

@[simp] theorem timeoutAssignment_keeps (p : Place) (s : State) :
    Keeps s (timeoutAssignment p s) ∧ (timeoutAssignment p s).seats = s.seats ∧ (timeoutAssignment p s).queue = s.queue ∧ (timeoutAssignment p s).floor = s.floor := by
  unfold timeoutAssignment; (repeat' split) <;> simp [Keeps]

/-! ### Plan changes -/

@[simp] theorem leaveDelegate_keeps (seat : Seat) (c : SeatClass) (s : State) :
    Keeps s (leaveDelegate seat c s) := by
  unfold leaveDelegate; dsimp only; (repeat' split) <;> simp [Keeps]

@[simp] theorem leaveChair_keeps (seat : Seat) (c : SeatClass) (s : State) :
    Keeps s (leaveChair seat c s) := by
  unfold leaveChair; dsimp only; (repeat' split) <;> simp [Keeps]

@[simp] theorem addChair_keeps (seat : Seat) (s : State) :
    KeepsTrunks s (addChair seat s) ∧ (addChair seat s).seats = s.seats ∧ (addChair seat s).queue = s.queue := by simp [addChair, Keeps, KeepsTrunks]

@[simp] theorem classRequests_keeps (seat : Seat) (a b : SeatClass) (s : State) :
    Keeps s (classRequests seat a b s) := by
  unfold classRequests; dsimp only; (repeat' split) <;> simp [Keeps]

@[simp] theorem refusalAt_keeps (w : Wing) (s : State) (p : Pos) :
    Keeps s (refusalAt w s p) ∧ (refusalAt w s p).link = s.link ∧ (refusalAt w s p).seats = s.seats ∧
      (refusalAt w s p).queue = s.queue ∧ (refusalAt w s p).floor = s.floor := by simp [refusalAt, Keeps]

@[simp] theorem restartPos_keeps (w : Wing) (s : State) (p : Pos) : Keeps s (restartPos w s p) := by
  simp [restartPos, Keeps]

/-- The end of a poll leaves what the taking of its answer or its miss leaves. -/
theorem finishPoll_keeps {β : Type} (f : State → β) (w : Wing) (take : Place → State → State)
    (ht : ∀ p s, f (take p s) = f s) (ha : ∀ p s, f (timeoutAssignment p s) = f s) (he : ∀ s, f (endPoll w s) = f s)
    (s : State) : f (finishPoll w take s) = f s := by
  unfold finishPoll
  split
  · rfl
  · rw [he, ha, ht]

/-- A PLAN PUT that passes its tests writes its record and advances the index; the accounts and the profiles stay. -/
@[simp] theorem writePlan_keeps (seat : Seat) (r : PlanRecord) (s : State) :
    (writePlan seat r s).pending = s.pending ∧ (writePlan seat r s).resetHeld = s.resetHeld ∧
      (writePlan seat r s).draws = s.draws ∧ (writePlan seat r s).plan = put s.plan seat r ∧
      (writePlan seat r s).cursor = { s.cursor with index := seat.succ } ∧
      (writePlan seat r s).allowance = s.allowance ∧ (writePlan seat r s).profiles = s.profiles := by
  simp [writePlan]

end Sys2Proof.Machine
end

