-- ==== Sys2Proof/Laws/OrderFrames.lean ====
section
/-! SUPPORT. What each order leaves as it was, and what every frame leaves. -/

namespace Sys2Proof.Machine

@[simp] theorem refusedWith_state (c : ResultCode) (s : State) : (refusedWith c s).state = s := rfl
@[simp] theorem refusedWith_code (c : ResultCode) (s : State) : (refusedWith c s).code = c := rfl
@[simp] theorem refusedWith_data (c : ResultCode) (s : State) : (refusedWith c s).data = [] := rfl
@[simp] theorem answeredOk_state (s : State) (d : List Byte) : (answeredOk s d).state = s := rfl
@[simp] theorem answeredOk_code (s : State) (d : List Byte) : (answeredOk s d).code = .ok := rfl
@[simp] theorem answeredOk_data (s : State) (d : List Byte) : (answeredOk s d).data = d := rfl

/-! ### Crossings, and a change of the profile in force -/

@[simp] theorem setLow_keeps (l : List AccountNo) (s : State) :
    (setLow l s).pending = s.pending ∧ (setLow l s).resetHeld = s.resetHeld ∧ (setLow l s).draws = s.draws ∧ (setLow l s).plan = s.plan ∧ (setLow l s).cursor = s.cursor ∧ (setLow l s).profiles = s.profiles ∧ (setLow l s).trunks = s.trunks ∧ (setLow l s).seats = s.seats ∧ (setLow l s).queue = s.queue ∧ (setLow l s).floor = s.floor := by simp [setLow]

@[simp] theorem setRecovered_keeps (l : List AccountNo) (s : State) :
    (setRecovered l s).pending = s.pending ∧ (setRecovered l s).resetHeld = s.resetHeld ∧ (setRecovered l s).draws = s.draws ∧ (setRecovered l s).plan = s.plan ∧ (setRecovered l s).cursor = s.cursor ∧ (setRecovered l s).profiles = s.profiles ∧ (setRecovered l s).trunks = s.trunks ∧ (setRecovered l s).seats = s.seats ∧ (setRecovered l s).queue = s.queue ∧ (setRecovered l s).floor = s.floor := by simp [setRecovered]

@[simp] theorem setAccount_keeps (a : AccountNo) (r : Account) (s : State) :
    (setAccount a r s).pending = s.pending ∧ (setAccount a r s).resetHeld = s.resetHeld ∧ (setAccount a r s).draws = s.draws ∧ (setAccount a r s).plan = s.plan ∧ (setAccount a r s).cursor = s.cursor ∧ (setAccount a r s).profiles = s.profiles ∧ (setAccount a r s).trunks = s.trunks ∧ (setAccount a r s).seats = s.seats ∧ (setAccount a r s).queue = s.queue ∧ (setAccount a r s).floor = s.floor ∧ (setAccount a r s).link = s.link := by simp [setAccount]

@[simp] theorem crossingTest_keeps (a : AccountNo) (s : State) :
    (crossingTest a s).pending = s.pending ∧ (crossingTest a s).resetHeld = s.resetHeld ∧ (crossingTest a s).draws = s.draws ∧ (crossingTest a s).plan = s.plan ∧ (crossingTest a s).cursor = s.cursor ∧ (crossingTest a s).profiles = s.profiles ∧ (crossingTest a s).trunks = s.trunks ∧ (crossingTest a s).seats = s.seats ∧ (crossingTest a s).queue = s.queue ∧ (crossingTest a s).floor = s.floor := by
  unfold crossingTest; dsimp only; (repeat' split) <;> simp 

@[simp] theorem expireAccount_keeps (v : State) (m : AllowanceMode) (s : State) (a : AccountNo) :
    (expireAccount v m s a).pending = s.pending ∧ (expireAccount v m s a).resetHeld = s.resetHeld ∧ (expireAccount v m s a).draws = s.draws ∧ (expireAccount v m s a).plan = s.plan ∧ (expireAccount v m s a).cursor = s.cursor ∧ (expireAccount v m s a).profiles = s.profiles ∧ (expireAccount v m s a).trunks = s.trunks ∧ (expireAccount v m s a).seats = s.seats ∧ (expireAccount v m s a).queue = s.queue ∧ (expireAccount v m s a).floor = s.floor := by
  unfold expireAccount; dsimp only; split <;> simp

@[simp] theorem closeSpent_keeps (l : List Seat) (s : State) : KeepsTrunks s (closeSpent l s) := by
  unfold closeSpent; dsimp only
  have k : KeepsTrunks s (l.foldl (fun s x => closeSeatQuiet x .allowance s) s) := by
    simp [Keeps, KeepsTrunks, foldl_keeps State.pending (fun s x => closeSeatQuiet x .allowance s) (by simp), foldl_keeps State.resetHeld (fun s x => closeSeatQuiet x .allowance s) (by simp), foldl_keeps State.draws (fun s x => closeSeatQuiet x .allowance s) (by simp), foldl_keeps State.plan (fun s x => closeSeatQuiet x .allowance s) (by simp), foldl_keeps State.cursor (fun s x => closeSeatQuiet x .allowance s) (by simp), foldl_keeps State.allowance (fun s x => closeSeatQuiet x .allowance s) (by simp), foldl_keeps State.profiles (fun s x => closeSeatQuiet x .allowance s) (by simp), foldl_keeps State.trunks (fun s x => closeSeatQuiet x .allowance s) (by simp)]
  split <;> simp_all [Keeps, KeepsTrunks]

@[simp] theorem expireAccounts_keeps (m : AllowanceMode) (s : State) :
    (expireAccounts m s).pending = s.pending ∧ (expireAccounts m s).resetHeld = s.resetHeld ∧ (expireAccounts m s).draws = s.draws ∧ (expireAccounts m s).plan = s.plan ∧ (expireAccounts m s).cursor = s.cursor ∧ (expireAccounts m s).profiles = s.profiles ∧ (expireAccounts m s).trunks = s.trunks := by
  simp [expireAccounts,
    foldl_keeps State.pending (expireAccount s m) (by simp), foldl_keeps State.resetHeld (expireAccount s m) (by simp), foldl_keeps State.draws (expireAccount s m) (by simp), foldl_keeps State.plan (expireAccount s m) (by simp), foldl_keeps State.cursor (expireAccount s m) (by simp), foldl_keeps State.profiles (expireAccount s m) (by simp), foldl_keeps State.trunks (expireAccount s m) (by simp)]

@[simp] theorem changeProfile_keeps (n : ProfileNo) (c : ChangeCause) (s : State) :
    (changeProfile n c s).pending = s.pending ∧ (changeProfile n c s).resetHeld = s.resetHeld ∧ (changeProfile n c s).draws = s.draws ∧ (changeProfile n c s).plan = s.plan ∧ (changeProfile n c s).cursor = s.cursor ∧ (changeProfile n c s).allowance = s.allowance ∧ (changeProfile n c s).trunks = s.trunks := by simp [changeProfile]

@[simp] theorem applySelected_keeps (c : ChangeCause) (s : State) :
    (applySelected c s).pending = s.pending ∧ (applySelected c s).resetHeld = s.resetHeld ∧ (applySelected c s).draws = s.draws ∧ (applySelected c s).plan = s.plan ∧ (applySelected c s).cursor = s.cursor ∧ (applySelected c s).allowance = s.allowance ∧ (applySelected c s).trunks = s.trunks := by
  unfold applySelected; (repeat' split) <;> simp 

@[simp] theorem qualifyPins_keeps (s : State) :
    (qualifyPins s).pending = s.pending ∧ (qualifyPins s).resetHeld = s.resetHeld ∧ (qualifyPins s).draws = s.draws ∧ (qualifyPins s).plan = s.plan ∧ (qualifyPins s).cursor = s.cursor ∧ (qualifyPins s).allowance = s.allowance ∧ (qualifyPins s).trunks = s.trunks := by
  unfold qualifyPins; (repeat' split) <;> simp 

/-! ### Orders of the plan and the trunks -/

@[simp] theorem takePlanSeek_keeps (i : Half) (d : Byte) (s : State) :
    (takePlanSeek i d s).state.pending = s.pending ∧ (takePlanSeek i d s).state.resetHeld = s.resetHeld ∧ (takePlanSeek i d s).state.draws = s.draws ∧ (takePlanSeek i d s).state.plan = s.plan ∧ (takePlanSeek i d s).state.allowance = s.allowance ∧ (takePlanSeek i d s).state.profiles = s.profiles ∧ (takePlanSeek i d s).state.trunks = s.trunks ∧ (takePlanSeek i d s).state.seats = s.seats ∧ (takePlanSeek i d s).state.queue = s.queue ∧ (takePlanSeek i d s).state.floor = s.floor ∧ (takePlanSeek i d s).state.link = s.link := by
  unfold takePlanSeek; (repeat' split) <;> simp 

@[simp] theorem takePlanGet_keeps (s : State) :
    (takePlanGet s).state.pending = s.pending ∧ (takePlanGet s).state.resetHeld = s.resetHeld ∧ (takePlanGet s).state.draws = s.draws ∧ (takePlanGet s).state.plan = s.plan ∧ (takePlanGet s).state.allowance = s.allowance ∧ (takePlanGet s).state.profiles = s.profiles ∧ (takePlanGet s).state.trunks = s.trunks ∧ (takePlanGet s).state.seats = s.seats ∧ (takePlanGet s).state.queue = s.queue ∧ (takePlanGet s).state.floor = s.floor ∧ (takePlanGet s).state.link = s.link := by
  unfold takePlanGet; (repeat' split) <;> simp 

@[simp] theorem takePlanPut_keeps (a b c d e : Byte) (s : State) :
    (takePlanPut a b c d e s).state.pending = s.pending ∧ (takePlanPut a b c d e s).state.resetHeld = s.resetHeld ∧ (takePlanPut a b c d e s).state.draws = s.draws ∧ (takePlanPut a b c d e s).state.allowance = s.allowance ∧ (takePlanPut a b c d e s).state.profiles = s.profiles := by
  unfold takePlanPut; dsimp only; (repeat' split) <;> simp 

@[simp] theorem takeSeatAssign_keeps (w p : Byte) (x : Half) (s : State) :
    Keeps s (takeSeatAssign w p x s).state := by
  unfold takeSeatAssign; dsimp only; (repeat' split) <;> simp [Keeps]

@[simp] theorem takeTrunkRestart_keeps (w : Byte) (s : State) : Keeps s (takeTrunkRestart w s).state := by
  unfold takeTrunkRestart; dsimp only; (repeat' split) <;> simp [Keeps,
    foldl_keeps State.pending (restartPos _) (by simp), foldl_keeps State.resetHeld (restartPos _) (by simp), foldl_keeps State.draws (restartPos _) (by simp), foldl_keeps State.plan (restartPos _) (by simp), foldl_keeps State.cursor (restartPos _) (by simp), foldl_keeps State.allowance (restartPos _) (by simp), foldl_keeps State.profiles (restartPos _) (by simp)]

@[simp] theorem takeTrunkRead_keeps (w p n : Byte) (s : State) :
    (takeTrunkRead w p n s).state.pending = s.pending ∧ (takeTrunkRead w p n s).state.resetHeld = s.resetHeld ∧ (takeTrunkRead w p n s).state.plan = s.plan ∧ (takeTrunkRead w p n s).state.cursor = s.cursor ∧ (takeTrunkRead w p n s).state.allowance = s.allowance ∧ (takeTrunkRead w p n s).state.profiles = s.profiles ∧ (takeTrunkRead w p n s).state.trunks = s.trunks ∧ (takeTrunkRead w p n s).state.seats = s.seats ∧ (takeTrunkRead w p n s).state.queue = s.queue ∧ (takeTrunkRead w p n s).state.floor = s.floor ∧ (takeTrunkRead w p n s).state.link = s.link := by
  unfold takeTrunkRead; dsimp only; (repeat' split) <;> simp 

@[simp] theorem takeBlockedRead_keeps (i : Half) (s : State) :
    (takeBlockedRead i s).state.pending = s.pending ∧ (takeBlockedRead i s).state.resetHeld = s.resetHeld ∧ (takeBlockedRead i s).state.draws = s.draws ∧ (takeBlockedRead i s).state.plan = s.plan ∧ (takeBlockedRead i s).state.cursor = s.cursor ∧ (takeBlockedRead i s).state.allowance = s.allowance ∧ (takeBlockedRead i s).state.profiles = s.profiles ∧ (takeBlockedRead i s).state.trunks = s.trunks ∧ (takeBlockedRead i s).state.seats = s.seats ∧ (takeBlockedRead i s).state.queue = s.queue ∧ (takeBlockedRead i s).state.floor = s.floor ∧ (takeBlockedRead i s).state.link = s.link := by
  unfold takeBlockedRead; dsimp only; (repeat' split) <;> simp 

/-! ### Orders of the queue and the list -/

@[simp] theorem takeQueueAdd_keeps (x : Half) (k : Byte) (t : Half) (s : State) :
    (takeQueueAdd x k t s).state.pending = s.pending ∧ (takeQueueAdd x k t s).state.resetHeld = s.resetHeld ∧ (takeQueueAdd x k t s).state.plan = s.plan ∧ (takeQueueAdd x k t s).state.cursor = s.cursor ∧ (takeQueueAdd x k t s).state.allowance = s.allowance ∧ (takeQueueAdd x k t s).state.profiles = s.profiles ∧ (takeQueueAdd x k t s).state.trunks = s.trunks := by
  unfold takeQueueAdd; dsimp only; (repeat' split) <;> simp 

@[simp] theorem takeQueueDrop_keeps (x : Half) (s : State) :
    KeepsTrunks s (takeQueueDrop x s).state := by
  unfold takeQueueDrop; (repeat' split) <;> simp [Keeps, KeepsTrunks]

@[simp] theorem emptyQueue_keeps (r : LeaveReason) (s : State) :
    KeepsTrunks s (emptyQueue r s) ∧ (emptyQueue r s).seats = s.seats ∧ (emptyQueue r s).floor = s.floor := by
  simp [emptyQueue, Keeps, KeepsTrunks,
    foldl_keeps State.pending (fun s (e : QueueEntry) => takeOut e.seat r s) (by simp), foldl_keeps State.resetHeld (fun s (e : QueueEntry) => takeOut e.seat r s) (by simp), foldl_keeps State.draws (fun s (e : QueueEntry) => takeOut e.seat r s) (by simp), foldl_keeps State.plan (fun s (e : QueueEntry) => takeOut e.seat r s) (by simp), foldl_keeps State.cursor (fun s (e : QueueEntry) => takeOut e.seat r s) (by simp), foldl_keeps State.allowance (fun s (e : QueueEntry) => takeOut e.seat r s) (by simp), foldl_keeps State.profiles (fun s (e : QueueEntry) => takeOut e.seat r s) (by simp), foldl_keeps State.trunks (fun s (e : QueueEntry) => takeOut e.seat r s) (by simp), foldl_keeps State.seats (fun s (e : QueueEntry) => takeOut e.seat r s) (by simp), foldl_keeps State.floor (fun s (e : QueueEntry) => takeOut e.seat r s) (by simp)]

@[simp] theorem takeQueueEmpty_keeps (s : State) :
    KeepsTrunks s (takeQueueEmpty s).state ∧ (takeQueueEmpty s).state.seats = s.seats ∧
      (takeQueueEmpty s).state.floor = s.floor := by
  unfold takeQueueEmpty; dsimp only [answeredOk_state]; split <;> simp [Keeps, KeepsTrunks]

@[simp] theorem takeQueueRead_keeps (p n : Byte) (s : State) :
    (takeQueueRead p n s).state.pending = s.pending ∧ (takeQueueRead p n s).state.resetHeld = s.resetHeld ∧ (takeQueueRead p n s).state.draws = s.draws ∧ (takeQueueRead p n s).state.plan = s.plan ∧ (takeQueueRead p n s).state.cursor = s.cursor ∧ (takeQueueRead p n s).state.allowance = s.allowance ∧ (takeQueueRead p n s).state.profiles = s.profiles ∧ (takeQueueRead p n s).state.trunks = s.trunks ∧ (takeQueueRead p n s).state.seats = s.seats ∧ (takeQueueRead p n s).state.queue = s.queue ∧ (takeQueueRead p n s).state.floor = s.floor ∧ (takeQueueRead p n s).state.link = s.link := by
  unfold takeQueueRead; dsimp only; (repeat' split) <;> simp 

@[simp] theorem takeListClose_keeps (n : Half) (s : State) :
    KeepsTrunks s (takeListClose n s).state := by
  unfold takeListClose; (repeat' split) <;> simp [Keeps, KeepsTrunks]

@[simp] theorem takeListOpen_keeps (s : State) :
    KeepsTrunks s (takeListOpen s).state ∧ (takeListOpen s).state.seats = s.seats ∧
      (takeListOpen s).state.floor = s.floor := by
  unfold takeListOpen; dsimp only [answeredOk_state]; split <;> simp [Keeps, KeepsTrunks]

/-! ### Orders of the floor -/

@[simp] theorem takeFloorGrant_keeps (x : Half) (g : Byte) (s : State) :
    KeepsTrunks s (takeFloorGrant x g s).state := by
  unfold takeFloorGrant; dsimp only; (repeat' split) <;> simp [Keeps, KeepsTrunks]

@[simp] theorem takeFloorNext_keeps (s : State) :
    KeepsTrunks s (takeFloorNext s).state := by
  unfold takeFloorNext; dsimp only; (repeat' split) <;> simp [Keeps, KeepsTrunks]

@[simp] theorem takeFloorRevoke_keeps (x : Half) (s : State) :
    KeepsTrunks s (takeFloorRevoke x s).state := by
  unfold takeFloorRevoke; (repeat' split) <;> simp [Keeps, KeepsTrunks]

@[simp] theorem takeFloorClear_keeps (s : State) :
    KeepsTrunks s (takeFloorClear s).state := by simp [takeFloorClear, Keeps, KeepsTrunks]

@[simp] theorem takeFloorRead_keeps (x : Half) (s : State) :
    (takeFloorRead x s).state.pending = s.pending ∧ (takeFloorRead x s).state.resetHeld = s.resetHeld ∧ (takeFloorRead x s).state.plan = s.plan ∧ (takeFloorRead x s).state.cursor = s.cursor ∧ (takeFloorRead x s).state.allowance = s.allowance ∧ (takeFloorRead x s).state.profiles = s.profiles ∧ (takeFloorRead x s).state.trunks = s.trunks ∧ (takeFloorRead x s).state.seats = s.seats ∧ (takeFloorRead x s).state.queue = s.queue ∧ (takeFloorRead x s).state.floor = s.floor ∧ (takeFloorRead x s).state.link = s.link := by
  unfold takeFloorRead; dsimp only; (repeat' split) <;> simp 

@[simp] theorem takeWingMask_keeps (m : Byte) (s : State) :
    KeepsTrunks s (takeWingMask m s).state := by
  unfold takeWingMask; dsimp only; (repeat' split) <;> simp [Keeps, KeepsTrunks]

@[simp] theorem takeUnlock_keeps (x : Half) (s : State) : KeepsTrunks s (takeUnlock x s).state := by
  unfold takeUnlock; dsimp only
  split
  · simp [Keeps, KeepsTrunks]
  · split
    · dsimp only [answeredOk_state]; split <;> simp [Keeps, KeepsTrunks]
    · simp [Keeps, KeepsTrunks]

@[simp] theorem takeFloorReset_keeps (s : State) :
    KeepsTrunks s (takeFloorReset s).state ∧ (takeFloorReset s).state.seats = s.seats := by simp [takeFloorReset, Keeps, KeepsTrunks]

@[simp] theorem takeFloorExtend_keeps (x n : Half) (s : State) :
    (takeFloorExtend x n s).state.pending = s.pending ∧ (takeFloorExtend x n s).state.resetHeld = s.resetHeld ∧ (takeFloorExtend x n s).state.draws = s.draws ∧ (takeFloorExtend x n s).state.plan = s.plan ∧ (takeFloorExtend x n s).state.cursor = s.cursor ∧ (takeFloorExtend x n s).state.allowance = s.allowance ∧ (takeFloorExtend x n s).state.profiles = s.profiles ∧ (takeFloorExtend x n s).state.trunks = s.trunks ∧ (takeFloorExtend x n s).state.seats = s.seats ∧ (takeFloorExtend x n s).state.queue = s.queue ∧ (takeFloorExtend x n s).state.link = s.link := by
  unfold takeFloorExtend; dsimp only; (repeat' split) <;> simp 

/-! ### Orders of the accounts, the profiles and the link -/

@[simp] theorem takeAccountSet_keeps (a : Half) (b : BitVec 32) (c r l d : Half) (s : State) :
    (takeAccountSet a b c r l d s).state.pending = s.pending ∧ (takeAccountSet a b c r l d s).state.resetHeld = s.resetHeld ∧ (takeAccountSet a b c r l d s).state.draws = s.draws ∧ (takeAccountSet a b c r l d s).state.plan = s.plan ∧ (takeAccountSet a b c r l d s).state.cursor = s.cursor ∧ (takeAccountSet a b c r l d s).state.profiles = s.profiles ∧ (takeAccountSet a b c r l d s).state.trunks = s.trunks ∧ (takeAccountSet a b c r l d s).state.seats = s.seats ∧ (takeAccountSet a b c r l d s).state.queue = s.queue ∧ (takeAccountSet a b c r l d s).state.floor = s.floor := by
  unfold takeAccountSet; dsimp only; (repeat' split) <;> simp 

@[simp] theorem takeAccountRead_keeps (a : Half) (n : Byte) (s : State) :
    (takeAccountRead a n s).state.pending = s.pending ∧ (takeAccountRead a n s).state.resetHeld = s.resetHeld ∧ (takeAccountRead a n s).state.plan = s.plan ∧ (takeAccountRead a n s).state.cursor = s.cursor ∧ (takeAccountRead a n s).state.allowance = s.allowance ∧ (takeAccountRead a n s).state.profiles = s.profiles ∧ (takeAccountRead a n s).state.trunks = s.trunks ∧ (takeAccountRead a n s).state.seats = s.seats ∧ (takeAccountRead a n s).state.queue = s.queue ∧ (takeAccountRead a n s).state.floor = s.floor ∧ (takeAccountRead a n s).state.link = s.link := by
  unfold takeAccountRead; dsimp only; (repeat' split) <;> simp 

@[simp] theorem takeLowRead_keeps (n : Byte) (s : State) :
    (takeLowRead n s).state.pending = s.pending ∧ (takeLowRead n s).state.resetHeld = s.resetHeld ∧ (takeLowRead n s).state.draws = s.draws ∧ (takeLowRead n s).state.plan = s.plan ∧ (takeLowRead n s).state.cursor = s.cursor ∧ (takeLowRead n s).state.profiles = s.profiles ∧ (takeLowRead n s).state.trunks = s.trunks ∧ (takeLowRead n s).state.seats = s.seats ∧ (takeLowRead n s).state.queue = s.queue ∧ (takeLowRead n s).state.floor = s.floor := by
  unfold takeLowRead; (repeat' split) <;> simp 

@[simp] theorem takeRecoveredRead_keeps (n : Byte) (s : State) :
    (takeRecoveredRead n s).state.pending = s.pending ∧ (takeRecoveredRead n s).state.resetHeld = s.resetHeld ∧ (takeRecoveredRead n s).state.draws = s.draws ∧ (takeRecoveredRead n s).state.plan = s.plan ∧ (takeRecoveredRead n s).state.cursor = s.cursor ∧ (takeRecoveredRead n s).state.profiles = s.profiles ∧ (takeRecoveredRead n s).state.trunks = s.trunks ∧ (takeRecoveredRead n s).state.seats = s.seats ∧ (takeRecoveredRead n s).state.queue = s.queue ∧ (takeRecoveredRead n s).state.floor = s.floor := by
  unfold takeRecoveredRead; (repeat' split) <;> simp 

@[simp] theorem takeProfilePut_keeps (n : Byte) (r : RawProfile) (s : State) :
    (takeProfilePut n r s).state.pending = s.pending ∧ (takeProfilePut n r s).state.resetHeld = s.resetHeld ∧ (takeProfilePut n r s).state.draws = s.draws ∧ (takeProfilePut n r s).state.plan = s.plan ∧ (takeProfilePut n r s).state.cursor = s.cursor ∧ (takeProfilePut n r s).state.allowance = s.allowance ∧ (takeProfilePut n r s).state.trunks = s.trunks := by
  unfold takeProfilePut; dsimp only
  split
  · dsimp only [answeredOk_state]; split <;> simp
  · simp

@[simp] theorem takeProfileGet_keeps (n : Byte) (s : State) :
    (takeProfileGet n s).state.pending = s.pending ∧ (takeProfileGet n s).state.resetHeld = s.resetHeld ∧ (takeProfileGet n s).state.draws = s.draws ∧ (takeProfileGet n s).state.plan = s.plan ∧ (takeProfileGet n s).state.cursor = s.cursor ∧ (takeProfileGet n s).state.allowance = s.allowance ∧ (takeProfileGet n s).state.profiles = s.profiles ∧ (takeProfileGet n s).state.trunks = s.trunks ∧ (takeProfileGet n s).state.seats = s.seats ∧ (takeProfileGet n s).state.queue = s.queue ∧ (takeProfileGet n s).state.floor = s.floor ∧ (takeProfileGet n s).state.link = s.link := by
  unfold takeProfileGet; (repeat' split) <;> simp 

@[simp] theorem takeProfileSelect_keeps (n : Byte) (s : State) :
    (takeProfileSelect n s).state.pending = s.pending ∧ (takeProfileSelect n s).state.resetHeld = s.resetHeld ∧ (takeProfileSelect n s).state.draws = s.draws ∧ (takeProfileSelect n s).state.plan = s.plan ∧ (takeProfileSelect n s).state.cursor = s.cursor ∧ (takeProfileSelect n s).state.allowance = s.allowance ∧ (takeProfileSelect n s).state.trunks = s.trunks := by
  unfold takeProfileSelect; dsimp only
  split
  · simp
  · dsimp only [answeredOk_state]; split <;> simp

@[simp] theorem takeProfileSource_keeps (n : Byte) (s : State) :
    (takeProfileSource n s).state.pending = s.pending ∧ (takeProfileSource n s).state.resetHeld = s.resetHeld ∧ (takeProfileSource n s).state.draws = s.draws ∧ (takeProfileSource n s).state.plan = s.plan ∧ (takeProfileSource n s).state.cursor = s.cursor ∧ (takeProfileSource n s).state.allowance = s.allowance ∧ (takeProfileSource n s).state.trunks = s.trunks := by
  unfold takeProfileSource; dsimp only
  split
  · simp
  · dsimp only [answeredOk_state]; split <;> simp

@[simp] theorem takeProfileInForce_keeps (s : State) :
    (takeProfileInForce s).state.pending = s.pending ∧ (takeProfileInForce s).state.resetHeld = s.resetHeld ∧ (takeProfileInForce s).state.draws = s.draws ∧ (takeProfileInForce s).state.plan = s.plan ∧ (takeProfileInForce s).state.cursor = s.cursor ∧ (takeProfileInForce s).state.allowance = s.allowance ∧ (takeProfileInForce s).state.profiles = s.profiles ∧ (takeProfileInForce s).state.trunks = s.trunks ∧ (takeProfileInForce s).state.seats = s.seats ∧ (takeProfileInForce s).state.queue = s.queue ∧ (takeProfileInForce s).state.floor = s.floor ∧ (takeProfileInForce s).state.link = s.link := by simp [takeProfileInForce]

@[simp] theorem takeStatus_keeps (s : State) :
    (takeStatus s).state.pending = s.pending ∧ (takeStatus s).state.resetHeld = s.resetHeld ∧ (takeStatus s).state.draws = s.draws ∧ (takeStatus s).state.plan = s.plan ∧ (takeStatus s).state.cursor = s.cursor ∧ (takeStatus s).state.allowance = s.allowance ∧ (takeStatus s).state.profiles = s.profiles ∧ (takeStatus s).state.trunks = s.trunks ∧ (takeStatus s).state.seats = s.seats ∧ (takeStatus s).state.queue = s.queue ∧ (takeStatus s).state.floor = s.floor ∧ (takeStatus s).state.link = s.link := by simp [takeStatus]

@[simp] theorem takeIdentify_keeps (s : State) :
    (takeIdentify s).state.pending = s.pending ∧ (takeIdentify s).state.resetHeld = s.resetHeld ∧ (takeIdentify s).state.draws = s.draws ∧ (takeIdentify s).state.plan = s.plan ∧ (takeIdentify s).state.cursor = s.cursor ∧ (takeIdentify s).state.allowance = s.allowance ∧ (takeIdentify s).state.profiles = s.profiles ∧ (takeIdentify s).state.trunks = s.trunks ∧ (takeIdentify s).state.seats = s.seats ∧ (takeIdentify s).state.queue = s.queue ∧ (takeIdentify s).state.floor = s.floor ∧ (takeIdentify s).state.link = s.link := by simp [takeIdentify]

@[simp] theorem takeNoticeMask_keeps (m : BitVec 24) (s : State) :
    (takeNoticeMask m s).state.pending = s.pending ∧ (takeNoticeMask m s).state.resetHeld = s.resetHeld ∧ (takeNoticeMask m s).state.draws = s.draws ∧ (takeNoticeMask m s).state.plan = s.plan ∧ (takeNoticeMask m s).state.cursor = s.cursor ∧ (takeNoticeMask m s).state.allowance = s.allowance ∧ (takeNoticeMask m s).state.profiles = s.profiles ∧ (takeNoticeMask m s).state.trunks = s.trunks ∧ (takeNoticeMask m s).state.seats = s.seats ∧ (takeNoticeMask m s).state.queue = s.queue ∧ (takeNoticeMask m s).state.floor = s.floor := by
  unfold takeNoticeMask; (repeat' split) <;> simp 

/-! ### Delivery, answers and frames -/

/-- No order touches the waiting commands or the level of the RESET pin. -/
@[simp] theorem deliver_keeps (i : Instr) (s : State) :
    (deliver i s).state.pending = s.pending ∧ (deliver i s).state.resetHeld = s.resetHeld := by
  cases i <;> (unfold deliver; simp)

@[simp] theorem placeAnswer_keeps (a : Answer) (s : State) :
    KeepsTrunks s (placeAnswer a s) ∧ (placeAnswer a s).seats = s.seats ∧ (placeAnswer a s).queue = s.queue ∧
      (placeAnswer a s).floor = s.floor := by simp [placeAnswer, Keeps, KeepsTrunks]

@[simp] theorem oweAnswer_keeps (s : State) :
    KeepsTrunks s (oweAnswer s) ∧ (oweAnswer s).seats = s.seats ∧ (oweAnswer s).queue = s.queue ∧
      (oweAnswer s).floor = s.floor := by simp [oweAnswer, Keeps, KeepsTrunks]

/-- An order leaves what its delivery leaves. -/
theorem takeOrder_keeps {β : Type} (f : State → β) (hf : ∀ s l, f (s.setLink l) = f s) (i : Instr)
    (hd : ∀ s, f (deliver i s).state = f s) (s : State) : f (takeOrder i s) = f s := by
  simp [takeOrder, placeAnswer, oweAnswer, hf, hd]

/-- A frame leaves what every order leaves. -/
theorem takeFrame_keeps {β : Type} (f : State → β) (hf : ∀ s l, f (s.setLink l) = f s)
    (hd : ∀ i s, f (deliver i s).state = f s) (frame : List Byte) (s : State) : f (takeFrame frame s) = f s := by
  unfold takeFrame
  split <;> simp [undelivered, placeAnswer, hf, takeOrder_keeps f hf _ (hd _)]

/-- So does the transmitter's choice of a frame, which may take a held one. -/
theorem chooseFrame_keeps {β : Type} (f : State → β) (hf : ∀ s l, f (s.setLink l) = f s)
    (hd : ∀ i s, f (deliver i s).state = f s) (s : State) : f (chooseFrame s) = f s := by
  unfold chooseFrame beginAnswer
  (repeat' split) <;> simp [hf, takeFrame_keeps f hf hd]

/-! ### The end of a deci -/

/-- The end of a deci at the order unit touches the link alone. -/
@[simp] theorem endDeci_keeps (s : State) :
    KeepsTrunks s (endDeci s) ∧ (endDeci s).seats = s.seats ∧ (endDeci s).queue = s.queue ∧
      (endDeci s).floor = s.floor := by
  unfold endDeci postRestarted countDeci; split <;> simp [Keeps, KeepsTrunks]

/-- The end of a deci: the floor clock one up, and at the first one RESTARTED posted with it (R165, R166). -/
theorem endDeci_link (s : State) :
    (endDeci s).link = match s.link.restart with
      | .posted => { s.link with clock := s.link.clock + 1 }
      | .fresh => Link.post (ownerBits s) .restarted { s.link with clock := s.link.clock + 1, restart := .posted } := by
  unfold endDeci; split <;> rename_i h <;> simp only [h] <;> first | rfl | simp [countDeci, ← h]

end Sys2Proof.Machine
end

