-- ==== Sys2Proof/Laws/LinkFrames.lean ====
section
/-! SUPPORT. How the operations reach the order unit: by posting notices and by telling it of changes of the summary, and in
no other way. What holds through both holds through every operation (`LinkPath.closed`). -/

namespace Sys2Proof.Machine

/-- The order unit's state is reached from another by taking notices and changes of the summary. -/
inductive LinkPath (l₀ : Link) : Link → Prop where
  | refl : LinkPath l₀ l₀
  | post {m : Link} (o : OwnerBits) (b : NoticeBody) (h : LinkPath l₀ m) : LinkPath l₀ (m.post o b)
  | raise {m : Link} (o : OwnerBits) (h : LinkPath l₀ m) : LinkPath l₀ (m.raise o)

/-- What posting and raising keep, a path keeps. -/
theorem LinkPath.closed (p : Link → Prop) (hp : ∀ o b l, p l → p (l.post o b)) (hr : ∀ o l, p l → p (l.raise o))
    {l m : Link} (h : LinkPath l m) (hl : p l) : p m := by
  induction h with
  | refl => exact hl
  | post o b _ ih => exact hp o b _ ih
  | raise o _ ih => exact hr o _ ih

theorem setPlan_path (s : State) (x : Vector PlanRecord 512) {l₀ : Link} (h : LinkPath l₀ s.link) : LinkPath l₀ (s.setPlan x).link := h

theorem setCursor_path (s : State) (x : Cursor) {l₀ : Link} (h : LinkPath l₀ s.link) : LinkPath l₀ (s.setCursor x).link := h

theorem setTrunks_path (s : State) (x : Trunks) {l₀ : Link} (h : LinkPath l₀ s.link) : LinkPath l₀ (s.setTrunks x).link := h

theorem setSeats_path (s : State) (x : Vector (Option SeatRecord) 512) {l₀ : Link} (h : LinkPath l₀ s.link) : LinkPath l₀ (s.setSeats x).link := h

theorem setQueue_path (s : State) (x : RequestQueue) {l₀ : Link} (h : LinkPath l₀ s.link) : LinkPath l₀ (s.setQueue x).link := h

theorem setFloor_path (s : State) (x : Floor) {l₀ : Link} (h : LinkPath l₀ s.link) : LinkPath l₀ (s.setFloor x).link := h

theorem setAllowance_path (s : State) (x : Allowance) {l₀ : Link} (h : LinkPath l₀ s.link) : LinkPath l₀ (s.setAllowance x).link := h

theorem setProfiles_path (s : State) (x : Profiles) {l₀ : Link} (h : LinkPath l₀ s.link) : LinkPath l₀ (s.setProfiles x).link := h

theorem setPending_path (s : State) (x : List Instr) {l₀ : Link} (h : LinkPath l₀ s.link) : LinkPath l₀ (s.setPending x).link := h

theorem setDraws_path (s : State) (x : Nat) {l₀ : Link} (h : LinkPath l₀ s.link) : LinkPath l₀ (s.setDraws x).link := h

theorem foldl_path {α : Type} (g : State → α → State) {l₀ : Link}
    (hg : ∀ s a, LinkPath l₀ s.link → LinkPath l₀ (g s a).link) (xs : List α) (s : State) (h : LinkPath l₀ s.link) :
    LinkPath l₀ (xs.foldl g s).link := by
  induction xs generalizing s with
  | nil => exact h
  | cons a xs ih => exact ih _ (hg s a h)

theorem refusedWith_path (c : ResultCode) (s : State) {l₀ : Link} (h : LinkPath l₀ s.link) :
    LinkPath l₀ (refusedWith c s).state.link := h

theorem answeredOk_path (s : State) (d : List Byte) {l₀ : Link} (h : LinkPath l₀ s.link) :
    LinkPath l₀ (answeredOk s d).state.link := h

theorem post_path (b : NoticeBody) (s : State) {l₀ : Link} (h : LinkPath l₀ s.link) : LinkPath l₀ (post b s).link :=
  h.post _ _

theorem noteOwners_path (o : OwnerBits) (s : State) {l₀ : Link} (h : LinkPath l₀ s.link) :
    LinkPath l₀ (noteOwners o s).link := by
  unfold noteOwners; split
  · exact h
  · exact h.raise _

theorem setEntries_path (es : List QueueEntry) (s : State) {l₀ : Link} (h : LinkPath l₀ s.link) : LinkPath l₀ (setEntries es s).link := by
  unfold setEntries
  repeat' first | with_reducible exact h | with_reducible apply noteOwners_path | with_reducible apply setQueue_path

theorem setList_path (list : ListState) (limit : Option Nat) (s : State) {l₀ : Link} (h : LinkPath l₀ s.link) : LinkPath l₀ (setList list limit s).link := by
  unfold setList
  repeat' first | with_reducible exact h | with_reducible apply noteOwners_path | with_reducible apply setQueue_path

theorem setBlocked_path (b : List BlockedEntry) (s : State) {l₀ : Link} (h : LinkPath l₀ s.link) : LinkPath l₀ (setBlocked b s).link := by
  unfold setBlocked
  repeat' first | with_reducible exact h | with_reducible apply noteOwners_path | with_reducible apply setTrunks_path

theorem setChairs_path (c : List ChairRecord) (s : State) {l₀ : Link} (h : LinkPath l₀ s.link) : LinkPath l₀ (setChairs c s).link := by
  unfold setChairs
  repeat' first | with_reducible exact h | with_reducible apply noteOwners_path | with_reducible apply setFloor_path

theorem restartBlanking_path (seat : Seat) (s : State) {l₀ : Link} (h : LinkPath l₀ s.link) : LinkPath l₀ (restartBlanking seat s).link := by
  unfold restartBlanking
  repeat' first | with_reducible exact h | with_reducible apply setSeats_path | split

theorem takeOut_path (seat : Seat) (reason : LeaveReason) (s : State) {l₀ : Link} (h : LinkPath l₀ s.link) : LinkPath l₀ (takeOut seat reason s).link := by
  unfold takeOut
  repeat' first | with_reducible exact h | with_reducible apply setEntries_path | with_reducible apply post_path | split

theorem skipEntry_path (s : State) (e : QueueEntry) {l₀ : Link} (h : LinkPath l₀ s.link) : LinkPath l₀ (skipEntry s e).link := by
  unfold skipEntry; dsimp only
  repeat' first | with_reducible exact h | with_reducible apply takeOut_path | with_reducible apply setQueue_path

theorem endDrain_path (s : State) {l₀ : Link} (h : LinkPath l₀ s.link) : LinkPath l₀ (endDrain s).link := by
  unfold endDrain; dsimp only
  repeat' first | with_reducible exact h | with_reducible assumption | (intro _ _ _) | with_reducible apply foldl_path | with_reducible apply skipEntry_path | with_reducible apply setList_path | with_reducible apply post_path

theorem drainEndTest_path (s : State) {l₀ : Link} (h : LinkPath l₀ s.link) : LinkPath l₀ (drainEndTest s).link := by
  unfold drainEndTest
  repeat' first | with_reducible exact h | with_reducible apply endDrain_path | split

theorem leaveQueue_path (seat : Seat) (reason : LeaveReason) (s : State) {l₀ : Link} (h : LinkPath l₀ s.link) : LinkPath l₀ (leaveQueue seat reason s).link := by
  unfold leaveQueue
  repeat' first | with_reducible exact h | with_reducible apply drainEndTest_path | with_reducible apply takeOut_path | split

theorem occupy_path (n : SlotNo) (rest : List SlotNo) (seat : Seat) (origin : Origin) (guarded : Bool) (s : State) {l₀ : Link} (h : LinkPath l₀ s.link) : LinkPath l₀ (occupy n rest seat origin guarded s).link := by
  unfold occupy; dsimp only
  repeat' first | with_reducible exact h | with_reducible apply restartBlanking_path | with_reducible apply post_path | with_reducible apply setFloor_path

theorem openSlot_path (seat : Seat) (origin : Origin) (guarded : Bool) (s : State) {l₀ : Link} (h : LinkPath l₀ s.link) : LinkPath l₀ (openSlot seat origin guarded s).link := by
  unfold openSlot
  repeat' first | with_reducible exact h | with_reducible apply occupy_path | with_reducible apply drainEndTest_path | with_reducible apply takeOut_path | split

theorem advance_path (k : Nat) (s : State) {l₀ : Link} (h : LinkPath l₀ s.link) : LinkPath l₀ (advance k s).link := by
  induction k generalizing s with
  | zero => exact h
  | succ k ih =>
    unfold advance
    repeat' first | exact h | apply ih | with_reducible apply openSlot_path | split

theorem advanceCheck_path (s : State) {l₀ : Link} (h : LinkPath l₀ s.link) : LinkPath l₀ (advanceCheck s).link := by
  unfold advanceCheck
  repeat' first | with_reducible exact h | with_reducible apply advance_path

theorem tellClose_path (seat : Seat) (s : State) {l₀ : Link} (h : LinkPath l₀ s.link) : LinkPath l₀ (tellClose seat s).link := by
  unfold tellClose
  repeat' first | with_reducible exact h | with_reducible apply drainEndTest_path | with_reducible apply setQueue_path

theorem closeSlot_path (n : SlotNo) (reason : CloseReason) (s : State) {l₀ : Link} (h : LinkPath l₀ s.link) : LinkPath l₀ (closeSlot n reason s).link := by
  unfold closeSlot; dsimp only
  repeat' first | with_reducible exact h | with_reducible apply tellClose_path | with_reducible apply post_path | with_reducible apply setFloor_path | split

theorem closeSeatQuiet_path (seat : Seat) (reason : CloseReason) (s : State) {l₀ : Link} (h : LinkPath l₀ s.link) : LinkPath l₀ (closeSeatQuiet seat reason s).link := by
  unfold closeSeatQuiet
  repeat' first | with_reducible exact h | with_reducible apply closeSlot_path | split

theorem closeSeat_path (seat : Seat) (reason : CloseReason) (s : State) {l₀ : Link} (h : LinkPath l₀ s.link) : LinkPath l₀ (closeSeat seat reason s).link := by
  unfold closeSeat
  repeat' first | with_reducible exact h | with_reducible apply closeSlot_path | with_reducible apply advanceCheck_path | split

theorem closeGroup_path (ns : List SlotNo) (reason : CloseReason) (s : State) {l₀ : Link} (h : LinkPath l₀ s.link) : LinkPath l₀ (closeGroup ns reason s).link := by
  unfold closeGroup
  repeat' first | with_reducible exact h | with_reducible assumption | (intro _ _ _) | with_reducible apply foldl_path | with_reducible apply closeSlot_path

theorem dropBindings_path (target : Seat) (deferred : Bool) (s : State) {l₀ : Link} (h : LinkPath l₀ s.link) : LinkPath l₀ (dropBindings target deferred s).link := by
  unfold dropBindings; dsimp only
  repeat' first | with_reducible exact h | with_reducible apply advanceCheck_path | with_reducible apply drainEndTest_path | with_reducible apply setQueue_path | split

theorem enterQueue_path (e : QueueEntry) (renewed : Bool) (s : State) {l₀ : Link} (h : LinkPath l₀ s.link) : LinkPath l₀ (enterQueue e renewed s).link := by
  unfold enterQueue; dsimp only
  repeat' first | with_reducible exact h | with_reducible apply advanceCheck_path | with_reducible apply setEntries_path | with_reducible apply post_path | split

theorem showRefused_path (seat : Seat) (s : State) {l₀ : Link} (h : LinkPath l₀ s.link) : LinkPath l₀ (showRefused seat s).link := by
  unfold showRefused
  repeat' first | with_reducible exact h | with_reducible apply setTrunks_path | split

theorem refuse_path (seat : Seat) (event : SeatEvent) (cause : RefusalCause) (s : State) {l₀ : Link} (h : LinkPath l₀ s.link) : LinkPath l₀ (refuse seat event cause s).link := by
  unfold refuse
  repeat' first | with_reducible exact h | with_reducible apply showRefused_path | with_reducible apply post_path

theorem enqueuePress_path (seat : Seat) (kind : EntryKind) (event : SeatEvent) (s : State) {l₀ : Link} (h : LinkPath l₀ s.link) : LinkPath l₀ (enqueuePress seat kind event s).link := by
  unfold enqueuePress; dsimp only
  repeat' first | with_reducible exact h | with_reducible apply refuse_path | with_reducible apply enterQueue_path | split

theorem openChair_path (seat : Seat) (s : State) {l₀ : Link} (h : LinkPath l₀ s.link) : LinkPath l₀ (openChair seat s).link := by
  unfold openChair; dsimp only
  repeat' first | with_reducible exact h | with_reducible apply restartBlanking_path | with_reducible apply setChairs_path | with_reducible apply post_path

theorem closeChair_path (seat : Seat) (s : State) {l₀ : Link} (h : LinkPath l₀ s.link) : LinkPath l₀ (closeChair seat s).link := by
  unfold closeChair
  repeat' first | with_reducible exact h | with_reducible apply setChairs_path | with_reducible apply post_path

theorem holdChair_path (s : State) (seat : Seat) {l₀ : Link} (h : LinkPath l₀ s.link) : LinkPath l₀ (holdChair s seat).link := by
  unfold holdChair; dsimp only
  repeat' first | with_reducible exact h | with_reducible apply openChair_path | with_reducible apply setChairs_path | split

theorem releaseChair_path (s : State) (seat : Seat) {l₀ : Link} (h : LinkPath l₀ s.link) : LinkPath l₀ (releaseChair s seat).link := by
  unfold releaseChair
  repeat' first | with_reducible exact h | with_reducible apply closeChair_path | with_reducible apply openChair_path | split

theorem muteSlot_path (s : State) (n : SlotNo) {l₀ : Link} (h : LinkPath l₀ s.link) : LinkPath l₀ (muteSlot s n).link := by
  unfold muteSlot
  repeat' first | with_reducible exact h | with_reducible apply setFloor_path | split

theorem unmuteSlot_path (s : State) (n : SlotNo) {l₀ : Link} (h : LinkPath l₀ s.link) : LinkPath l₀ (unmuteSlot s n).link := by
  unfold unmuteSlot
  repeat' first | with_reducible exact h | with_reducible apply restartBlanking_path | with_reducible apply setFloor_path | split

theorem closeForHold_path (s : State) (n : SlotNo) {l₀ : Link} (h : LinkPath l₀ s.link) : LinkPath l₀ (closeForHold s n).link := by
  unfold closeForHold
  repeat' first | with_reducible exact h | with_reducible apply closeSlot_path | with_reducible apply advanceCheck_path

theorem startHold_path (seat : Seat) (s : State) {l₀ : Link} (h : LinkPath l₀ s.link) : LinkPath l₀ (startHold seat s).link := by
  unfold startHold; dsimp only
  repeat' first | with_reducible exact h | with_reducible assumption | (intro _ _ _) | with_reducible apply foldl_path | with_reducible apply closeForHold_path | with_reducible apply muteSlot_path | with_reducible apply holdChair_path | with_reducible apply post_path | split

theorem endHold_path (seat : Seat) (s : State) {l₀ : Link} (h : LinkPath l₀ s.link) : LinkPath l₀ (endHold seat s).link := by
  unfold endHold; dsimp only
  repeat' first | with_reducible exact h | with_reducible assumption | (intro _ _ _) | with_reducible apply foldl_path | with_reducible apply unmuteSlot_path | with_reducible apply releaseChair_path | with_reducible apply advanceCheck_path | with_reducible apply post_path

theorem setHeld_path (seat : Seat) (held : Bool) (s : State) {l₀ : Link} (h : LinkPath l₀ s.link) : LinkPath l₀ (setHeld seat held s).link := by
  unfold setHeld
  repeat' first | with_reducible exact h | with_reducible apply setChairs_path

theorem lowerHold_path (seat : Seat) (s : State) {l₀ : Link} (h : LinkPath l₀ s.link) : LinkPath l₀ (lowerHold seat s).link := by
  unfold lowerHold; dsimp only
  repeat' first | with_reducible exact h | with_reducible apply setHeld_path | with_reducible apply endHold_path | split

theorem raiseHold_path (seat : Seat) (s : State) {l₀ : Link} (h : LinkPath l₀ s.link) : LinkPath l₀ (raiseHold seat s).link := by
  unfold raiseHold; dsimp only
  repeat' first | with_reducible exact h | with_reducible apply setHeld_path | with_reducible apply startHold_path | split

theorem withdrawChair_path (seat : Seat) (s : State) {l₀ : Link} (h : LinkPath l₀ s.link) : LinkPath l₀ (withdrawChair seat s).link := by
  unfold withdrawChair; dsimp only
  repeat' first | with_reducible exact h | with_reducible apply lowerHold_path | with_reducible apply closeChair_path | with_reducible apply setChairs_path | split

theorem setLocked_path (seat : Seat) (locked : Bool) (s : State) {l₀ : Link} (h : LinkPath l₀ s.link) : LinkPath l₀ (setLocked seat locked s).link := by
  unfold setLocked
  repeat' first | with_reducible exact h | with_reducible apply setFloor_path

theorem reduce_path (k : Nat) (s : State) {l₀ : Link} (h : LinkPath l₀ s.link) : LinkPath l₀ (reduce k s).link := by
  induction k generalizing s with
  | zero => exact h
  | succ k ih =>
    unfold reduce
    repeat' first | exact h | apply ih | with_reducible apply closeSlot_path | split

theorem reduceFloor_path (s : State) {l₀ : Link} (h : LinkPath l₀ s.link) : LinkPath l₀ (reduceFloor s).link := by
  unfold reduceFloor
  repeat' first | with_reducible exact h | with_reducible apply reduce_path | with_reducible apply advanceCheck_path

theorem changeProfile_path (now : ProfileNo) (cause : ChangeCause) (s : State) {l₀ : Link} (h : LinkPath l₀ s.link) : LinkPath l₀ (changeProfile now cause s).link := by
  unfold changeProfile; dsimp only
  repeat' first | with_reducible exact h | with_reducible apply reduceFloor_path | with_reducible apply post_path | with_reducible apply setProfiles_path

theorem queueOrRefuse_path (seat : Seat) (s : State) {l₀ : Link} (h : LinkPath l₀ s.link) : LinkPath l₀ (queueOrRefuse seat s).link := by
  unfold queueOrRefuse
  repeat' first | with_reducible exact h | with_reducible apply enqueuePress_path | with_reducible apply refuse_path | split

theorem requestOpen_path (seat : Seat) (s : State) {l₀ : Link} (h : LinkPath l₀ s.link) : LinkPath l₀ (requestOpen seat s).link := by
  unfold requestOpen
  repeat' first | with_reducible exact h | with_reducible apply queueOrRefuse_path | with_reducible apply refuse_path | with_reducible apply openSlot_path | split

theorem replaceSpeaker_path (n : SlotNo) (seat : Seat) (s : State) {l₀ : Link} (h : LinkPath l₀ s.link) : LinkPath l₀ (replaceSpeaker n seat s).link := by
  unfold replaceSpeaker
  repeat' first | with_reducible exact h | with_reducible apply closeSlot_path | with_reducible apply advanceCheck_path | with_reducible apply openSlot_path

theorem requestOverride_path (seat : Seat) (s : State) {l₀ : Link} (h : LinkPath l₀ s.link) : LinkPath l₀ (requestOverride seat s).link := by
  unfold requestOverride
  repeat' first | with_reducible exact h | with_reducible apply replaceSpeaker_path | with_reducible apply queueOrRefuse_path | with_reducible apply refuse_path | with_reducible apply openSlot_path | split

theorem shortPress_path (seat : Seat) (s : State) {l₀ : Link} (h : LinkPath l₀ s.link) : LinkPath l₀ (shortPress seat s).link := by
  unfold shortPress
  repeat' first | with_reducible exact h | with_reducible apply requestOverride_path | with_reducible apply requestOpen_path | with_reducible apply enqueuePress_path | with_reducible apply refuse_path | with_reducible apply closeSeat_path | with_reducible apply leaveQueue_path | split

theorem promote_path (seat : Seat) (s : State) {l₀ : Link} (h : LinkPath l₀ s.link) : LinkPath l₀ (promote seat s).link := by
  unfold promote; dsimp only
  repeat' first | with_reducible exact h | with_reducible apply setEntries_path | with_reducible apply post_path | split

theorem longPress_path (seat : Seat) (s : State) {l₀ : Link} (h : LinkPath l₀ s.link) : LinkPath l₀ (longPress seat s).link := by
  unfold longPress
  repeat' first | with_reducible exact h | with_reducible apply promote_path | with_reducible apply enqueuePress_path | with_reducible apply refuse_path | split

theorem voiceStartEvent_path (seat : Seat) (s : State) {l₀ : Link} (h : LinkPath l₀ s.link) : LinkPath l₀ (voiceStartEvent seat s).link := by
  unfold voiceStartEvent
  repeat' first | with_reducible exact h | with_reducible apply openSlot_path | split

theorem silenceEvent_path (seat : Seat) (s : State) {l₀ : Link} (h : LinkPath l₀ s.link) : LinkPath l₀ (silenceEvent seat s).link := by
  unfold silenceEvent
  repeat' first | with_reducible exact h | with_reducible apply closeSeat_path | split

theorem talk_path (seat : Seat) (s : State) {l₀ : Link} (h : LinkPath l₀ s.link) : LinkPath l₀ (talk seat s).link := by
  unfold talk
  repeat' first | with_reducible exact h | with_reducible apply closeChair_path | with_reducible apply openChair_path | with_reducible apply refuse_path | split

theorem chairNext_path (seat : Seat) (s : State) {l₀ : Link} (h : LinkPath l₀ s.link) : LinkPath l₀ (chairNext seat s).link := by
  unfold chairNext
  repeat' first | with_reducible exact h | with_reducible apply refuse_path | with_reducible apply openSlot_path | split

theorem howlSlot_path (seat : Seat) (s : State) {l₀ : Link} (h : LinkPath l₀ s.link) : LinkPath l₀ (howlSlot seat s).link := by
  unfold howlSlot
  repeat' first | with_reducible exact h | with_reducible apply setLocked_path | with_reducible apply closeSeat_path | with_reducible apply post_path | with_reducible apply setFloor_path | split

theorem howlChair_path (seat : Seat) (s : State) {l₀ : Link} (h : LinkPath l₀ s.link) : LinkPath l₀ (howlChair seat s).link := by
  unfold howlChair; dsimp only
  repeat' first | with_reducible exact h | with_reducible apply setLocked_path | with_reducible apply setChairs_path | with_reducible apply post_path | split

theorem howlEvent_path (seat : Seat) (s : State) {l₀ : Link} (h : LinkPath l₀ s.link) : LinkPath l₀ (howlEvent seat s).link := by
  unfold howlEvent
  repeat' first | with_reducible exact h | with_reducible apply howlChair_path | with_reducible apply howlSlot_path | split

theorem howlClearSlot_path (seat : Seat) (s : State) {l₀ : Link} (h : LinkPath l₀ s.link) : LinkPath l₀ (howlClearSlot seat s).link := by
  unfold howlClearSlot
  repeat' first | with_reducible exact h | with_reducible apply restartBlanking_path | with_reducible apply post_path | with_reducible apply setFloor_path | split

theorem howlClearChair_path (seat : Seat) (s : State) {l₀ : Link} (h : LinkPath l₀ s.link) : LinkPath l₀ (howlClearChair seat s).link := by
  unfold howlClearChair
  repeat' first | with_reducible exact h | with_reducible apply restartBlanking_path | with_reducible apply setChairs_path | with_reducible apply post_path | split

theorem howlClearEvent_path (seat : Seat) (s : State) {l₀ : Link} (h : LinkPath l₀ s.link) : LinkPath l₀ (howlClearEvent seat s).link := by
  unfold howlClearEvent
  repeat' first | with_reducible exact h | with_reducible apply howlClearChair_path | with_reducible apply howlClearSlot_path | split

theorem mapSeat_path (seat : Seat) (g : SeatRecord → SeatRecord) (s : State) {l₀ : Link} (h : LinkPath l₀ s.link) : LinkPath l₀ (mapSeat seat g s).link := by
  unfold mapSeat
  repeat' first | with_reducible exact h | with_reducible apply setSeats_path

theorem forgetSeat_path (seat : Seat) (s : State) {l₀ : Link} (h : LinkPath l₀ s.link) : LinkPath l₀ (forgetSeat seat s).link := by
  unfold forgetSeat
  repeat' first | with_reducible exact h | with_reducible apply setSeats_path

theorem takeRequest_path (seat : Seat) (down : Bool) (s : State) {l₀ : Link} (h : LinkPath l₀ s.link) : LinkPath l₀ (takeRequest seat down s).link := by
  unfold takeRequest; dsimp only
  repeat' first | with_reducible exact h | with_reducible apply mapSeat_path | with_reducible apply longPress_path | with_reducible apply shortPress_path | split

theorem takePriority_path (seat : Seat) (down : Bool) (s : State) {l₀ : Link} (h : LinkPath l₀ s.link) : LinkPath l₀ (takePriority seat down s).link := by
  unfold takePriority; dsimp only
  repeat' first | with_reducible exact h | with_reducible apply mapSeat_path | with_reducible apply raiseHold_path | with_reducible apply lowerHold_path | split

theorem takeTalk_path (seat : Seat) (down : Bool) (s : State) {l₀ : Link} (h : LinkPath l₀ s.link) : LinkPath l₀ (takeTalk seat down s).link := by
  unfold takeTalk; dsimp only
  repeat' first | with_reducible exact h | with_reducible apply mapSeat_path | with_reducible apply talk_path | split

theorem takeNext_path (seat : Seat) (down : Bool) (s : State) {l₀ : Link} (h : LinkPath l₀ s.link) : LinkPath l₀ (takeNext seat down s).link := by
  unfold takeNext; dsimp only
  repeat' first | with_reducible exact h | with_reducible apply mapSeat_path | with_reducible apply chairNext_path | split

theorem takeButtons_path (seat : Seat) (b : Buttons) (s : State) {l₀ : Link} (h : LinkPath l₀ s.link) : LinkPath l₀ (takeButtons seat b s).link := by
  unfold takeButtons
  repeat' first | with_reducible exact h | with_reducible apply takeNext_path | with_reducible apply takeTalk_path | with_reducible apply takePriority_path | with_reducible apply takeRequest_path | split

theorem becomeVoiced_path (seat : Seat) (s : State) {l₀ : Link} (h : LinkPath l₀ s.link) : LinkPath l₀ (becomeVoiced seat s).link := by
  unfold becomeVoiced; dsimp only
  repeat' first | with_reducible exact h | with_reducible apply mapSeat_path | with_reducible apply voiceStartEvent_path | split

theorem becomeQuiet_path (seat : Seat) (s : State) {l₀ : Link} (h : LinkPath l₀ s.link) : LinkPath l₀ (becomeQuiet seat s).link := by
  unfold becomeQuiet; dsimp only
  repeat' first | with_reducible exact h | with_reducible apply mapSeat_path | with_reducible apply silenceEvent_path | split

theorem takeVoice_path (seat : Seat) (level : Nat) (s : State) {l₀ : Link} (h : LinkPath l₀ s.link) : LinkPath l₀ (takeVoice seat level s).link := by
  unfold takeVoice
  repeat' first | with_reducible exact h | with_reducible apply becomeVoiced_path | with_reducible apply mapSeat_path | split

theorem raiseHowl_path (seat : Seat) (s : State) {l₀ : Link} (h : LinkPath l₀ s.link) : LinkPath l₀ (raiseHowl seat s).link := by
  unfold raiseHowl; dsimp only
  repeat' first | with_reducible exact h | with_reducible apply mapSeat_path | with_reducible apply howlEvent_path | split

theorem raiseHowlClear_path (seat : Seat) (s : State) {l₀ : Link} (h : LinkPath l₀ s.link) : LinkPath l₀ (raiseHowlClear seat s).link := by
  unfold raiseHowlClear; dsimp only
  repeat' first | with_reducible exact h | with_reducible apply mapSeat_path | with_reducible apply howlClearEvent_path | split

theorem takeLive_path (seat : Seat) (r : SeatRecord) (level : Nat) (s : State) {l₀ : Link} (h : LinkPath l₀ s.link) : LinkPath l₀ (takeLive seat r level s).link := by
  unfold takeLive
  repeat' first | with_reducible exact h | with_reducible apply raiseHowl_path | with_reducible apply mapSeat_path | split

theorem takeLockedSoft_path (seat : Seat) (r : SeatRecord) (level : Nat) (s : State) {l₀ : Link} (h : LinkPath l₀ s.link) : LinkPath l₀ (takeLockedSoft seat r level s).link := by
  unfold takeLockedSoft
  repeat' first | with_reducible exact h | with_reducible apply raiseHowlClear_path | with_reducible apply mapSeat_path | split

theorem takeHowl_path (seat : Seat) (level : Nat) (s : State) {l₀ : Link} (h : LinkPath l₀ s.link) : LinkPath l₀ (takeHowl seat level s).link := by
  unfold takeHowl; dsimp only
  repeat' first | with_reducible exact h | with_reducible apply takeLockedSoft_path | with_reducible apply takeLive_path | with_reducible apply mapSeat_path | split

theorem beginSeat_path (seat : Seat) (b : Buttons) (s : State) {l₀ : Link} (h : LinkPath l₀ s.link) : LinkPath l₀ (beginSeat seat b s).link := by
  unfold beginSeat
  repeat' first | with_reducible exact h | with_reducible apply setSeats_path | split

theorem takeReport_path (seat : Seat) (b : Buttons) (level : Nat) (s : State) {l₀ : Link} (h : LinkPath l₀ s.link) : LinkPath l₀ (takeReport seat b level s).link := by
  unfold takeReport
  repeat' first | with_reducible exact h | with_reducible apply beginSeat_path | with_reducible apply takeHowl_path | with_reducible apply takeVoice_path | with_reducible apply takeButtons_path

theorem quietSeat_path (s : State) (seat : Seat) {l₀ : Link} (h : LinkPath l₀ s.link) : LinkPath l₀ (quietSeat s seat).link := by
  unfold quietSeat
  repeat' first | with_reducible exact h | with_reducible apply becomeQuiet_path | with_reducible apply mapSeat_path | split

theorem warnSlot_path (n : SlotNo) (sl : Slot) (s : State) {l₀ : Link} (h : LinkPath l₀ s.link) : LinkPath l₀ (warnSlot n sl s).link := by
  unfold warnSlot
  repeat' first | with_reducible exact h | with_reducible apply post_path | with_reducible apply setFloor_path | split

theorem timeSlot_path (s : State) (n : SlotNo) {l₀ : Link} (h : LinkPath l₀ s.link) : LinkPath l₀ (timeSlot s n).link := by
  unfold timeSlot; dsimp only
  repeat' first | with_reducible exact h | with_reducible apply warnSlot_path | with_reducible apply closeSlot_path | with_reducible apply setFloor_path | split

theorem mapTrunk_path (w : Wing) (g : Trunk → Trunk) (s : State) {l₀ : Link} (h : LinkPath l₀ s.link) : LinkPath l₀ (mapTrunk w g s).link := by
  unfold mapTrunk
  repeat' first | with_reducible exact h | with_reducible apply setTrunks_path

theorem setEntry_path (p : Place) (e : Option ChainEntry) (s : State) {l₀ : Link} (h : LinkPath l₀ s.link) : LinkPath l₀ (setEntry p e s).link := by
  unfold setEntry
  repeat' first | with_reducible exact h | with_reducible apply setTrunks_path

theorem endPoll_path (w : Wing) (s : State) {l₀ : Link} (h : LinkPath l₀ s.link) : LinkPath l₀ (endPoll w s).link := by
  unfold endPoll
  repeat' first | with_reducible exact h | with_reducible apply mapTrunk_path

theorem becomeReady_path (p : Place) (e : ChainEntry) (seat : Seat) (s : State) {l₀ : Link} (h : LinkPath l₀ s.link) : LinkPath l₀ (becomeReady p e seat s).link := by
  unfold becomeReady; dsimp only
  repeat' first | with_reducible exact h | with_reducible apply post_path | with_reducible apply setTrunks_path

theorem becomeBlocked_path (p : Place) (e : ChainEntry) (kind : BlockKind) (s : State) {l₀ : Link} (h : LinkPath l₀ s.link) : LinkPath l₀ (becomeBlocked p e kind s).link := by
  unfold becomeBlocked; dsimp only
  repeat' first | with_reducible exact h | with_reducible apply setEntry_path | with_reducible apply setBlocked_path | with_reducible apply post_path

theorem settleUnit_path (p : Place) (e : ChainEntry) (s : State) {l₀ : Link} (h : LinkPath l₀ s.link) : LinkPath l₀ (settleUnit p e s).link := by
  unfold settleUnit
  repeat' first | with_reducible exact h | with_reducible apply becomeBlocked_path | with_reducible apply becomeReady_path | split

theorem leaveBlocked_path (p : Place) (s : State) {l₀ : Link} (h : LinkPath l₀ s.link) : LinkPath l₀ (leaveBlocked p s).link := by
  unfold leaveBlocked
  repeat' first | with_reducible exact h | with_reducible apply setBlocked_path

theorem leaveSeat_path (seat : Seat) (reason : CloseReason) (leave : LeaveReason) (s : State) {l₀ : Link} (h : LinkPath l₀ s.link) : LinkPath l₀ (leaveSeat seat reason leave s).link := by
  unfold leaveSeat; dsimp only
  repeat' first | with_reducible exact h | with_reducible apply forgetSeat_path | with_reducible apply withdrawChair_path | with_reducible apply dropBindings_path | with_reducible apply closeSeatQuiet_path | with_reducible apply leaveQueue_path | with_reducible apply setTrunks_path | split

theorem deferredAdvance_path (closed : Bool) (s : State) {l₀ : Link} (h : LinkPath l₀ s.link) : LinkPath l₀ (deferredAdvance closed s).link := by
  unfold deferredAdvance
  repeat' first | with_reducible exact h | with_reducible apply advanceCheck_path | split

theorem loseEffects_path (p : Place) (e : ChainEntry) (s : State) {l₀ : Link} (h : LinkPath l₀ s.link) : LinkPath l₀ (loseEffects p e s).link := by
  unfold loseEffects
  repeat' first | with_reducible exact h | with_reducible apply deferredAdvance_path | with_reducible apply leaveSeat_path | with_reducible apply leaveBlocked_path | with_reducible apply post_path | split

theorem failAssignment_path (p : Place) (cause : AssignFailure) (s : State) {l₀ : Link} (h : LinkPath l₀ s.link) : LinkPath l₀ (failAssignment p cause s).link := by
  unfold failAssignment
  repeat' first | with_reducible exact h | with_reducible apply mapTrunk_path | with_reducible apply post_path | split

theorem loseUnit_path (p : Place) (s : State) {l₀ : Link} (h : LinkPath l₀ s.link) : LinkPath l₀ (loseUnit p s).link := by
  unfold loseUnit
  repeat' first | with_reducible exact h | with_reducible apply failAssignment_path | with_reducible apply loseEffects_path | with_reducible apply setEntry_path | split

theorem recheckBound_path (seat : Seat) (s : State) {l₀ : Link} (h : LinkPath l₀ s.link) : LinkPath l₀ (recheckBound seat s).link := by
  unfold recheckBound; dsimp only
  repeat' first | with_reducible exact h | with_reducible apply deferredAdvance_path | with_reducible apply leaveSeat_path | with_reducible apply becomeBlocked_path | split

theorem recheckBlocked_path (s : State) (b : BlockedEntry) {l₀ : Link} (h : LinkPath l₀ s.link) : LinkPath l₀ (recheckBlocked s b).link := by
  unfold recheckBlocked; dsimp only
  repeat' first | with_reducible exact h | with_reducible apply leaveBlocked_path | with_reducible apply setEntry_path | with_reducible apply setBlocked_path | with_reducible apply post_path | with_reducible apply setTrunks_path | split

theorem recheckSeat_path (seat : Seat) (s : State) {l₀ : Link} (h : LinkPath l₀ s.link) : LinkPath l₀ (recheckSeat seat s).link := by
  unfold recheckSeat
  repeat' first | with_reducible exact h | with_reducible assumption | (intro _ _ _) | with_reducible apply foldl_path | with_reducible apply recheckBlocked_path | with_reducible apply recheckBound_path

theorem ordinaryAnswer_path (p : Place) (e : ChainEntry) (a : TrunkAnswer) (s : State) {l₀ : Link} (h : LinkPath l₀ s.link) : LinkPath l₀ (ordinaryAnswer p e a s).link := by
  unfold ordinaryAnswer; dsimp only
  repeat' first | with_reducible exact h | with_reducible apply settleUnit_path | with_reducible apply setEntry_path | with_reducible apply takeReport_path | split

theorem releaseForAssignment_path (p : Place) (e : ChainEntry) (requested : Seat) (s : State) {l₀ : Link} (h : LinkPath l₀ s.link) : LinkPath l₀ (releaseForAssignment p e requested s).link := by
  unfold releaseForAssignment
  repeat' first | with_reducible exact h | with_reducible apply deferredAdvance_path | with_reducible apply leaveSeat_path | with_reducible apply leaveBlocked_path | split

theorem completeAssignment_path (p : Place) (e : ChainEntry) (a : TrunkAnswer) (requested : Seat) (s : State) {l₀ : Link} (h : LinkPath l₀ s.link) : LinkPath l₀ (completeAssignment p e a requested s).link := by
  unfold completeAssignment; dsimp only
  repeat' first | with_reducible exact h | with_reducible apply releaseForAssignment_path | with_reducible apply becomeBlocked_path | with_reducible apply becomeReady_path | with_reducible apply mapTrunk_path | with_reducible apply post_path | split

theorem takeAnswer_path (p : Place) (a : TrunkAnswer) (s : State) {l₀ : Link} (h : LinkPath l₀ s.link) : LinkPath l₀ (takeAnswer p a s).link := by
  unfold takeAnswer
  repeat' first | with_reducible exact h | with_reducible apply completeAssignment_path | with_reducible apply ordinaryAnswer_path | with_reducible apply loseUnit_path | with_reducible apply setEntry_path | split

theorem takeMiss_path (p : Place) (s : State) {l₀ : Link} (h : LinkPath l₀ s.link) : LinkPath l₀ (takeMiss p s).link := by
  unfold takeMiss; dsimp only
  repeat' first | with_reducible exact h | with_reducible apply loseUnit_path | with_reducible apply setEntry_path | split

theorem timeoutAssignment_path (p : Place) (s : State) {l₀ : Link} (h : LinkPath l₀ s.link) : LinkPath l₀ (timeoutAssignment p s).link := by
  unfold timeoutAssignment
  repeat' first | with_reducible exact h | with_reducible apply failAssignment_path | split

theorem finishPoll_path (w : Wing) (take : Place → State → State) {l₀ : Link}
    (ht : ∀ p s, LinkPath l₀ s.link → LinkPath l₀ (take p s).link) (s : State) (h : LinkPath l₀ s.link) :
    LinkPath l₀ (finishPoll w take s).link := by
  unfold finishPoll
  split
  · exact h
  · exact endPoll_path _ _ (timeoutAssignment_path _ _ (ht _ _ h))

theorem sendPoll_path (w : Wing) (s : State) {l₀ : Link} (h : LinkPath l₀ s.link) : LinkPath l₀ (sendPoll w s).link := by
  unfold sendPoll; dsimp only
  repeat' first | with_reducible exact h | with_reducible apply mapTrunk_path | split

theorem endPollAt_path (p : Place) (s : State) {l₀ : Link} (h : LinkPath l₀ s.link) : LinkPath l₀ (endPollAt p s).link := by
  unfold endPollAt
  repeat' first | with_reducible exact h | with_reducible apply endPoll_path | split

theorem refusalAt_path (w : Wing) (s : State) (p : Pos) {l₀ : Link} (h : LinkPath l₀ s.link) : LinkPath l₀ (refusalAt w s p).link := by
  unfold refusalAt
  repeat' first | with_reducible exact h | with_reducible apply setTrunks_path

theorem takeSeatAssign_path (wing position : Byte) (seat : Half) (s : State) {l₀ : Link} (h : LinkPath l₀ s.link) : LinkPath l₀ (takeSeatAssign wing position seat s).state.link := by
  unfold takeSeatAssign; dsimp only
  repeat' first | with_reducible exact h | with_reducible apply refusedWith_path | with_reducible apply answeredOk_path | with_reducible apply mapTrunk_path | with_reducible apply closeSeat_path | with_reducible apply leaveQueue_path | split

theorem restartPos_path (w : Wing) (s : State) (p : Pos) {l₀ : Link} (h : LinkPath l₀ s.link) : LinkPath l₀ (restartPos w s p).link := by
  unfold restartPos
  repeat' first | with_reducible exact h | with_reducible apply loseUnit_path

theorem takeTrunkRestart_path (wing : Byte) (s : State) {l₀ : Link} (h : LinkPath l₀ s.link) : LinkPath l₀ (takeTrunkRestart wing s).state.link := by
  unfold takeTrunkRestart; dsimp only
  repeat' first | with_reducible exact h | with_reducible assumption | (intro _ _ _) | with_reducible apply foldl_path | with_reducible apply refusedWith_path | with_reducible apply answeredOk_path | with_reducible apply restartPos_path | with_reducible apply failAssignment_path | with_reducible apply mapTrunk_path | split

theorem takeTrunkRead_path (wing start count : Byte) (s : State) {l₀ : Link} (h : LinkPath l₀ s.link) : LinkPath l₀ (takeTrunkRead wing start count s).state.link := by
  unfold takeTrunkRead; dsimp only
  repeat' first | with_reducible exact h | with_reducible apply refusedWith_path | with_reducible apply answeredOk_path | with_reducible apply setDraws_path | split

theorem takeBlockedRead_path (start : Half) (s : State) {l₀ : Link} (h : LinkPath l₀ s.link) : LinkPath l₀ (takeBlockedRead start s).state.link := by
  unfold takeBlockedRead; dsimp only
  repeat' first | with_reducible exact h | with_reducible apply refusedWith_path | with_reducible apply answeredOk_path | split

theorem takePlanSeek_path (index : Half) (direction : Byte) (s : State) {l₀ : Link} (h : LinkPath l₀ s.link) : LinkPath l₀ (takePlanSeek index direction s).state.link := by
  unfold takePlanSeek
  repeat' first | with_reducible exact h | with_reducible apply refusedWith_path | with_reducible apply answeredOk_path | with_reducible apply setCursor_path | split

theorem takePlanGet_path (s : State) {l₀ : Link} (h : LinkPath l₀ s.link) : LinkPath l₀ (takePlanGet s).state.link := by
  unfold takePlanGet
  repeat' first | with_reducible exact h | with_reducible apply refusedWith_path | with_reducible apply answeredOk_path | with_reducible apply setCursor_path | split

theorem leaveDelegate_path (seat : Seat) (now : SeatClass) (s : State) {l₀ : Link} (h : LinkPath l₀ s.link) : LinkPath l₀ (leaveDelegate seat now s).link := by
  unfold leaveDelegate; dsimp only
  repeat' first | with_reducible exact h | with_reducible apply setLocked_path | with_reducible apply dropBindings_path | with_reducible apply closeSeat_path | with_reducible apply leaveQueue_path | split

theorem leaveChair_path (seat : Seat) (now : SeatClass) (s : State) {l₀ : Link} (h : LinkPath l₀ s.link) : LinkPath l₀ (leaveChair seat now s).link := by
  unfold leaveChair; dsimp only
  repeat' first | with_reducible exact h | with_reducible apply setLocked_path | with_reducible apply withdrawChair_path | with_reducible apply setChairs_path | split

theorem addChair_path (seat : Seat) (s : State) {l₀ : Link} (h : LinkPath l₀ s.link) : LinkPath l₀ (addChair seat s).link := by
  unfold addChair
  repeat' first | with_reducible exact h | with_reducible apply setChairs_path

theorem classRequests_path (seat : Seat) (before now : SeatClass) (s : State) {l₀ : Link} (h : LinkPath l₀ s.link) : LinkPath l₀ (classRequests seat before now s).link := by
  unfold classRequests; dsimp only
  repeat' first | with_reducible exact h | with_reducible apply addChair_path | with_reducible apply leaveChair_path | with_reducible apply leaveDelegate_path | split

theorem writePlan_path (seat : Seat) (record : PlanRecord) (s : State) {l₀ : Link} (h : LinkPath l₀ s.link) : LinkPath l₀ (writePlan seat record s).link := by
  unfold writePlan; dsimp only
  repeat' first | with_reducible exact h | with_reducible apply classRequests_path | with_reducible apply recheckSeat_path | with_reducible apply setCursor_path | with_reducible apply setPlan_path

theorem takePlanPut_path (cls locWing locPosition delegation voice : Byte) (s : State) {l₀ : Link} (h : LinkPath l₀ s.link) : LinkPath l₀ (takePlanPut cls locWing locPosition delegation voice s).state.link := by
  unfold takePlanPut; dsimp only
  repeat' first | with_reducible exact h | with_reducible apply refusedWith_path | with_reducible apply answeredOk_path | with_reducible apply writePlan_path | split

theorem takeQueueAdd_path (seat : Half) (kind : Byte) (target : Half) (s : State) {l₀ : Link} (h : LinkPath l₀ s.link) : LinkPath l₀ (takeQueueAdd seat kind target s).state.link := by
  unfold takeQueueAdd; dsimp only
  repeat' first | with_reducible exact h | with_reducible apply refusedWith_path | with_reducible apply answeredOk_path | with_reducible apply enterQueue_path | with_reducible apply setDraws_path | split

theorem takeQueueDrop_path (seat : Half) (s : State) {l₀ : Link} (h : LinkPath l₀ s.link) : LinkPath l₀ (takeQueueDrop seat s).state.link := by
  unfold takeQueueDrop
  repeat' first | with_reducible exact h | with_reducible apply refusedWith_path | with_reducible apply answeredOk_path | with_reducible apply leaveQueue_path | split

theorem emptyQueue_path (reason : LeaveReason) (s : State) {l₀ : Link} (h : LinkPath l₀ s.link) : LinkPath l₀ (emptyQueue reason s).link := by
  unfold emptyQueue
  repeat' first | with_reducible exact h | with_reducible assumption | (intro _ _ _) | with_reducible apply foldl_path | with_reducible apply takeOut_path

theorem takeQueueEmpty_path (s : State) {l₀ : Link} (h : LinkPath l₀ s.link) : LinkPath l₀ (takeQueueEmpty s).state.link := by
  unfold takeQueueEmpty; dsimp only
  repeat' first | with_reducible exact h | with_reducible apply answeredOk_path | with_reducible apply emptyQueue_path | with_reducible apply drainEndTest_path | split

theorem takeQueueRead_path (start count : Byte) (s : State) {l₀ : Link} (h : LinkPath l₀ s.link) : LinkPath l₀ (takeQueueRead start count s).state.link := by
  unfold takeQueueRead; dsimp only
  repeat' first | with_reducible exact h | with_reducible apply refusedWith_path | with_reducible apply answeredOk_path | split

theorem takeListClose_path (limit : Half) (s : State) {l₀ : Link} (h : LinkPath l₀ s.link) : LinkPath l₀ (takeListClose limit s).state.link := by
  unfold takeListClose
  repeat' first | with_reducible exact h | with_reducible apply refusedWith_path | with_reducible apply answeredOk_path | with_reducible apply advanceCheck_path | with_reducible apply drainEndTest_path | with_reducible apply setList_path | split

theorem takeListOpen_path (s : State) {l₀ : Link} (h : LinkPath l₀ s.link) : LinkPath l₀ (takeListOpen s).state.link := by
  unfold takeListOpen
  repeat' first | with_reducible exact h | with_reducible apply answeredOk_path | with_reducible apply setList_path | split

theorem takeFloorGrant_path (seat : Half) (protect : Byte) (s : State) {l₀ : Link} (h : LinkPath l₀ s.link) : LinkPath l₀ (takeFloorGrant seat protect s).state.link := by
  unfold takeFloorGrant; dsimp only
  repeat' first | with_reducible exact h | with_reducible apply refusedWith_path | with_reducible apply answeredOk_path | with_reducible apply openSlot_path | split

theorem takeFloorNext_path (s : State) {l₀ : Link} (h : LinkPath l₀ s.link) : LinkPath l₀ (takeFloorNext s).state.link := by
  unfold takeFloorNext; dsimp only
  repeat' first | with_reducible exact h | with_reducible apply refusedWith_path | with_reducible apply answeredOk_path | with_reducible apply openSlot_path | split

theorem takeFloorRevoke_path (seat : Half) (s : State) {l₀ : Link} (h : LinkPath l₀ s.link) : LinkPath l₀ (takeFloorRevoke seat s).state.link := by
  unfold takeFloorRevoke
  repeat' first | with_reducible exact h | with_reducible apply refusedWith_path | with_reducible apply answeredOk_path | with_reducible apply closeSeat_path | split

theorem takeFloorClear_path (s : State) {l₀ : Link} (h : LinkPath l₀ s.link) : LinkPath l₀ (takeFloorClear s).state.link := by
  unfold takeFloorClear
  repeat' first | with_reducible exact h | with_reducible apply answeredOk_path | with_reducible apply closeGroup_path | with_reducible apply advanceCheck_path

theorem takeFloorRead_path (start : Half) (s : State) {l₀ : Link} (h : LinkPath l₀ s.link) : LinkPath l₀ (takeFloorRead start s).state.link := by
  unfold takeFloorRead; dsimp only
  repeat' first | with_reducible exact h | with_reducible apply refusedWith_path | with_reducible apply answeredOk_path | with_reducible apply setDraws_path | split

theorem takeWingMask_path (mask : Byte) (s : State) {l₀ : Link} (h : LinkPath l₀ s.link) : LinkPath l₀ (takeWingMask mask s).state.link := by
  unfold takeWingMask; dsimp only
  repeat' first | with_reducible exact h | with_reducible apply refusedWith_path | with_reducible apply answeredOk_path | with_reducible apply closeGroup_path | with_reducible apply advanceCheck_path | with_reducible apply drainEndTest_path | with_reducible apply setFloor_path | split

theorem takeUnlock_path (seat : Half) (s : State) {l₀ : Link} (h : LinkPath l₀ s.link) : LinkPath l₀ (takeUnlock seat s).state.link := by
  unfold takeUnlock; dsimp only
  repeat' first | with_reducible exact h | with_reducible apply refusedWith_path | with_reducible apply answeredOk_path | with_reducible apply setLocked_path | with_reducible apply advanceCheck_path | with_reducible apply drainEndTest_path | split

theorem takeFloorExtend_path (seat decis : Half) (s : State) {l₀ : Link} (h : LinkPath l₀ s.link) : LinkPath l₀ (takeFloorExtend seat decis s).state.link := by
  unfold takeFloorExtend; dsimp only
  repeat' first | with_reducible exact h | with_reducible apply refusedWith_path | with_reducible apply answeredOk_path | with_reducible apply setFloor_path | split

theorem setLow_path (l : List AccountNo) (s : State) {l₀ : Link} (h : LinkPath l₀ s.link) : LinkPath l₀ (setLow l s).link := by
  unfold setLow
  repeat' first | with_reducible exact h | with_reducible apply noteOwners_path | with_reducible apply setAllowance_path

theorem setRecovered_path (l : List AccountNo) (s : State) {l₀ : Link} (h : LinkPath l₀ s.link) : LinkPath l₀ (setRecovered l s).link := by
  unfold setRecovered
  repeat' first | with_reducible exact h | with_reducible apply noteOwners_path | with_reducible apply setAllowance_path

theorem setAccount_path (a : AccountNo) (r : Account) (s : State) {l₀ : Link} (h : LinkPath l₀ s.link) : LinkPath l₀ (setAccount a r s).link := by
  unfold setAccount
  repeat' first | with_reducible exact h | with_reducible apply setAllowance_path

theorem crossingTest_path (a : AccountNo) (s : State) {l₀ : Link} (h : LinkPath l₀ s.link) : LinkPath l₀ (crossingTest a s).link := by
  unfold crossingTest; dsimp only
  repeat' first | with_reducible exact h | with_reducible apply setAccount_path | with_reducible apply setRecovered_path | with_reducible apply setLow_path | split

theorem expireAccount_path (view : State) (mode : AllowanceMode) (s : State) (a : AccountNo) {l₀ : Link} (h : LinkPath l₀ s.link) : LinkPath l₀ (expireAccount view mode s a).link := by
  unfold expireAccount; dsimp only
  repeat' first | with_reducible exact h | with_reducible apply crossingTest_path | with_reducible apply setAccount_path | split

theorem closeSpent_path (seats : List Seat) (s : State) {l₀ : Link} (h : LinkPath l₀ s.link) : LinkPath l₀ (closeSpent seats s).link := by
  unfold closeSpent; dsimp only
  repeat' first | with_reducible exact h | with_reducible assumption | (intro _ _ _) | with_reducible apply foldl_path | with_reducible apply closeSeatQuiet_path | with_reducible apply advanceCheck_path | split

theorem expireAccounts_path (mode : AllowanceMode) (s : State) {l₀ : Link} (h : LinkPath l₀ s.link) : LinkPath l₀ (expireAccounts mode s).link := by
  unfold expireAccounts
  repeat' first | with_reducible exact h | with_reducible assumption | (intro _ _ _) | with_reducible apply foldl_path | with_reducible apply closeSpent_path | with_reducible apply expireAccount_path

theorem takeAccountSet_path (account : Half) (balance : BitVec 32) (cap rate low delta : Half) (s : State) {l₀ : Link} (h : LinkPath l₀ s.link) : LinkPath l₀ (takeAccountSet account balance cap rate low delta s).state.link := by
  unfold takeAccountSet; dsimp only
  repeat' first | with_reducible exact h | with_reducible apply refusedWith_path | with_reducible apply answeredOk_path | with_reducible apply crossingTest_path | with_reducible apply setAccount_path | split

theorem takeAccountRead_path (start : Half) (count : Byte) (s : State) {l₀ : Link} (h : LinkPath l₀ s.link) : LinkPath l₀ (takeAccountRead start count s).state.link := by
  unfold takeAccountRead; dsimp only
  repeat' first | with_reducible exact h | with_reducible apply refusedWith_path | with_reducible apply answeredOk_path | with_reducible apply setDraws_path | split

theorem takeLowRead_path (count : Byte) (s : State) {l₀ : Link} (h : LinkPath l₀ s.link) : LinkPath l₀ (takeLowRead count s).state.link := by
  unfold takeLowRead
  repeat' first | with_reducible exact h | with_reducible apply refusedWith_path | with_reducible apply answeredOk_path | with_reducible apply setLow_path | split

theorem takeRecoveredRead_path (count : Byte) (s : State) {l₀ : Link} (h : LinkPath l₀ s.link) : LinkPath l₀ (takeRecoveredRead count s).state.link := by
  unfold takeRecoveredRead
  repeat' first | with_reducible exact h | with_reducible apply refusedWith_path | with_reducible apply answeredOk_path | with_reducible apply setRecovered_path | split

theorem qualifyPins_path (s : State) {l₀ : Link} (h : LinkPath l₀ s.link) : LinkPath l₀ (qualifyPins s).link := by
  unfold qualifyPins
  repeat' first | with_reducible exact h | with_reducible apply changeProfile_path | split

theorem takeProfilePut_path (number : Byte) (record : RawProfile) (s : State) {l₀ : Link} (h : LinkPath l₀ s.link) : LinkPath l₀ (takeProfilePut number record s).state.link := by
  unfold takeProfilePut; dsimp only
  repeat' first | with_reducible exact h | with_reducible apply refusedWith_path | with_reducible apply answeredOk_path | with_reducible apply changeProfile_path | with_reducible apply setProfiles_path | split

theorem takeProfileGet_path (number : Byte) (s : State) {l₀ : Link} (h : LinkPath l₀ s.link) : LinkPath l₀ (takeProfileGet number s).state.link := by
  unfold takeProfileGet
  repeat' first | with_reducible exact h | with_reducible apply refusedWith_path | with_reducible apply answeredOk_path | split

theorem applySelected_path (cause : ChangeCause) (s : State) {l₀ : Link} (h : LinkPath l₀ s.link) : LinkPath l₀ (applySelected cause s).link := by
  unfold applySelected
  repeat' first | with_reducible exact h | with_reducible apply changeProfile_path | split

theorem takeProfileSelect_path (number : Byte) (s : State) {l₀ : Link} (h : LinkPath l₀ s.link) : LinkPath l₀ (takeProfileSelect number s).state.link := by
  unfold takeProfileSelect; dsimp only
  repeat' first | with_reducible exact h | with_reducible apply refusedWith_path | with_reducible apply answeredOk_path | with_reducible apply applySelected_path | with_reducible apply setProfiles_path | split

theorem takeProfileSource_path (source : Byte) (s : State) {l₀ : Link} (h : LinkPath l₀ s.link) : LinkPath l₀ (takeProfileSource source s).state.link := by
  unfold takeProfileSource; dsimp only
  repeat' first | with_reducible exact h | with_reducible apply refusedWith_path | with_reducible apply answeredOk_path | with_reducible apply applySelected_path | with_reducible apply setProfiles_path | split

theorem takeProfileInForce_path (s : State) {l₀ : Link} (h : LinkPath l₀ s.link) : LinkPath l₀ (takeProfileInForce s).state.link := by
  unfold takeProfileInForce; dsimp only
  repeat' first | with_reducible exact h | with_reducible apply answeredOk_path

/-! ### What a path keeps -/

/-- The order unit's own fields that no notice and no change of the summary touches. -/
structure LinkRest where
  stage : ReceiveStage
  answer : AnswerRegister
  heldFrame : Option (List Byte)
  mask : BitVec 24
  dropped : Bool
  droppedMark : Bool
  clock : Clock
  restart : RestartPhase

/-- Those fields of a link. -/
def Link.rest (l : Link) : LinkRest :=
  ⟨l.stage, l.answer, l.heldFrame, l.mask, l.dropped, l.droppedMark, l.clock, l.restart⟩

@[simp] theorem Link.rest_startWaiting (o : OwnerBits) (l : Link) : (l.startWaiting o).rest = l.rest := by
  unfold Link.startWaiting; (repeat' split) <;> rfl

@[simp] theorem Link.rest_raise (o : OwnerBits) (l : Link) : (l.raise o).rest = l.rest := by
  unfold Link.raise; split
  · rw [Link.rest_startWaiting]; rfl
  · rfl

@[simp] theorem Link.rest_post (o : OwnerBits) (b : NoticeBody) (l : Link) : (l.post o b).rest = l.rest := by
  unfold Link.post Link.loseNotice; dsimp only
  (repeat' split) <;> first | rfl | (rw [Link.rest_startWaiting]; rfl) | (rw [Link.rest_raise]; rfl)

theorem LinkPath.rest {l m : Link} (h : LinkPath l m) : m.rest = l.rest :=
  h.closed (fun x => x.rest = l.rest) (fun _ _ _ hx => by rw [Link.rest_post, hx]) (fun _ _ hx => by rw [Link.rest_raise, hx])
    rfl

theorem LinkPath.stage {l m : Link} (h : LinkPath l m) : m.stage = l.stage := congrArg LinkRest.stage h.rest
theorem LinkPath.answer {l m : Link} (h : LinkPath l m) : m.answer = l.answer := congrArg LinkRest.answer h.rest
theorem LinkPath.heldFrame {l m : Link} (h : LinkPath l m) : m.heldFrame = l.heldFrame := congrArg LinkRest.heldFrame h.rest
theorem LinkPath.mask {l m : Link} (h : LinkPath l m) : m.mask = l.mask := congrArg LinkRest.mask h.rest
theorem LinkPath.dropped {l m : Link} (h : LinkPath l m) : m.dropped = l.dropped := congrArg LinkRest.dropped h.rest
theorem LinkPath.droppedMark {l m : Link} (h : LinkPath l m) : m.droppedMark = l.droppedMark :=
  congrArg LinkRest.droppedMark h.rest
theorem LinkPath.clock {l m : Link} (h : LinkPath l m) : m.clock = l.clock := congrArg LinkRest.clock h.rest
theorem LinkPath.restart {l m : Link} (h : LinkPath l m) : m.restart = l.restart := congrArg LinkRest.restart h.rest

/-- While an answer waits or is owed, or a frame is being sent, nothing starts: the transmitter stays as it is and the
queued notices stay at the head of the queue (R162). -/
def Link.Quiet (l : Link) : Prop := l.tx ≠ .idle ∨ l.answer ≠ .empty

theorem Link.startWaiting_quiet (o : OwnerBits) {l : Link} (h : l.Quiet) : l.startWaiting o = l := by
  unfold Link.startWaiting
  rw [if_neg]
  rintro ⟨h1, h2⟩
  rcases h with h | h <;> contradiction

theorem Link.raise_quiet (o : OwnerBits) {l : Link} (h : l.Quiet) :
    l.raise o = if conditionsEnabled l.mask then { l with conditions := true } else l := by
  unfold Link.raise
  split
  · exact Link.startWaiting_quiet o h
  · rfl

/-- A posted notice with room for it, on a quiet link: it joins the tail unless its kind is masked (R159). -/
theorem Link.post_quiet (o : OwnerBits) (b : NoticeBody) {l : Link} (h : l.Quiet) (room : l.notices.length < 32) :
    l.post o b = if b.enabled l.mask then { l with notices := l.notices ++ [⟨l.clock, b⟩] } else l := by
  unfold Link.post
  split
  · rw [if_pos (by exact room)]; exact Link.startWaiting_quiet o h
  · rfl

theorem LinkPath.quiet {l m : Link} (h : LinkPath l m) (q : l.Quiet) : m.tx = l.tx ∧ l.notices <+: m.notices := by
  have key : m.Quiet ∧ m.tx = l.tx ∧ l.notices <+: m.notices := by
    refine h.closed (fun x => x.Quiet ∧ x.tx = l.tx ∧ l.notices <+: x.notices) ?_ ?_ ⟨q, rfl, List.prefix_rfl⟩
    · rintro o b x ⟨hq, ht, hn⟩
      unfold Link.post
      split
      · split
        · rw [Link.startWaiting_quiet o (l := { x with notices := x.notices ++ [⟨x.clock, b⟩] }) hq]
          exact ⟨hq, ht, hn.trans (List.prefix_append _ _)⟩
        · unfold Link.loseNotice; dsimp only
          split
          · exact ⟨hq, ht, hn⟩
          · rw [Link.raise_quiet o (l := { x with lost := true, lostMark := x.lostMark || x.statusOutstanding }) hq]
            split <;> exact ⟨hq, ht, hn⟩
      · exact ⟨hq, ht, hn⟩
    · rintro o x ⟨hq, ht, hn⟩
      rw [Link.raise_quiet o hq]
      split <;> exact ⟨hq, ht, hn⟩
  exact key.2

/-- Every order but NOTICE MASK and FLOOR RESET reaches the link only by notices and changes of the summary. -/
theorem deliver_path (i : Instr) (hm : ∀ m, i ≠ .noticeMask m) (hr : i ≠ .floorReset) (s : State) {l₀ : Link}
    (h : LinkPath l₀ s.link) : LinkPath l₀ (deliver i s).state.link := by
  cases i <;> unfold deliver <;>
    first
    | exact absurd rfl hr
    | exact absurd rfl (hm _)
    | exact h
    | (with_reducible first
        | apply takePlanSeek_path | apply takePlanPut_path | apply takePlanGet_path | apply takeSeatAssign_path
        | apply takeTrunkRead_path | apply takeBlockedRead_path | apply takeTrunkRestart_path | apply takeQueueAdd_path
        | apply takeQueueDrop_path | apply takeQueueEmpty_path | apply takeQueueRead_path | apply takeFloorGrant_path
        | apply takeFloorNext_path | apply takeFloorRevoke_path | apply takeFloorClear_path | apply takeFloorRead_path
        | apply takeWingMask_path | apply takeUnlock_path | apply takeFloorExtend_path | apply takeAccountSet_path
        | apply takeAccountRead_path | apply takeLowRead_path | apply takeRecoveredRead_path | apply takeProfilePut_path
        | apply takeProfileGet_path | apply takeProfileSelect_path | apply takeProfileSource_path
        | apply takeProfileInForce_path | apply takeListClose_path | apply takeListOpen_path) <;> exact h

end Sys2Proof.Machine
end

