-- ==== Sys2Proof/Laws/OrderLaws.lean ====
section
/-! SUPPORT. What taking an order comes to: with the answer register empty and no frame held, the state of its delivery with
its answer handed to the transmitter. -/

namespace Sys2Proof.Machine

/-- An event has its effect while RESET is not held. -/
theorem whileRunning_running {s : State} (h : s.resetHeld = false) (f : State → State) : whileRunning s f = .next (f s) := by
  simp [whileRunning, h]

/-- An answer other than STATUS's, placed in the register while the transmitter stands as it does, is handed on. -/
theorem choose_placed (a : Answer) (s : State) (hs : a.isStatus = false) (hf : s.link.heldFrame = none) :
    chooseFrame (placeAnswer a s) = withAnswer a s := by
  cases ht : s.link.tx <;> simp [chooseFrame, placeAnswer, withAnswer, beginAnswer, ht, hs, hf, State.setLink]

/-- Keeping the answer's place is undone by the answer. -/
@[simp] theorem withAnswer_oweAnswer (a : Answer) (s : State) : withAnswer a (oweAnswer s) = withAnswer a s := by
  simp only [withAnswer, oweAnswer, State.setLink_link]
  cases s.link.tx <;> simp [State.setLink]

@[simp] theorem summary_oweAnswer (s : State) : summary (oweAnswer s) = summary s := rfl

/-- The kind byte of an order other than STATUS answers under another kind than STATUS's. -/
theorem answerKind_ne {i : Instr} {k : Byte} (hk : orderKind i = some k) (hi : i ≠ .status) : k + 0x80 ≠ 0x81 := by
  cases i <;> first
    | exact absurd rfl hi
    | (cases Option.some.inj hk; decide)
    | cases hk

/-- An order taken at once: the state of its delivery, with its answer handed to the transmitter (R155, R156, R162). -/
theorem submit_taken {i : Instr} {k : Byte} (hk : orderKind i = some k) (hi : i ≠ .status) {s : State}
    (h : TakesOrders s) (hh : (deliver i (oweAnswer s)).state.link.heldFrame = none) :
    submit i s = .next (withAnswer (answerTo k (deliver i (oweAnswer s))) (deliver i (oweAnswer s)).state) := by
  obtain ⟨hr, ha, -⟩ := h
  have hst : (answerTo k (deliver i (oweAnswer s))).isStatus = false := by
    have := answerKind_ne hk hi
    simp only [Answer.isStatus, answerTo, Bool.and_eq_false_iff, beq_eq_false_iff_ne]
    exact .inl this
  simp only [submit, whileRunning, hr, submitOrder, ha, takeOrder, hk, Option.getD_some]
  rw [choose_placed _ _ hst hh]
  rfl

/-- The orders that reach the link by notices and changes of the summary alone. -/
theorem submit_path {i : Instr} {k : Byte} (hk : orderKind i = some k) (hi : i ≠ .status)
    (hm : ∀ m, i ≠ .noticeMask m) (hfr : i ≠ .floorReset) {s : State} (h : TakesOrders s) :
    submit i s = .next (withAnswer (answerTo k (deliver i (oweAnswer s))) (deliver i (oweAnswer s)).state) ∧
      LinkPath (oweAnswer s).link (deliver i (oweAnswer s)).state.link := by
  have p := deliver_path i hm hfr (oweAnswer s) .refl
  exact ⟨submit_taken hk hi h (p.heldFrame.trans h.2.2), p⟩

/-- A refused order leaves the state and answers its code. -/
theorem submit_refused {i : Instr} {k : Byte} (hk : orderKind i = some k) (hi : i ≠ .status) {s : State}
    (h : TakesOrders s) {c : ResultCode} (hd : deliver i (oweAnswer s) = refusedWith c (oweAnswer s)) :
    submit i s = .next (answered k c [] s) := by
  rw [submit_taken hk hi h (by rw [hd]; exact h.2.2), hd]
  simp only [answered, answerTo, answerIn, refusedWith, withAnswer_oweAnswer, summary_oweAnswer]
  cases c <;> rfl

/-- An order answered OK whose effect leaves the link alone. -/
theorem submit_ok {i : Instr} {k : Byte} (hk : orderKind i = some k) (hi : i ≠ .status) {s t : State}
    (h : TakesOrders s) {d : List Byte} (hd : deliver i (oweAnswer s) = answeredOk (oweAnswer t) d)
    (ht : t.link = s.link) : submit i s = .next (answered k .ok d t) := by
  rw [submit_taken hk hi h (by rw [hd]; exact (congrArg Link.heldFrame ht).trans h.2.2), hd]
  simp [answered, answerTo, answerIn]

/-- What a handed-on answer leaves. -/
theorem withAnswer_eq (a : Answer) (s : State) : ∃ l : Link, withAnswer a s = s.setLink l ∧ l.rest.stage = s.link.stage ∧
    l.notices = s.link.notices := by
  refine ⟨_, rfl, ?_, ?_⟩ <;> cases s.link.tx <;> rfl

@[simp] theorem withAnswer_keeps (a : Answer) (s : State) :
    KeepsTrunks s (withAnswer a s) ∧ (withAnswer a s).seats = s.seats ∧ (withAnswer a s).queue = s.queue ∧
      (withAnswer a s).floor = s.floor := by simp [withAnswer, Keeps, KeepsTrunks]

/-- The bits of the summary do not read the answer or the transmitter. -/
theorem summary_withAnswer (a : Answer) (s : State) : summary (withAnswer a s) = summary s := by
  unfold withAnswer
  cases s.link.tx <;> rfl

/-- An order that was taken holds its answer, and the order unit's own stores stand as they did. -/
theorem answers_of_path {s t : State} {k : Byte} {c : ResultCode} {d : List Byte} (ha : s.link.answer = .empty)
    (p : LinkPath (oweAnswer s).link t.link) :
    Answers s (withAnswer (answerIn t k c d) t) k c d ∧ LinkFrame s (withAnswer (answerIn t k c d) t) := by
  have q := p.quiet (.inr (by simp [oweAnswer]))
  have ht : t.link.tx = s.link.tx := q.1
  have he : answerIn (withAnswer (answerIn t k c d) t) k c d = answerIn t k c d := by
    simp [answerIn, summary_withAnswer]
  constructor
  · unfold Answers
    rw [he]
    cases hx : s.link.tx <;> simp [withAnswer, ht, hx, State.setLink]
  · have hs := p.stage; have hh := p.heldFrame; have hc := p.clock; have hm := p.mask
    have hr := p.restart; have hd := p.dropped; have hdm := p.droppedMark
    have hq := q.2
    constructor <;> unfold withAnswer <;> cases s.link.tx <;> cases t.link.tx <;>
      first | exact hs | exact hh | exact hc | exact hm | exact hr | exact hd | exact hdm | exact hq

end Sys2Proof.Machine
end

