-- ==== Sys2Proof/Laws/PerInstr.lean ====
section
/-! SUPPORT. Statements made command by command. `BodyLength`: the length that the table of section 11.1 gives an order's kind
is the length of the body that its layout in section 11.2 gives it. -/

namespace Sys2Proof.Laws.BodyLength

/-- The body of an order has the length that its kind calls for; a command that is no order has no kind. -/
def Statement (i : Instr) : Prop := ∀ k, orderKind i = some k → bodyLength k = some (orderBody i).length

theorem powerReset : Statement .powerReset := by
  intro k h
  cases h

theorem resetPin (lowNs : Nat) : Statement (.resetPin lowNs) := by
  intro k h
  cases h

theorem receiveByte (b : Byte) : Statement (.receiveByte b) := by
  intro k h
  cases h

theorem receiveGapTimeout : Statement .receiveGapTimeout := by
  intro k h
  cases h

theorem transmitFrameEnd : Statement .transmitFrameEnd := by
  intro k h
  cases h

theorem deciExpiry : Statement .deciExpiry := by
  intro k h
  cases h

theorem restarted : Statement .restarted := by
  intro k h
  cases h

theorem speechTimingExpiry : Statement .speechTimingExpiry := by
  intro k h
  cases h

theorem timeLimitClose (slot : Nat) : Statement (.timeLimitClose slot) := by
  intro k h
  cases h

theorem allowanceExpiry : Statement .allowanceExpiry := by
  intro k h
  cases h

theorem seatInputExpiry : Statement .seatInputExpiry := by
  intro k h
  cases h

theorem silence (seat : Seat) : Statement (.silence seat) := by
  intro k h
  cases h

theorem pselSample (pins : BitVec 4) : Statement (.pselSample pins) := by
  intro k h
  cases h

theorem profilePinsQualify : Statement .profilePinsQualify := by
  intro k h
  cases h

theorem refusalCountExpiry (wing : Wing) : Statement (.refusalCountExpiry wing) := by
  intro k h
  cases h

theorem pollGoodAnswer (wing : Wing) (answer : List Byte) : Statement (.pollGoodAnswer wing answer) := by
  intro k h
  cases h

theorem pollMissedAnswer (wing : Wing) : Statement (.pollMissedAnswer wing) := by
  intro k h
  cases h

theorem settleComplete (wing : Wing) (position : Nat) : Statement (.settleComplete wing position) := by
  intro k h
  cases h

theorem unitLost (wing : Wing) (position : Nat) : Statement (.unitLost wing position) := by
  intro k h
  cases h

theorem assignTimeout (wing : Wing) : Statement (.assignTimeout wing) := by
  intro k h
  cases h

theorem voiceStart (seat : Seat) : Statement (.voiceStart seat) := by
  intro k h
  cases h

theorem howl (seat : Seat) : Statement (.howl seat) := by
  intro k h
  cases h

theorem howlClear (seat : Seat) : Statement (.howlClear seat) := by
  intro k h
  cases h

theorem planSeek (index : Half) (direction : Byte) : Statement (.planSeek index direction) := by
  intro k h
  cases h
  rfl

theorem planPut (cls locWing locPosition delegation voice : Byte) : Statement (.planPut cls locWing locPosition delegation voice) := by
  intro k h
  cases h
  rfl

theorem planGet : Statement .planGet := by
  intro k h
  cases h
  rfl

theorem seatAssign (wing position : Byte) (seat : Half) : Statement (.seatAssign wing position seat) := by
  intro k h
  cases h
  rfl

theorem trunkRead (wing start count : Byte) : Statement (.trunkRead wing start count) := by
  intro k h
  cases h
  rfl

theorem blockedRead (start : Half) : Statement (.blockedRead start) := by
  intro k h
  cases h
  rfl

theorem trunkRestart (wing : Byte) : Statement (.trunkRestart wing) := by
  intro k h
  cases h
  rfl

theorem queueAdd (seat : Half) (kind : Byte) (target : Half) : Statement (.queueAdd seat kind target) := by
  intro k h
  cases h
  rfl

theorem queueDrop (seat : Half) : Statement (.queueDrop seat) := by
  intro k h
  cases h
  rfl

theorem queueEmpty : Statement .queueEmpty := by
  intro k h
  cases h
  rfl

theorem queueRead (start count : Byte) : Statement (.queueRead start count) := by
  intro k h
  cases h
  rfl

theorem floorGrant (seat : Half) (protect : Byte) : Statement (.floorGrant seat protect) := by
  intro k h
  cases h
  rfl

theorem floorNext : Statement .floorNext := by
  intro k h
  cases h
  rfl

theorem floorRevoke (seat : Half) : Statement (.floorRevoke seat) := by
  intro k h
  cases h
  rfl

theorem floorClear : Statement .floorClear := by
  intro k h
  cases h
  rfl

theorem floorRead (start : Half) : Statement (.floorRead start) := by
  intro k h
  cases h
  rfl

theorem wingMask (mask : Byte) : Statement (.wingMask mask) := by
  intro k h
  cases h
  rfl

theorem unlock (seat : Half) : Statement (.unlock seat) := by
  intro k h
  cases h
  rfl

theorem floorReset : Statement .floorReset := by
  intro k h
  cases h
  rfl

theorem floorExtend (seat decis : Half) : Statement (.floorExtend seat decis) := by
  intro k h
  cases h
  rfl

theorem accountSet (account : Half) (balance : BitVec 32) (cap rate low delta : Half) : Statement (.accountSet account balance cap rate low delta) := by
  intro k h
  cases h
  rfl

theorem accountRead (start : Half) (count : Byte) : Statement (.accountRead start count) := by
  intro k h
  cases h
  rfl

theorem lowRead (count : Byte) : Statement (.lowRead count) := by
  intro k h
  cases h
  rfl

theorem recoveredRead (count : Byte) : Statement (.recoveredRead count) := by
  intro k h
  cases h
  rfl

theorem profilePut (number : Byte) (record : RawProfile) : Statement (.profilePut number record) := by
  intro k h
  cases h
  rfl

theorem profileGet (number : Byte) : Statement (.profileGet number) := by
  intro k h
  cases h
  rfl

theorem profileSelect (number : Byte) : Statement (.profileSelect number) := by
  intro k h
  cases h
  rfl

theorem profileSource (source : Byte) : Statement (.profileSource source) := by
  intro k h
  cases h
  rfl

theorem profileInForce : Statement .profileInForce := by
  intro k h
  cases h
  rfl

theorem listClose (limit : Half) : Statement (.listClose limit) := by
  intro k h
  cases h
  rfl

theorem listOpen : Statement .listOpen := by
  intro k h
  cases h
  rfl

theorem status : Statement .status := by
  intro k h
  cases h
  rfl

theorem noticeMask (mask : BitVec 24) : Statement (.noticeMask mask) := by
  intro k h
  cases h
  rfl

theorem identify : Statement .identify := by
  intro k h
  cases h
  rfl

theorem pollSent (wing : Wing) : Statement (.pollSent wing) := by
  intro k h
  cases h

theorem resetHeldLow : Statement .resetHeldLow := by
  intro k h
  cases h

theorem refclkReturns : Statement .refclkReturns := by
  intro k h
  cases h

end Sys2Proof.Laws.BodyLength
end

