-- ==== Sys2Proof/WellFormed.lean ====
section
/-! DEFINITION. Which commands can arise: the ranges that the manual gives the operands of an event. An order is any
frame of its kind, since a field out of range is sent as any other and refused by the part (R168). -/

namespace Sys2Proof

/-- A position number of a chain lies in 1–128 (R18). -/
def positionOk (p : Nat) : Bool := 1 ≤ p && p ≤ 128

/-- A slot number lies in 1–8 (R77). -/
def slotOk (n : Nat) : Bool := 1 ≤ n && n ≤ 8

/-- An answer frame of a trunk has six bytes (section 11.4). -/
def answerOk (bytes : List Byte) : Bool := bytes.length == 6

/-- The operands of a command lie in the ranges the manual gives them. -/
def WellFormed : Instr → Bool
  | .timeLimitClose slot => slotOk slot
  | .pollGoodAnswer _ answer => answerOk answer
  | .settleComplete _ position => positionOk position
  | .unitLost _ position => positionOk position
  | _ => true

end Sys2Proof
end

