-- ==== Sys2Proof/Tests/Slice0.lean ====
section
/-! SUPPORT. Small tests: the smoke test of WellFormed, frames written out from chapter 11, one step of each command on a
small state with its result worked out from the rules or taken from the worked sessions (chapter 12), and for every statement
with hypotheses a state and operands that meet them. -/

namespace Sys2Proof.Tests

open Sys2Proof.Machine

/-! ### Small states -/

/-- The transmitter is at work on a frame, so that notices stay queued. -/
def atWork (s : State) : State := { s with link := { s.link with tx := .sending (.notice ⟨0, .restarted⟩) } }

/-- The part right after a power reset, with its transmitter at work. -/
def live : State := atWork State.reset

/-- A change of profile 0, the profile in force after a power reset. -/
def withProfile (g : Profile → Profile) (s : State) : State :=
  { s with profiles := { s.profiles with records := put s.profiles.records 0 (g s.profiles.records[(0 : ProfileNo)]) } }

/-- Auto advance is no. -/
def quiet (s : State) : State := withProfile (fun p => { p with autoAdvance := false }) s

/-- A seat of a class with a READY unit at a place, and voice permit yes. -/
def seated (seat : Seat) (cls : SeatClass) (w : Wing) (pos : Pos) (b : Buttons) (s : State) : State :=
  { s with
    plan := put s.plan seat ⟨cls, none, 0, true⟩
    trunks := (s.trunks.putEntry ⟨w, pos⟩ (some ⟨some seat, b, .ready, 16, 0, 0, 0⟩)).bind seat (some ⟨w, pos⟩) }

/-- A DELEGATE seat with a READY unit. -/
def delegate (seat : Seat) (w : Wing) (pos : Pos) (s : State) : State := seated seat .delegate w pos (.delegate false) s

/-- A chain entry at a place. -/
def unitAt (w : Wing) (pos : Pos) (e : ChainEntry) (s : State) : State :=
  { s with trunks := s.trunks.putEntry ⟨w, pos⟩ (some e) }

/-- A slot is occupied. -/
def speaking (n : SlotNo) (sl : Slot) (s : State) : State :=
  { s with floor := { s.floor with
    slots := put s.floor.slots n (some sl), speakers := s.floor.speakers ++ [n], free := s.floor.free.erase n } }

/-- An OPEN slot with origin PRESS, as it is opened. -/
def plain (seat : Seat) : Slot := ⟨seat, .open, .press, false, 0, 0, none, false, 0, false⟩

/-- The queue holds entries. -/
def waiting (es : List QueueEntry) (s : State) : State := { s with queue := { s.queue with entries := es } }

/-- An ORDINARY entry made by a press. -/
def entry (seat : Seat) : QueueEntry := ⟨seat, .ordinary, none, false, 0, .press⟩

/-- A seat record. -/
def recorded (seat : Seat) (r : SeatRecord) (s : State) : State := { s with seats := put s.seats seat (some r) }

/-- The record a first report with REQUEST up sets. -/
def silent : SeatRecord := SeatRecord.first (.delegate false)

/-- The list drains with a limit. -/
def draining (limit : Nat) (s : State) : State :=
  { s with queue := { s.queue with list := .draining, drainLimit := some limit } }

/-- A poll in progress to a position of wing A. -/
def polling (pos : Pos) (s : State) : State :=
  { s with trunks := { s.trunks with
    units := put s.trunks.units 0 { s.trunks.units[(0 : Wing)] with poll := some ⟨pos, false, .closed, .off, none⟩ } } }

/-- An assignment in flight on wing A. -/
def assigning (a : Assignment) (s : State) : State :=
  { s with trunks := { s.trunks with
    units := put s.trunks.units 0 { s.trunks.units[(0 : Wing)] with assignment := some a } } }

/-- A CHAIR seat with a READY unit and its chair record. -/
def chaired (c : ChairRecord) (w : Wing) (pos : Pos) (s : State) : State :=
  let t := seated c.seat .chair w pos (.chair false false false) s
  { t with floor := { t.floor with chairs := t.floor.chairs ++ [c] } }

/-- An account rewritten. -/
def account (a : AccountNo) (r : Account) (s : State) : State :=
  { s with allowance := { s.allowance with accounts := put s.allowance.accounts a r } }

/-- What a command leaves, read by `f`; nothing where it gives no next state. -/
def after {α : Type} (c : Instr) (f : State → α) (s : State) : Option α :=
  match exec c s with
  | .next t => some (f t)
  | _ => none

/-- The bodies of the queued notices. -/
def notices (s : State) : List NoticeBody := s.link.notices.map (·.body)

/-- The code and the data of the waiting answer. -/
def reply (s : State) : Option (ResultCode × List Byte) :=
  match s.link.answer with
  | .full a => some (a.code, a.data)
  | _ => none

/-! ### WellFormed refuses what lies outside the ranges -/

theorem test_wf_refuses_slot_0 : WellFormed (.timeLimitClose 0) = false := by decide
theorem test_wf_refuses_slot_9 : WellFormed (.timeLimitClose 9) = false := by decide
theorem test_wf_takes_slot_8 : WellFormed (.timeLimitClose 8) = true := by decide
theorem test_wf_refuses_settle_position_0 : WellFormed (.settleComplete 0 0) = false := by decide
theorem test_wf_refuses_settle_position_129 : WellFormed (.settleComplete 0 129) = false := by decide
theorem test_wf_takes_settle_position_128 : WellFormed (.settleComplete 3 128) = true := by decide
theorem test_wf_refuses_lost_position_0 : WellFormed (.unitLost 0 0) = false := by decide
theorem test_wf_refuses_lost_position_129 : WellFormed (.unitLost 0 129) = false := by decide
theorem test_wf_refuses_answer_of_5_bytes : WellFormed (.pollGoodAnswer 0 [0x5A, 0, 5, 0, 0xFB]) = false := by decide
theorem test_wf_refuses_answer_of_7_bytes : WellFormed (.pollGoodAnswer 0 [0x5A, 0, 5, 0, 0, 0xFB, 0]) = false := by decide

/-! ### Frames written out from chapter 11: LEN, KIND, the body and the CHECK that makes the sum a multiple of 256 -/

/-- PLAN SEEK (0x08), index 261, READ (field order: log entry 42): 4 + 8 + 1 + 5 + 1 = 19, and 256 − 19 = 0xED. -/
theorem test_frame_plan_seek : readFrame [0x04, 0x08, 0x01, 0x05, 0x01, 0xED] = .order (.planSeek 261 1) := by decide
/-- SEAT ASSIGN (0x10), wing B, position 128, seat 511 (field order: log entry 42): 5 + 16 + 1 + 128 + 1 + 255 = 406, and 512 − 406 = 0x6A. -/
theorem test_frame_seat_assign :
    readFrame [0x05, 0x10, 0x01, 0x80, 0x01, 0xFF, 0x6A] = .order (.seatAssign 1 128 511) := by decide
/-- QUEUE ADD (0x18), seat 2, PRIORITY, no target: 6 + 24 + 0 + 2 + 1 + 255 + 255 = 543, and 768 − 543 = 0xE1. -/
theorem test_frame_queue_add :
    readFrame [0x06, 0x18, 0x00, 0x02, 0x01, 0xFF, 0xFF, 0xE1] = .order (.queueAdd 2 1 0xFFFF) := by decide
/-- LIST CLOSE (0x1C), 300 decis: 3 + 28 + 1 + 44 = 76, and 256 − 76 = 0xB4. -/
theorem test_frame_list_close : readFrame [0x03, 0x1C, 0x01, 0x2C, 0xB4] = .order (.listClose 300) := by decide
/-- FLOOR GRANT (0x20), seat 200, protect yes (field order: log entry 42): 4 + 32 + 0 + 200 + 1 = 237, and 256 − 237 = 0x13. -/
theorem test_frame_floor_grant : readFrame [0x04, 0x20, 0x00, 0xC8, 0x01, 0x13] = .order (.floorGrant 200 1) := by decide
/-- ACCOUNT SET (0x30), account 523, B −1, C 600, A 300, L 20, D 10: the balance takes four bytes, all 0xFF. -/
theorem test_frame_account_set :
    readFrame [0x0F, 0x30, 0x02, 0x0B, 0xFF, 0xFF, 0xFF, 0xFF, 0x02, 0x58, 0x01, 0x2C, 0x00, 0x14, 0x00, 0x0A, 0x13]
      = .order (.accountSet 523 0xFFFFFFFF 600 300 20 10) := by decide
/-- PROFILE SELECT (0x3A), profile 15: 2 + 58 + 15 = 75, and 256 − 75 = 0xB5. -/
theorem test_frame_profile_select : readFrame [0x02, 0x3A, 0x0F, 0xB5] = .order (.profileSelect 15) := by decide
/-- NOTICE MASK (0x03), all twenty kinds: 4 + 3 + 15 + 255 + 255 = 532, and 768 − 532 = 0xEC. -/
theorem test_frame_notice_mask : readFrame [0x04, 0x03, 0x0F, 0xFF, 0xFF, 0xEC] = .order (.noticeMask 0x0FFFFF) := by decide
/-- Kind 0x04 is no order's. -/
theorem test_frame_unknown_kind : readFrame [0x01, 0x04, 0xFB] = .unknownKind := by decide
/-- STATUS with one body byte. -/
theorem test_frame_bad_length : readFrame [0x02, 0x01, 0x00, 0xFD] = .badLength 0x01 := by decide
/-- STATUS with a wrong CHECK. -/
theorem test_frame_bad_check : readFrame [0x01, 0x01, 0xFF] = .badCheck := by decide

/-- An answer of a delegate unit at seat 300 with REQUEST down and level 63: 1 + 44 + 16 + 63 = 124. -/
theorem test_answer_of_a_delegate_unit :
    readAnswer [0x5A, 0x01, 0x2C, 0x10, 0x3F, 0x84] = some ⟨some 300, .delegate true, false, 63⟩ := by decide
/-- An answer of a BLANK chair unit with PRIORITY down and stored yes: 255 + 255 + 0x23 = 545, and 768 − 545 = 0xDF. -/
theorem test_answer_of_a_blank_chair_unit :
    readAnswer [0x5A, 0xFF, 0xFF, 0x23, 0x00, 0xDF] = some ⟨none, .chair false true false, true, 0⟩ := by decide
/-- Level 64 is no level. -/
theorem test_answer_with_level_64 : readAnswer [0x5A, 0x00, 0x05, 0x00, 0x40, 0xBB] = none := by decide
/-- A poll of position 128 with the microphone open, SPEAKING, and a store request for seat 511. -/
theorem test_poll_bytes :
    (⟨127, false, .open, .speaking, some 511⟩ : Poll).bytes = [0xA5, 0x80, 0x82, 0x03, 0x01, 0xFF, 0xFB] := by decide
/-- PRIORITY ON of seat 7 at floor clock 1: LEN 7, KIND 0x63; 7 + 0x63 + 1 + 7 = 114. -/
theorem test_notice_bytes :
    (TxFrame.notice ⟨1, .priorityOn 7⟩).bytes = [0x7E, 0x07, 0x63, 0, 0, 0, 1, 0, 7, 0x8E] := by decide

/-! ### One step of each command; the expected results are worked out from the rules named -/

/-- Seats 5 and 6 have READY units at A1 and A2. -/
def hall : State := delegate 6 0 1 (delegate 5 0 0 live)

/-- Seat 5 speaks in slot 1, and auto advance is no. -/
def speech : State := speaking 0 (plain 5) (quiet hall)

/-- Seat 7 is a chair seat at A3 with its microphone closed. -/
def chairHall : State := chaired ⟨7, false, false, 0, false, false⟩ 0 2 hall

/-! #### Power, bytes and the transmitter (R153 to R170) -/

theorem test_power_reset_frees_the_slots : after .powerReset (fun t => t.floor.free) speech = some [0, 1, 2, 3, 4, 5, 6, 7] := by
  decide
theorem test_power_reset_keeps_the_held_level :
    after .powerReset (·.resetHeld) { live with resetHeld := true } = some true := by decide
theorem test_pulse_of_999_ns_is_no_reset : after (.resetPin 999) (fun t => t.floor.speakers) speech = some [0] := by decide
theorem test_pulse_of_10_us_resets : after (.resetPin 10000) (fun t => t.floor.speakers) speech = some [] := by decide
theorem test_reset_held_low_releases_attn :
    after .resetHeldLow attn { live with link := { live.link with conditions := true } } = some false := by decide
theorem test_clock_return_keeps_the_slots : after .refclkReturns (fun t => t.floor.speakers) speech = some [0] := by decide
theorem test_sync_byte_goes_to_length : after (.receiveByte 0x7E) (fun t => t.link.stage) live = some .length := by decide
theorem test_length_251_returns_to_hunt :
    after (.receiveByte 251) (fun t => t.link.stage) { live with link := { live.link with stage := .length } } = some .hunt := by
  decide
theorem test_gap_discards_the_bytes :
    after .receiveGapTimeout (fun t => t.link.stage) { live with link := { live.link with stage := .frame 5 [1, 2] } }
      = some .hunt := by decide
/-- The CONDITIONS notice goes before the oldest notice (R162). -/
theorem test_conditions_before_notices :
    after .transmitFrameEnd (fun t => (t.link.tx, t.link.notices.length))
        { live with link := { live.link with conditions := true, notices := [⟨3, .priorityOn 7⟩] } }
      = some (.sending (.conditions 0 ⟨false, false, false, false, false, false, false, false⟩), 1) := by decide
theorem test_oldest_notice_is_sent :
    after .transmitFrameEnd (fun t => (t.link.tx, t.link.notices.length))
        { live with link := { live.link with notices := [⟨3, .priorityOn 7⟩, ⟨4, .priorityOff 7⟩] } }
      = some (.sending (.notice ⟨3, .priorityOn 7⟩), 1) := by decide
theorem test_floor_clock_wraps :
    after .deciExpiry (fun t => t.link.clock) { live with link := { live.link with clock := 0xFFFFFFFF } } = some 0 := by decide
/-- RESTARTED carries the floor clock of the first expiry, which is 1, whatever the mask holds (R165). -/
theorem test_first_deci_posts_restarted :
    after .deciExpiry (fun t => t.link.notices) { live with link := { live.link with mask := 0 } } = some [⟨1, .restarted⟩] := by
  decide
theorem test_restarted_is_not_posted_twice :
    after .restarted notices { live with link := { live.link with restart := .posted } } = some [] := by decide

/-! #### The deci expiries (R39, R49, R109 to R112, R120, R141) -/

/-- The warning of session 12.1: limit 600, lead 100, elapsed 499 before the expiry. -/
theorem test_speech_warning_at_the_lead :
    after .speechTimingExpiry notices
        (withProfile (fun p => { p with speechLimit := 600, warningLead := 100 })
          (speaking 1 { plain 6 with elapsed := 499 } (quiet hall)))
      = some [.speechWarning 1 6 100 600] := by decide
theorem test_time_close_at_the_limit :
    after .speechTimingExpiry notices
        (withProfile (fun p => { p with speechLimit := 600, warningLead := 100 })
          (speaking 1 { plain 6 with elapsed := 599, warned := true } (quiet hall)))
      = some [.floorClosed 1 6 .time .press 600] := by decide
theorem test_limit_test_of_a_slot_below_its_limit :
    after (.timeLimitClose 1) notices (speaking 0 { plain 5 with override := some 2, elapsed := 1 } (quiet hall)) = some [] := by
  decide
theorem test_limit_test_of_a_slot_at_its_limit :
    after (.timeLimitClose 1) notices (speaking 0 { plain 5 with override := some 2, elapsed := 2 } (quiet hall))
      = some [.floorClosed 0 5 .time .press 2] := by decide
/-- Expiry 10 of session 12.3 for the account of seat 5: 21 − 1 = 20, which is the threshold. -/
theorem test_consume_to_the_threshold :
    (fun t : State => (t.allowance.accounts[(5 : AccountNo)], t.allowance.lowList))
        (expireAccount speech .cut (account 5 ⟨21, 600, 300, 0, 20, 10, false⟩ speech) 5)
      = (⟨20, 600, 300, 0, 20, 10, true⟩, [5]) := by decide +kernel
/-- Idle expiry 2 of session 12.3: the second half credit makes one. -/
theorem test_idle_account_is_paid_in :
    (expireAccount live .cut (account 523 ⟨0, 600, 300, 300, 20, 10, true⟩ live) 523).allowance.accounts[(523 : AccountNo)]
      = ⟨1, 600, 300, 0, 20, 10, true⟩ := by decide +kernel
/-- Expiry 20 of session 12.3 for one member: its slot is closed with ALLOWANCE. -/
theorem test_spent_account_is_closed : notices (closeSpent [5] speech) = [.floorClosed 0 5 .allowance .press 0] := by decide
theorem test_allowance_expiry_under_off :
    after .allowanceExpiry (fun t => t.allowance.lowList) speech = some [] := by decide
theorem test_quiet_count_goes_up :
    ((quietSeat (recorded 5 { silent with voiced := true } hall) 5).seats[(5 : Seat)]).map (·.quietCount) = some 1 := by decide
theorem test_seat_falls_quiet_at_the_release_value :
    notices (quietSeat (recorded 5 { silent with voiced := true, quietCount := 19 }
        (speaking 0 { plain 5 with origin := .voice } (quiet hall))) 5)
      = [.floorClosed 0 5 .silence .voice 0] := by decide
theorem test_third_equal_sample_qualifies :
    after (.pselSample 9) (fun t => t.profiles.inForce)
        { live with profiles := { live.profiles with source := .external, lastSample := some 9, stable := 2 } } = some 9 := by
  decide
theorem test_other_sample_starts_again :
    after (.pselSample 8) (fun t => (t.profiles.lastSample, t.profiles.stable))
        { live with profiles := { live.profiles with lastSample := some 9, stable := 3 } } = some (some 8, 1) := by decide
theorem test_pins_do_not_qualify_under_internal :
    after .profilePinsQualify (fun t => t.profiles.inForce)
        { live with profiles := { live.profiles with lastSample := some 9, stable := 3 } } = some 0 := by decide
theorem test_refusal_count_goes_down :
    after (.refusalCountExpiry 0) (fun t => (t.trunks.entryAt ⟨0, 3⟩).map (·.refusal))
        (unitAt 0 3 ⟨some 5, .delegate false, .ready, 16, 0, 0, 20⟩ live) = some (some 19) := by decide +kernel

/-! #### The trunks (R19 to R38) -/

/-- The first poll after a reset is the end probe to position 1, with CLOSED and OFF (R19). -/
theorem test_first_poll_is_the_end_probe :
    after (.pollSent 0) (fun t => t.trunks.units[(0 : Wing)].poll) live = some (some ⟨0, true, .closed, .off, none⟩) := by decide
theorem test_new_unit_settles :
    after (.pollGoodAnswer 0 [0x5A, 0x01, 0x2C, 0x10, 0x3F, 0x84]) (fun t => t.trunks.entryAt ⟨0, 0⟩) (polling 0 live)
      = some (some ⟨some 300, .delegate true, .settling, 0, 0, 63, 0⟩) := by decide
/-- Round 18 of session 12.5: the sixteenth good answer in a row finds the unit READY. -/
theorem test_sixteenth_answer_makes_ready :
    after (.pollGoodAnswer 0 [0x5A, 0x01, 0x2C, 0x00, 0x00, 0xD3]) notices
        (polling 0 (unitAt 0 0 ⟨some 300, .delegate false, .settling, 15, 0, 0, 0⟩ live))
      = some [.seatReady ⟨0, 0⟩ 300 .delegateUnit] := by decide
/-- Round 3 of session 12.5: the third miss loses the unit, its slot and then itself. -/
theorem test_third_miss_loses_the_unit :
    after (.pollMissedAnswer 0) notices
        (polling 0 (unitAt 0 0 ⟨some 5, .delegate false, .ready, 16, 2, 0, 0⟩ speech))
      = some [.floorClosed 0 5 .lost .press 0, .seatLost ⟨0, 0⟩ (some 5) .ready] := by decide
theorem test_first_miss_is_counted :
    after (.pollMissedAnswer 0) (fun t => (t.trunks.entryAt ⟨0, 0⟩).map (·.miss)) (polling 0 hall) = some (some 1) := by decide
/-- Round 17 of session 12.5: another unit is bound to the seat, so the settled unit is BLOCKED. -/
theorem test_duplicate_is_blocked :
    after (.settleComplete 0 4) (fun t => t.trunks.blocked)
        (unitAt 0 3 ⟨some 5, .delegate false, .settling, 15, 0, 0, 0⟩ hall)
      = some [⟨⟨0, 3⟩, some 5, .duplicate⟩] := by decide
theorem test_blank_unit_is_unbound :
    after (.settleComplete 0 4) notices (unitAt 0 3 ⟨none, .delegate false, .settling, 15, 0, 0, 0⟩ live)
      = some [.seatBlocked ⟨0, 3⟩ none .unbound] := by decide
theorem test_unit_lost_unbinds_its_seat :
    after (.unitLost 0 1) (fun t => (t.trunks.entryAt ⟨0, 0⟩, t.trunks.binding[(5 : Seat)])) hall = some (none, none) := by decide
theorem test_assign_timeout_keeps_the_unit :
    after (.assignTimeout 0) (fun t => (notices t, (t.trunks.entryAt ⟨0, 0⟩).map (·.addr))) (assigning ⟨0, 9, 8⟩ hall)
      = some ([.assignFailed ⟨0, 0⟩ 9 .timeout], some (some 5)) := by decide
theorem test_seat_assign_of_an_absent_position :
    after (.seatAssign 0 128 9) reply hall = some (some (.absent, [])) := by decide
theorem test_seat_assign_is_recorded :
    after (.seatAssign 0 1 9) (fun t => t.trunks.units[(0 : Wing)].assignment) hall = some (some ⟨0, 9, 0⟩) := by decide
theorem test_trunk_read_past_128 :
    after (.trunkRead 0 129 1) reply hall = some (some (.badValue, [])) := by decide
/-- A trunk of two READY units: chain length 2, no assignment, and the record of position 1. -/
theorem test_trunk_read_of_position_1 :
    (after (.trunkRead 0 1 1) reply hall).map (fun r => r.map (·.2))
      = some (some [2, 0, 0, 0, 0, 0, 1, 2, 0, 5, 0, 0xFF, 16, 0, 0, 0]) := by decide +kernel
theorem test_blocked_read_of_one_entry :
    after (.blockedRead 0) reply { live with trunks := { live.trunks with blocked := [⟨⟨0, 19⟩, some 403, .duplicate⟩] } }
      = some (some (.ok, [0, 1, 0, 20, 0x01, 0x93, 1])) := by decide
theorem test_trunk_restart_loses_the_units :
    after (.trunkRestart 0) notices hall
      = some [.seatLost ⟨0, 0⟩ (some 5) .ready, .seatLost ⟨0, 1⟩ (some 6) .ready] := by decide +kernel

/-! #### The seat input unit's events (R48 to R53, R88, R95, R96) -/

theorem test_voice_start_opens_in_voice_mode :
    after (.voiceStart 5) notices (recorded 5 silent (withProfile (fun p => { p with mode := .voice }) hall))
      = some [.floorOpened 0 5 .voice false false 0] := by decide
theorem test_silence_keeps_a_pressed_speech :
    after (.silence 5) notices (recorded 5 { silent with voiced := true } speech) = some [] := by decide
theorem test_silence_closes_a_voice_speech :
    after (.silence 5) notices
        (recorded 5 { silent with voiced := true } (speaking 0 { plain 5 with origin := .voice } (quiet hall)))
      = some [.floorClosed 0 5 .silence .voice 0] := by decide
theorem test_first_howl_locks_softly :
    after (.howl 5) (fun t => (t.floor.slots[(0 : SlotNo)]).map fun sl => (sl.condition, sl.strikes)) (recorded 5 silent speech)
      = some (some (.softLocked, 1)) := by decide
theorem test_third_howl_locks_hard :
    after (.howl 5) (fun t => (notices t, t.floor.locked[(5 : Seat)]))
        (recorded 5 silent (speaking 0 { plain 5 with strikes := 2 } (quiet hall)))
      = some ([.howlLock 5 .hard 2, .floorClosed 0 5 .howl .press 0], true) := by decide
theorem test_howl_clear_opens_the_slot :
    after (.howlClear 5) (fun t => (t.floor.slots[(0 : SlotNo)]).map (·.condition))
        (recorded 5 silent (speaking 0 { plain 5 with condition := .softLocked, strikes := 1 } (quiet hall)))
      = some (some .open) := by decide

/-! #### The plan orders (R7 to R15) -/

theorem test_seek_read_to_511 :
    after (.planSeek 511 1) (fun t => t.cursor) live = some ⟨512, .read, some (511, ⟨.vacant, none, 0, false⟩)⟩ := by
  decide +kernel
theorem test_put_past_the_end :
    after (.planPut 1 0xFF 0 0 0) reply { live with cursor := ⟨512, .write, none⟩ } = some (some (.atEnd, [])) := by decide
theorem test_put_writes_at_the_index :
    after (.planPut 1 3 128 64 1) (fun t => (t.plan[(0 : Seat)], t.cursor.index)) live
      = some (⟨.delegate, some ⟨3, 127⟩, 64, true⟩, 1) := by decide +kernel
theorem test_get_in_write_direction : after .planGet reply live = some (some (.wrongDirection, [])) := by decide
theorem test_get_of_seat_511 :
    after .planGet (fun t => (reply t, t.cursor.buffer)) { live with cursor := ⟨512, .read, some (511, ⟨.chair, none, 2, true⟩)⟩ }
      = some (some (.ok, [0x01, 0xFF, 2, 0xFF, 0, 2, 1]), none) := by decide

/-! #### The queue and list orders (R65 to R74, R148 to R151) -/

theorem test_queue_add_of_a_vacant_seat : after (.queueAdd 9 0 0xFFFF) reply hall = some (some (.notEligible, [])) := by decide
theorem test_priority_entry_goes_ahead :
    after (.queueAdd 6 1 0xFFFF) (fun t => t.queue.entries.map (·.seat)) (waiting [entry 5] (quiet hall)) = some [6, 5] := by
  decide
theorem test_queue_drop_posts_its_place :
    after (.queueDrop 6) notices (waiting [entry 5, entry 6] (quiet hall)) = some [.queueLeft 6 .ordinary .link 1] := by decide
theorem test_queue_empty_answers_the_number :
    after .queueEmpty reply (waiting [entry 5, entry 6] (quiet hall)) = some (some (.ok, [2])) := by decide
/-- Two entries, none PRIORITY, the first eligible at place 1, and the record of place 1. -/
theorem test_queue_read_from_place_1 :
    after (.queueRead 1 1) reply (waiting [{ entry 5 with target := some 6 }, entry 6] (quiet hall))
      = some (some (.ok, [2, 0, 1, 1, 0, 6, 0, 0, 0xFF, 0xFF, 0, 0, 0, 0, 0, 0])) := by decide
/-- The end of session 12.4: the only entry is LOCKED, so the drain ends at once with one entry skipped. -/
theorem test_list_close_skips_a_locked_entry :
    after (.listClose 300) (fun t => (notices t, t.queue.list))
        (setLocked 5 true (waiting [entry 5] (quiet hall)))
      = some ([.queueLeft 5 .ordinary .drainSkipped 0, .listDrained 1], .open) := by decide
theorem test_list_close_while_draining :
    after (.listClose 300) reply (draining 10 (quiet hall)) = some (some (.notPermitted, [])) := by decide
theorem test_list_open_keeps_the_entries :
    after .listOpen (fun t => (reply t, t.queue.list)) (draining 10 (waiting [entry 5] (quiet hall)))
      = some (some (.ok, [1, 1]), .open) := by decide

/-! #### The floor orders (R97 to R105, R114) -/

/-- The first row of session 12.2. -/
theorem test_grant_is_protected :
    after (.floorGrant 5 1) (fun t => (reply t, notices t)) hall
      = some (some (.ok, [0, 5, 1]), [.floorOpened 0 5 .link true false 0]) := by decide
theorem test_grant_of_a_speaker : after (.floorGrant 5 1) reply speech = some (some (.held, [])) := by decide
theorem test_next_with_nobody_waiting : after .floorNext reply speech = some (some (.empty, [])) := by decide
theorem test_next_takes_the_head :
    after .floorNext notices (waiting [entry 6] speech)
      = some [.queueLeft 6 .ordinary .granted 0, .floorOpened 1 6 .next false false 0] := by decide
theorem test_revoke_frees_the_slot_to_the_head :
    after (.floorRevoke 5) (fun t => (t.floor.speakers, t.floor.free)) speech = some ([], [0, 1, 2, 3, 4, 5, 6, 7]) := by decide
theorem test_clear_closes_from_the_head :
    after .floorClear notices (speaking 1 (plain 6) speech)
      = some [.floorClosed 0 5 .chair .press 0, .floorClosed 1 6 .chair .press 0] := by decide
theorem test_floor_read_of_seat_512 : after (.floorRead 512) reply speech = some (some (.badValue, [])) := by decide
theorem test_floor_read_changes_no_slot :
    after (.floorRead 0) (fun t => t.floor.speakers) speech = some [0] := by decide
theorem test_mask_off_closes_the_wing :
    after (.wingMask 14) notices speech = some [.floorClosed 0 5 .mask .press 0] := by decide
theorem test_mask_above_15 : after (.wingMask 16) reply speech = some (some (.badValue, [])) := by decide
theorem test_unlock_of_an_unlocked_seat : after (.unlock 5) reply hall = some (some (.notFound, [])) := by decide
theorem test_floor_reset_keeps_the_mask :
    after .floorReset (fun t => (t.floor.mask, t.floor.speakers, t.link.notices))
        { speech with floor := { speech.floor with mask := 7 }, link := { speech.link with notices := [⟨0, .priorityOn 7⟩] } }
      = some (7, [], []) := by decide
theorem test_extend_stops_at_36000 :
    after (.floorExtend 5 3000) reply (speaking 0 { plain 5 with override := some 35000, elapsed := 7 } (quiet hall))
      = some (some (.ok, [0, 5, 1, 0x8C, 0xA0, 0, 7])) := by decide
theorem test_extend_of_a_speech_with_no_limit :
    after (.floorExtend 5 1) reply speech = some (some (.noLimit, [])) := by decide

/-! #### The account orders (R128 to R132) -/

/-- The last row of session 12.3. -/
theorem test_account_set_recovers :
    after (.accountSet 523 100 600 300 20 10) (fun t => (reply t, t.allowance.recovered))
        (account 523 ⟨5, 600, 300, 0, 20, 10, true⟩ live)
      = some (some (.ok, [0x02, 0x0B, 0, 0, 0, 100, 0, 0]), [523]) := by decide +kernel
theorem test_account_set_clamps_to_the_cap :
    after (.accountSet 0 601 600 0 0 1) (fun t => (t.allowance.accounts[(0 : AccountNo)]).balance) live = some 600 := by
  decide +kernel
/-- All but the flags byte, whose places 3–7 are open. -/
theorem test_account_read_of_account_575 :
    (after (.accountRead 575 16) reply live).map (fun r => r.map fun x => (x.1, x.2.take 16, x.2.drop 17))
      = some (some (.ok, [0x02, 0x3F, 1, 0, 0, 0, 0x8C, 0xA0, 0, 0, 0, 0, 0, 0, 0, 1], [0])) := by decide +kernel
/-- The LOW READ of session 12.3. -/
theorem test_low_read_of_one_account :
    after (.lowRead 32) (fun t => (reply t, t.allowance.lowList))
        { account 523 ⟨5, 600, 300, 0, 20, 10, true⟩ live with
          allowance := { (account 523 ⟨5, 600, 300, 0, 20, 10, true⟩ live).allowance with lowList := [523] } }
      = some (some (.ok, [1, 0, 0, 0x02, 0x0B, 0, 0, 5, 1]), []) := by decide +kernel
theorem test_recovered_read_of_an_empty_list : after (.recoveredRead 1) reply live = some (some (.ok, [0, 0, 0])) := by decide

/-! #### The profile and link orders (R137 to R145, R161, R164) -/

/-- The defaults of R135 as a raw record. -/
def defaults : RawProfile := ⟨2, 4, 1, 1, 1, 0, 0, 0, 15, 3, 2, 20, 58, 4, 8, 0, 6, 0⟩

theorem test_put_of_the_profile_in_force :
    after (.profilePut 0 defaults) (fun t => (reply t, notices t)) live
      = some (some (.ok, [0, 1]), [.profileChanged 0 0 .put .internal]) := by decide
theorem test_put_of_a_lead_above_the_limit :
    after (.profilePut 1 { defaults with speechLimit := 5, warningLead := 6 }) reply live = some (some (.badValue, [])) := by decide
theorem test_get_of_the_defaults :
    after (.profileGet 15) reply live
      = some (some (.ok, [15, 0, 2, 4, 1, 1, 1, 0, 0, 0, 0, 0, 15, 3, 2, 20, 58, 4, 8, 0, 6, 0])) := by decide
theorem test_select_under_external_is_stored :
    after (.profileSelect 3) (fun t => (t.profiles.selected, t.profiles.inForce))
        { live with profiles := { live.profiles with source := .external } } = some (3, 0) := by decide
theorem test_source_internal_applies_the_selected :
    after (.profileSource 0) notices { live with profiles := { live.profiles with source := .external, selected := 3 } }
      = some [.profileChanged 3 0 .source .internal] := by decide
theorem test_in_force_answers_the_absent_sample :
    (after .profileInForce reply live).map (fun r => r.map fun x => x.2.take 5) = some (some [0, 0, 0, 0xFF, 0]) := by decide
theorem test_status_answers_the_fills :
    after .status reply (waiting [entry 6] speech) = some (some (.ok, [1, 1, 0, 0, 0, 0, 0, 0])) := by decide
theorem test_notice_mask_clears_the_flag :
    after (.noticeMask 0) (fun t => (t.link.mask, t.link.conditions)) { live with link := { live.link with conditions := true } }
      = some (0, false) := by decide
theorem test_identify_answers_the_limits :
    after .identify reply live = some (some (.ok, [0xB5, 0x12, 1, 2, 0, 4, 128, 8, 128, 4, 2, 0x40, 16, 32])) := by decide

/-! ### States and operands that meet the hypotheses of the statements, clause by clause -/

/-- A property of every occupied slot, checked slot by slot. -/
theorem slots_of_check {s : State} {P : SlotNo → Slot → Prop} [∀ n a, Decidable (P n a)]
    (h : ∀ n : SlotNo, (s.floor.slots[n]).all (fun a => decide (P n a)) = true) (n : SlotNo) (a : Slot)
    (occupied : s.floor.slots[n] = some a) : P n a := by
  have := h n
  rw [occupied] at this
  simpa using this

/-- A drain at its end, checked slot by slot. -/
theorem drainEnds_of_check {s : State} (list : s.queue.list = .draining)
    (slots : ∀ n : SlotNo, (s.floor.slots[n]).all (fun a => decide (a.drainGrant = false)) = true)
    (nobody : (inForce s).mode = .voice ∨ ∀ e ∈ s.queue.entries, eligibility s e ≠ .eligible) : DrainEnds s :=
  ⟨list, slots_of_check slots, nobody⟩

/-- One slot for a seat and none for a waiting one, checked slot by slot. -/
theorem oneSlot_of_check {s : State}
    (h : ∀ m : SlotNo, (s.floor.slots[m]).all (fun a => s.queue.entries.all (fun e => e.seat != a.seat)
      && (List.finRange 8).all fun n => n == m || (s.floor.slots[n]).all fun b => a.seat != b.seat) = true) : OneSlotLaw s := by
  refine ⟨fun m n a b hm hn hs => ?_, fun n a hn e he => ?_⟩
  · have := h m
    rw [hm] at this
    simp only [Option.all_some, Bool.and_eq_true, List.all_eq_true] at this
    have := this.2 n (List.mem_finRange n)
    rw [hn] at this
    simp only [Option.all_some, Bool.or_eq_true, beq_iff_eq, bne_iff_ne] at this
    exact (this.resolve_right (fun ne => ne hs)).symm
  · have := h n
    rw [hn] at this
    simp only [Option.all_some, Bool.and_eq_true, List.all_eq_true] at this
    simpa using this.1 e he

/-- The laws of the trunks, checked seat by seat and place by place. -/
theorem trunkLaws_of_check {s : State}
    (bound : ∀ x : Seat, (s.trunks.binding[x]).all (fun p =>
      (s.trunks.entryAt p).any fun e => e.presence == .ready && e.addr == some x) = true)
    (units : ∀ (w : Wing) (pos : Pos), (s.trunks.entryAt ⟨w, pos⟩).all (fun e =>
      match e.presence with
      | .settling => true
      | .blocked k => s.trunks.blocked.contains ⟨⟨w, pos⟩, e.addr, k⟩
      | .ready => e.addr.any fun x => s.trunks.binding[x] == some ⟨w, pos⟩
          && (s.plan[x].location).all (fun l => l == ⟨w, pos⟩) && !typeFails (classOf s x) e.buttons.unitType) = true)
    (table : (s.trunks.blocked.map (·.place)).Nodup ∧ s.trunks.blocked.all (fun b =>
      (s.trunks.entryAt b.place).any fun e => e.presence == .blocked b.kind && e.addr == b.addr) = true)
    (records : ∀ x : Seat, (s.seats[x]).isSome = true → (s.trunks.binding[x]).isSome = true) : TrunkLaws s := by
  have ready : ∀ (p : Place) (e : ChainEntry), s.trunks.entryAt p = some e → e.presence = .ready →
      ∃ x, e.addr = some x ∧ s.trunks.binding[x] = some p ∧ (s.plan[x].location).all (fun l => l == p) = true
        ∧ typeFails (classOf s x) e.buttons.unitType = false := by
    intro p e he hp
    have := units p.wing p.pos
    rw [show (⟨p.wing, p.pos⟩ : Place) = p from rfl, he] at this
    simp only [Option.all_some, hp] at this
    obtain ⟨x, hx, hr⟩ := Option.any_eq_true _ _ |>.1 this
    simp only [Bool.and_eq_true, beq_iff_eq, Bool.not_eq_true'] at hr
    exact ⟨x, hx, hr.1.1, hr.1.2, hr.2⟩
  refine ⟨⟨fun x p => ⟨fun hx => ?_, ?_⟩, ?_⟩, ⟨table.1, fun b => ⟨fun hb => ?_, ?_⟩⟩, ?_, ?_⟩
  · have := bound x
    rw [hx] at this
    obtain ⟨e, he, hr⟩ := Option.any_eq_true _ _ |>.1 (by simpa using this)
    simp only [Bool.and_eq_true, beq_iff_eq] at hr
    exact ⟨e, he, hr.1, hr.2⟩
  · rintro ⟨e, he, hp, ha⟩
    obtain ⟨y, hy, hb, -⟩ := ready p e he hp
    rw [ha] at hy
    cases hy
    exact hb
  · intro p e he hp
    obtain ⟨y, hy, -⟩ := ready p e he hp
    simp [hy]
  · obtain ⟨e, he, hr⟩ := Option.any_eq_true _ _ |>.1 (List.all_eq_true.1 table.2 b hb)
    simp only [Bool.and_eq_true, beq_iff_eq] at hr
    exact ⟨e, he, hr.1, hr.2⟩
  · rintro ⟨e, he, hp, ha⟩
    have := units b.place.wing b.place.pos
    rw [show (⟨b.place.wing, b.place.pos⟩ : Place) = b.place from rfl, he] at this
    simp only [Option.all_some, hp, ha] at this
    simpa using this
  · intro p e x he hp ha
    obtain ⟨y, hy, -, hl, ht⟩ := ready p e he hp
    rw [ha] at hy
    cases hy
    refine ⟨?_, ht⟩
    cases h : s.plan[x].location with
    | none => exact .inl rfl
    | some l => rw [h] at hl; exact .inr (by simpa using hl)
  · intro x hx
    have := records x (by cases h : s.seats[x] <;> simp_all)
    cases h : s.trunks.binding[x] <;> simp_all

/-- No seat but `seat` is a chair seat when the records written are of other classes. -/
theorem no_other_chairs {plan : Vector PlanRecord 512} (seat : Seat) (h : ∀ i : Seat, plan[i].cls ≠ .chair) :
    ((List.finRange 512).countP fun i : Seat => i ≠ seat && plan[i].cls == .chair) < 4 := by
  rw [List.countP_eq_zero.2 (fun i _ => by simpa using fun _ => h i)]
  decide

/-- The plan after a power reset has no chair seat. -/
theorem live_has_no_chairs (i : Seat) : (live.plan[i]).cls ≠ .chair := by
  simp [live, atWork, State.reset, PlanRecord.vacant]

/-- The hall has no chair seat. -/
theorem hall_has_no_chairs (i : Seat) : (hall.plan[i]).cls ≠ .chair := by
  simp only [hall, delegate, seated, put_getElem]
  split
  · simp
  · split
    · simp
    · exact live_has_no_chairs i

/-- The law of the chairs, from the list of the chair seats. -/
theorem chairsLaw_of_list {s : State} (l : List Seat) (sorted : l.Pairwise (· < ·)) (short : l.length ≤ 4)
    (records : s.floor.chairs.map (·.seat) = l) (plan : ∀ x : Seat, (s.plan[x]).cls = .chair ↔ x ∈ l) : ChairsLaw s := by
  refine ⟨?_, fun x => ?_, ?_⟩
  · rw [← records, List.pairwise_map] at sorted
    exact sorted
  · rw [plan, ← records, List.mem_map]
  · rw [List.countP_eq_length_filter]
    refine Nat.le_trans (List.Nodup.subperm ((List.nodup_finRange 512).filter _) fun x hx => ?_).length_le short
    exact (plan x).1 (by simpa using (List.mem_filter.1 hx).2)

/-- The chair hall is lawful (R5, R91). -/
theorem chairHall_chairs (c : ChairRecord) (h : c.seat = 7) (s : State) (chairs : s.floor.chairs = [c])
    (plan : s.plan = chairHall.plan) : ChairsLaw s := by
  refine chairsLaw_of_list [7] (by decide) (by decide) (by simp [chairs, h]) fun x => ?_
  have := hall_has_no_chairs x
  rw [plan]
  simp only [chairHall, chaired, seated, put_getElem]
  split <;> simp_all

theorem witness_StepRunsTheFront :
    ({ live with pending := [.status, .floorNext] } : State).pending = .status :: [.floorNext] ∧ live.pending = [] := ⟨rfl, rfl⟩

theorem witness_EveryCommandCompletes :
    (Instr.status ≠ .resetHeldLow ∧ ∀ ns, Instr.status ≠ .resetPin ns) ∧
      ({ live with resetHeld := true } : State).resetHeld = true ∧ Instr.status ≠ .powerReset := by simp

theorem witness_ResetPulseAndClock :
    live.resetHeld = false ∧ 10000 ≤ 10000 ∧ 999 < 1000 ∧ 1000 ≤ 1000 ∧ 9999 < 10000 := by decide

theorem witness_OrderFramesReadBack : (orderKind (.queueAdd 511 1 0xFFFF)).isSome = true := by decide

theorem witness_BytesMakeTheOrder :
    (orderKind (.planSeek 511 1)).isSome = true ∧ State.reset.resetHeld = false ∧ State.reset.link.stage = .hunt := by decide

/-- The link with a receive stage, an answer register and a held frame. -/
def linked (stage : ReceiveStage) (a : AnswerRegister) (held : Option (List Byte)) (s : State) : State :=
  { s with link := { s.link with stage := stage, answer := a, heldFrame := held } }

/-- A STATUS answer that reports both latches. -/
def statusAnswer : Answer := ⟨0x81, .ok, ⟨false, false, false, false, false, false, true, true⟩, []⟩

theorem witness_ReceiveStageTable :
    (linked .length .empty none live).resetHeld = false ∧ (linked .length .empty none live).link.stage = .length ∧
      live.link.stage = .hunt ∧ (linked (.frame 1 []) .empty none live).link.stage = .frame 1 [] ∧
      ([] : List Byte).length < (1 : Byte).toNat ∧ (List.replicate 249 (0 : Byte)).length < (250 : Byte).toNat := by
  refine ⟨rfl, rfl, rfl, rfl, by decide, ?_⟩
  rw [List.length_replicate]
  decide

theorem witness_FullRegisterHoldsOrDrops :
    let s := linked (.frame 2 [1, 0]) (.full statusAnswer) none live
    let t := linked (.frame 1 [1]) (.full statusAnswer) (some [1, 1, 0xFE]) live
    (s.resetHeld = false ∧ s.link.stage = .frame 2 [1, 0] ∧ [(1 : Byte), 0].length = (2 : Byte).toNat ∧
        s.link.answer = .full statusAnswer ∧ s.link.heldFrame = none) ∧
      t.link.stage = .frame 1 [1] ∧ [(1 : Byte)].length = (1 : Byte).toNat ∧ t.link.answer = .full statusAnswer ∧
      t.link.heldFrame = some [1, 1, 0xFE] ∧ t.link.dropped = false ∧ t.link.tx ≠ .idle ∧
      ({ t with link := { t.link with dropped := true } } : State).link.dropped = true ∧ StatusOutstanding t := by
  refine ⟨by decide, ?_⟩
  exact ⟨by decide, by decide, by decide, by decide, by decide, by decide, by decide, statusAnswer, by decide, by decide, .inl rfl⟩

theorem witness_UndeliveredFrames :
    let s := fun kind body => linked (.frame (BitVec.ofNat 8 (body.length + 1)) (kind :: body)) .empty none live
    (TakesOrders (s 1 []) ∧ TakesOrders (s 4 []) ∧ TakesOrders (s 1 [0])) ∧ byteSum [1, 1, 0xFF] ≠ 0 ∧
      (byteSum [1, 4, 0xFB] = 0 ∧ bodyLength 4 = none) ∧
      byteSum [2, 1, 0, 0xFD] = 0 ∧ bodyLength 1 = some 0 ∧ [(0 : Byte)].length ≠ 0 ∧
      [(0 : Byte)].length + 1 = (2 : Byte).toNat := by
  unfold TakesOrders; decide

theorem witness_NoticeIsQueuedMaskedOrLost :
    let full := { live with link := { live.link with notices := List.replicate 32 ⟨0, .priorityOn 7⟩ } }
    let last := { live with link := { live.link with notices := List.replicate 31 ⟨0, .priorityOn 7⟩ } }
    let status := { full with link := { full.link with tx := .sending (.answer statusAnswer) } }
    (live.link.tx ≠ .idle ∧ (NoticeBody.priorityOn 3).enabled (0 : BitVec 24) = false) ∧
      ((NoticeBody.priorityOn 3).enabled last.link.mask = true ∧ last.link.notices.length < 32) ∧
      ((NoticeBody.priorityOn 3).enabled full.link.mask = true ∧ 32 ≤ full.link.notices.length ∧ full.link.tx ≠ .idle) ∧
      status.link.tx ≠ .idle ∧ StatusOutstanding status :=
  ⟨by decide, by decide, by decide, by decide, statusAnswer, rfl, rfl, .inr rfl⟩

/-- The first and the last maskable kind, each enabled by its own place alone. -/
theorem witness_NoticeIsQueuedMaskedOrLost_places :
    NoticeBody.priorityOn 3 ≠ .restarted ∧
      ((NoticeBody.floorClosed 0 5 .seat .press 0).kind = 0x61 ∧
        (NoticeBody.floorClosed 0 5 .seat .press 0).enabled 0x000002 = true ∧
        (NoticeBody.floorClosed 0 5 .seat .press 0).enabled 0xFFFFFD = false) ∧
      (NoticeBody.profileChanged 1 0 .put .internal).kind = 0x72 ∧
      (NoticeBody.profileChanged 1 0 .put .internal).enabled 0x040000 = true ∧
      (NoticeBody.profileChanged 1 0 .put .internal).enabled 0xFBFFFF = false := by decide

theorem witness_TransmitterChoosesInOrder :
    let f : TxFrame := .notice ⟨0, .restarted⟩
    let held := linked .hunt (.full statusAnswer) (some (orderFrame .identify)) live
    let conditions := { live with link := { live.link with conditions := true } }
    let queued := { live with link := { live.link with notices := [⟨0, .priorityOn 7⟩] } }
    (orderKind .identify = some 0x02 ∧ held.resetHeld = false ∧ held.link.tx = .sending f ∧ (∀ a, f ≠ .answer a) ∧
        held.link.answer = .full statusAnswer ∧ held.link.heldFrame = some (orderFrame .identify)) ∧
      ((linked .hunt (.full statusAnswer) none live).link.answer = .full statusAnswer ∧
        (linked .hunt (.full statusAnswer) none live).link.heldFrame = none) ∧
      (conditions.link.answer = .empty ∧ conditions.link.conditions = true) ∧
      (queued.link.answer = .empty ∧ queued.link.conditions = false ∧ queued.link.notices = [⟨0, .priorityOn 7⟩]) ∧
      (live.link.answer = .empty ∧ live.link.conditions = false ∧ live.link.notices = []) ∧
      let answering := fun a => { live with link := { live.link with tx := .sending (.answer a), lost := true } }
      ((answering statusAnswer).link.tx = .sending (.answer statusAnswer) ∧ statusAnswer.kind = 0x81 ∧ statusAnswer.code = .ok) ∧
        (answering ⟨0x81, .badLength, statusAnswer.summary, []⟩).resetHeld = false ∧ (ResultCode.badLength ≠ .ok) ∧
        (0x82 : Byte) ≠ 0x81 :=
  ⟨⟨by decide, by decide, by decide, fun _ => nofun, by decide, by decide⟩, by decide⟩

theorem witness_StatusAnswerClearsLatches :
    let s := { live with link := { live.link with tx := .sending (.answer statusAnswer), lost := true, dropped := true } }
    (s.resetHeld = false ∧ s.link.tx = .sending (.answer statusAnswer) ∧ statusAnswer.kind = 0x81 ∧ statusAnswer.code = .ok ∧
      s.link.heldFrame = none) ∧ TakesOrders live := by
  unfold TakesOrders; decide

/-- CONDITIONS masked and not, with a frame being sent; a queue of 128 entries and of 127; and a command that turns a bit. -/
theorem witness_StatusAnswerClearsLatches_summary :
    let off := { live with link := { live.link with mask := 0x07FFFF } }
    (live.link.tx ≠ .idle ∧ live.link.mask.getLsbD 19 = true ∧ off.link.tx ≠ .idle ∧ off.link.mask.getLsbD 19 = false) ∧
      (128 ≤ (waiting (List.replicate 128 (entry 9)) live).queue.entries.length ∧
        ¬128 ≤ (waiting (List.replicate 127 (entry 9)) live).queue.entries.length) ∧
      (Sending live ∧ Instr.listClose 300 ≠ .powerReset ∧ Instr.listClose 300 ≠ .resetHeldLow ∧
        (∀ ns, Instr.listClose 300 ≠ .resetPin ns) ∧ Instr.listClose 300 ≠ .transmitFrameEnd) ∧
      after (.listClose 300) (fun t => (t.link.mask, (summary t).listDraining, t.link.conditions)) (waiting [entry 5] hall)
        = some (live.link.mask, true, true) := by
  exact ⟨by decide, by simp [waiting], by unfold Sending; simp [live, atWork, State.reset], by decide⟩

theorem witness_IdentifyAndNoticeMask :
    TakesOrders live ∧ (0x0FFFFF : BitVec 24).toNat < 2 ^ 20 ∧ 2 ^ 20 ≤ (0x100000 : BitVec 24).toNat := by
  unfold TakesOrders; decide

theorem witness_FloorClockAndRestarted :
    let filled := fun n => { live with link := { live.link with notices := List.replicate n ⟨0, .priorityOn 7⟩ } }
    let wrapping := { live with link := { live.link with restart := .posted, clock := 0xFFFFFFFF } }
    (live.resetHeld = false ∧ (1 : Clock).toNat = (live.link.clock.toNat + 1) % 2 ^ 32 ∧ live.link.restart = .fresh ∧
        LinkLaw live) ∧
      ((filled 31).link.restart = .fresh ∧ (filled 31).link.tx ≠ .idle ∧ (filled 31).link.notices.length < 32) ∧
      (32 ≤ (filled 32).link.notices.length ∧ (filled 32).link.tx ≠ .idle) ∧
      (State.reset.link.restart = .fresh ∧ LinkLaw State.reset ∧ State.reset.link.tx = .idle) ∧
      (wrapping.link.restart = .posted ∧ (0 : Clock).toNat = (wrapping.link.clock.toNat + 1) % 2 ^ 32) := by
  unfold LinkLaw; decide

/-! #### The plan -/

/-- The cursor at an index. -/
def cursorAt (c : Cursor) (s : State) : State := { s with cursor := c }

theorem witness_PlanSeekAndGetMoveTheCursor :
    let record : PlanRecord := ⟨.vacant, none, 0, false⟩
    let midway := cursorAt ⟨511, .read, some (510, record)⟩ live
    let last := cursorAt ⟨512, .read, some (511, record)⟩ live
    (TakesOrders live ∧ 511 < (512 : Half).toNat ∧ ((2 : Byte) ≠ 0 ∧ (2 : Byte) ≠ 1) ∧
        (511 : Half).toNat = (511 : Seat).val ∧ (0 : Half).toNat = (0 : Seat).val) ∧
      TakesOrders midway ∧ TakesOrders last ∧ live.cursor.direction = .write ∧
      (cursorAt ⟨512, .read, none⟩ live).cursor.direction = .read ∧ (cursorAt ⟨512, .read, none⟩ live).cursor.buffer = none ∧
      (midway.cursor.direction = .read ∧ midway.cursor.buffer = some (510, record) ∧
        midway.cursor.index.val = (511 : Seat).val) ∧
      last.cursor.direction = .read ∧ last.cursor.buffer = some (511, record) ∧ last.cursor.index.val = 512 := by
  unfold TakesOrders; decide

/-- Four chair seats, 0 to 3. -/
def fourChairs : State :=
  { live with plan := ([0, 1, 2, 3] : List Seat).foldl (fun p x => put p x ⟨.chair, none, 0, false⟩) live.plan }

theorem witness_PlanPutTests :
    let at511 := cursorAt ⟨511, .write, none⟩ fourChairs
    let others := fun s : State => (List.finRange 512).countP fun i : Seat => i ≠ 511 && s.plan[i].cls == .chair
    (TakesOrders at511 ∧ (cursorAt ⟨1, .read, some (0, ⟨.chair, none, 0, false⟩)⟩ fourChairs).cursor.direction = .read ∧
        (cursorAt ⟨512, .write, none⟩ live).cursor.index.val = 512) ∧
      (at511.cursor.direction = .write ∧ at511.cursor.index.val = (511 : Seat).val) ∧
      3 < (4 : Byte).toNat ∧ 3 < (4 : Byte).toNat ∧ 128 < (129 : Byte).toNat ∧ 64 < (65 : Byte).toNat ∧ 1 < (2 : Byte).toNat ∧
      ¬(3 < (2 : Byte).toNat ∨ (¬((0xFF : Byte) = 0xFF ∧ (0 : Byte) = 0) ∧
        (3 < (0xFF : Byte).toNat ∨ (0 : Byte).toNat = 0 ∨ 128 < (0 : Byte).toNat)) ∨ 64 < (64 : Byte).toNat ∨
        1 < (1 : Byte).toNat) ∧ 4 ≤ others at511 ∧ others (cursorAt ⟨511, .write, none⟩ live) < 4 := by
  refine ⟨by unfold TakesOrders; decide, by decide, by decide, by decide, by decide, by decide, by decide, by decide, ?_, ?_⟩
  · have first : ([0, 1, 2, 3] : List Seat).Sublist (List.finRange 512) := by decide +kernel
    refine Nat.le_trans ?_ (first.countP_le)
    decide +kernel
  · exact no_other_chairs 511 live_has_no_chairs

/-- The bytes of a record with no location. -/
theorem carries_nowhere (c : SeatClass) : CarriesRecord c.code 0xFF 0 0 0 ⟨c, none, 0, false⟩ :=
  ⟨rfl, fun _ => ⟨rfl, rfl⟩, nofun, rfl, nofun, fun _ => rfl⟩

theorem witness_PlanPutWritesTheRecord :
    let s := cursorAt ⟨511, .write, none⟩ live
    (TakesOrders s ∧ s.cursor.direction = .write ∧ s.cursor.index.val = (511 : Seat).val ∧
      CarriesRecord 2 3 128 64 1 ⟨.chair, some ⟨3, 127⟩, 64, true⟩ ∧
      ((List.finRange 512).countP fun i : Seat => i ≠ 511 && s.plan[i].cls == .chair) < 4) ∧
      CarriesRecord 0 0xFF 0 0 0 ⟨.vacant, none, 0, false⟩ ∧ s.plan[(511 : Seat)].cls = .vacant ∧
      s.trunks.binding[(511 : Seat)] = none ∧ ∀ b ∈ s.trunks.blocked, b.addr ≠ some 511 := by
  refine ⟨⟨⟨rfl, rfl, rfl⟩, rfl, rfl, ⟨rfl, nofun, fun p h => ?_, by decide, fun _ => rfl, nofun⟩,
    no_other_chairs 511 live_has_no_chairs⟩, carries_nowhere .vacant, by decide +kernel, by decide +kernel, by decide⟩
  cases h
  decide

/-- The re-check of a bound unit that passes and that fails in place and in type, and of a blocked unit that passes, that fails
as before and that fails another check. -/
theorem witness_PlanPutWritesTheRecord_recheck :
    let ready : ChainEntry := ⟨some 5, .delegate false, .ready, 16, 0, 0, 0⟩
    let planned := fun (seat : Seat) (r : PlanRecord) => { hall with plan := put hall.plan seat r }
    let blocked := fun (seat : Seat) (s : State) =>
      unitAt 0 3 ⟨some seat, .delegate false, .blocked .duplicate, 16, 0, 0, 0⟩
        { s with trunks := { s.trunks with blocked := [⟨⟨0, 3⟩, some seat, .duplicate⟩] } }
    let elsewhere : PlanRecord := ⟨.delegate, some ⟨3, 127⟩, 0, true⟩
    (Queues hall ∧ hall.trunks.binding[(5 : Seat)] = some ⟨0, 0⟩ ∧ hall.trunks.entryAt ⟨0, 0⟩ = some ready ∧
        failedCheck hall ⟨0, 0⟩ ready.buttons.unitType 5 = none ∧ hall.trunks.binding[(511 : Seat)] = none) ∧
      (failedCheck (planned 5 elsewhere) ⟨0, 0⟩ ready.buttons.unitType 5 = some .location ∧
        failedCheck (planned 5 ⟨.chair, none, 0, false⟩) ⟨0, 0⟩ ready.buttons.unitType 5 = some .type ∧
        heldSlot speech 5 = true ∧ heldSlot hall 5 = false) ∧
      (failedCheck (blocked 9 hall) ⟨0, 3⟩ .delegateUnit 9 = none ∧
        failedCheck (blocked 5 hall) ⟨0, 3⟩ .delegateUnit 5 = some .duplicate ∧
        failedCheck (blocked 9 (planned 9 elsewhere)) ⟨0, 3⟩ .delegateUnit 9 = some .location ∧
        (blocked 9 hall).trunks.entryAt ⟨0, 3⟩ = some ⟨some 9, .delegate false, .blocked .duplicate, 16, 0, 0, 0⟩) := by
  refine ⟨⟨.inl (by decide), ?_⟩, ?_, ?_⟩ <;> decide +kernel

theorem witness_LeavingDelegateGivesUpTheFloor :
    let s := cursorAt ⟨5, .write, none⟩ (waiting [{ entry 6 with target := some 5 }] speech)
    (TakesOrders s ∧ QueueLaw s ∧ SlotListsLaw s ∧ s.cursor.direction = .write ∧ s.cursor.index.val = (5 : Seat).val ∧
      CarriesRecord 2 0xFF 0 0 0 ⟨.chair, none, 0, false⟩ ∧ CarriesRecord 3 0xFF 0 0 0 ⟨.listener, none, 0, false⟩ ∧
      s.plan[(5 : Seat)].cls = .delegate ∧
      ((List.finRange 512).countP fun i : Seat => i ≠ 5 && s.plan[i].cls == .chair) < 4) ∧ OneSlotLaw s := by
  refine ⟨⟨⟨rfl, rfl, rfl⟩, ?_, ?_, rfl, rfl, carries_nowhere .chair, carries_nowhere .listener, by decide,
    no_other_chairs 5 hall_has_no_chairs⟩, oneSlot_of_check (by decide)⟩
  · unfold QueueLaw; decide
  · unfold SlotListsLaw; decide

/-- The class requests of a seat whose chair record is still to be added, and a chair seat taken out of its class. -/
theorem witness_LeavingDelegateGivesUpTheFloor_chairs :
    let s := cursorAt ⟨7, .write, none⟩ chairHall
    (chairHall.floor.chairs.Pairwise (fun a b => a.seat < b.seat) ∧ (∀ c ∈ chairHall.floor.chairs, c.seat ≠ 5) ∧
        chairHall.plan[(5 : Seat)].cls = .delegate) ∧
      (TakesOrders s ∧ s.cursor.direction = .write ∧ s.cursor.index.val = (7 : Seat).val ∧ s.plan[(7 : Seat)].cls = .chair ∧
        CarriesRecord 1 0xFF 0 0 0 ⟨.delegate, none, 0, false⟩ ∧ CarriesRecord 0 0xFF 0 0 0 ⟨.vacant, none, 0, false⟩) ∧
      ChairsLaw s := by
  exact ⟨by decide, ⟨⟨rfl, rfl, rfl⟩, rfl, rfl, by decide +kernel, carries_nowhere .delegate, carries_nowhere .vacant⟩,
    chairHall_chairs _ rfl _ rfl rfl⟩

/-! #### The trunks -/

/-- A round of two positions on wing A stands at a position. -/
def roundAt (next : Nat) (s : State) : State :=
  { s with trunks := { s.trunks with
    units := put s.trunks.units 0 { s.trunks.units[(0 : Wing)] with roundLength := 2, nextPos := next } } }

theorem witness_PollSentGoesRound :
    let s := roundAt 2 (assigning ⟨1, 9, 0⟩ (speaking 1 (plain 6) hall))
    let probe := roundAt 3 hall
    (s.resetHeld = false ∧ s.trunks.units[(0 : Wing)].poll = none ∧ s.trunks.units[(0 : Wing)].nextPos = posNumber 1 ∧
        posNumber 1 ≤ s.trunks.units[(0 : Wing)].roundLength ∧ s.trunks.units[(0 : Wing)].assignment = some ⟨1, 9, 0⟩ ∧
        (⟨1, 9, 0⟩ : Assignment).pos = 1 ∧ s.floor.slotOf 6 = some 1 ∧ s.floor.slots[(1 : SlotNo)] = some (plain 6) ∧
        s.trunks.entryAt ⟨0, 1⟩ = some ⟨some 6, .delegate false, .ready, 16, 0, 0, 0⟩) ∧
      (assigning ⟨0, 9, 0⟩ s).trunks.units[(0 : Wing)].assignment = some ⟨0, 9, 0⟩ ∧
      (probe.trunks.units[(0 : Wing)].roundLength < probe.trunks.units[(0 : Wing)].nextPos ∧
        posNumber 2 = probe.trunks.units[(0 : Wing)].chainLength + 1 ∧ probe.trunks.units[(0 : Wing)].assignment = none ∧
        probe.trunks.entryAt ⟨0, 2⟩ = none) ∧
      (unitAt 0 1 ⟨some 6, .delegate false, .settling, 3, 0, 0, 0⟩ s).trunks.entryAt ⟨0, 1⟩
        = some ⟨some 6, .delegate false, .settling, 3, 0, 0, 0⟩ ∧
      (unitAt 0 1 ⟨some 6, .delegate false, .blocked .type, 3, 0, 0, 0⟩ s).trunks.entryAt ⟨0, 1⟩
        = some ⟨some 6, .delegate false, .blocked .type, 3, 0, 0, 0⟩ := by decide +kernel

/-- The rows of the indicator table for a READY unit, one state for each. -/
theorem witness_PollSentGoesRound_rows :
    let s := roundAt 2 hall
    let speaks := fun sl => speaking 1 sl s
    let refused := unitAt 0 1 ⟨some 6, .delegate false, .ready, 16, 0, 0, 1⟩ s
    let warn := withProfile (fun p => { p with allowanceMode := .warn }) (speaks (plain 6))
    let chair := fun c => roundAt 3 (chaired c 0 2 hall)
    let listener := roundAt 3 (seated 9 .listener 0 2 (.delegate false) hall)
    let first := fun s : State => (s.queue.entries.find? fun x => decide (eligibility s x = .eligible)).any fun x => x.seat == 6
    (s.plan[(6 : Seat)].cls = .delegate ∧ s.floor.slotOf 6 = none ∧ s.floor.chairOf 6 = none ∧
        s.floor.locked[(6 : Seat)] = false ∧ (setLocked 6 true s).floor.locked[(6 : Seat)] = true ∧
        refused.trunks.entryAt ⟨0, 1⟩ = some ⟨some 6, .delegate false, .ready, 16, 0, 0, 1⟩) ∧
      ((speaks { plain 6 with condition := .softLocked }).floor.slots[(1 : SlotNo)]
          = some { plain 6 with condition := .softLocked } ∧
        (speaks { plain 6 with warned := true }).floor.slots[(1 : SlotNo)] = some { plain 6 with warned := true } ∧
        (inForce warn).allowanceMode = .warn ∧ (warn.allowance.accounts[accountOf warn.plan[(6 : Seat)] 6]).balance ≤ 0 ∧
        (inForce (speaks (plain 6))).allowanceMode ≠ .warn ∧ (speaks (plain 6)).floor.slotOf 6 = some 1) ∧
      (first (waiting [entry 9, entry 6] s) = true ∧ first (waiting [entry 5, entry 6] s) = false ∧
        entry 6 ∈ (waiting [entry 5, entry 6] s).queue.entries ∧ ∀ x ∈ (waiting [entry 5] s).queue.entries, x.seat ≠ 6) ∧
      ((chair ⟨7, true, true, 1, false, false⟩).plan[(7 : Seat)].cls = .chair ∧
        (chair ⟨7, true, true, 1, false, false⟩).floor.slotOf 7 = none ∧
        (chair ⟨7, true, true, 1, false, false⟩).floor.chairOf 7 = some ⟨7, true, true, 1, false, false⟩ ∧
        (chair ⟨7, false, false, 0, false, false⟩).floor.chairOf 7 = some ⟨7, false, false, 0, false, false⟩ ∧
        (chair ⟨7, true, false, 0, false, false⟩).trunks.entryAt ⟨0, 2⟩
          = some ⟨some 7, .chair false false false, .ready, 16, 0, 0, 0⟩) ∧
      listener.plan[(9 : Seat)].cls = .listener ∧
        listener.trunks.entryAt ⟨0, 2⟩ = some ⟨some 9, .delegate false, .ready, 16, 0, 0, 0⟩ := by decide +kernel

/-- No poll in progress, the end probe, position 128 of a round of 128 positions, and a position within a round. -/
theorem witness_PollSentGoesRound_ends :
    let polled := fun (pos : Pos) (probe : Bool) (len next : Nat) => { hall with trunks := { hall.trunks with
      units := put hall.trunks.units 0 { hall.trunks.units[(0 : Wing)] with
        poll := some ⟨pos, probe, .closed, .off, none⟩, roundLength := len, nextPos := next } } }
    let unit := fun s : State => s.trunks.units[(0 : Wing)]
    (hall.resetHeld = false ∧ (unit hall).poll = none) ∧
      (unit (polled 2 true 2 4)).poll = some ⟨2, true, .closed, .off, none⟩ ∧
      ((unit (polled 127 false 128 129)).poll = some ⟨127, false, .closed, .off, none⟩ ∧
        (unit (polled 127 false 128 129)).roundLength = 128 ∧ 128 < (unit (polled 127 false 128 129)).nextPos) ∧
      (unit (polled 0 false 2 2)).poll = some ⟨0, false, .closed, .off, none⟩ ∧
        ¬((unit (polled 126 false 128 128)).roundLength = 128 ∧ 128 < (unit (polled 126 false 128 128)).nextPos) := by decide

theorem witness_NewUnitBeginsSettling :
    let s := polling 127 hall
    let e : ChainEntry := ⟨some 5, .delegate false, .ready, 16, 0, 0, 0⟩
    (s.resetHeld = false ∧ s.trunks.units[(0 : Wing)].poll = some ⟨127, false, .closed, .off, none⟩ ∧
        s.trunks.entryAt ⟨0, 127⟩ = none ∧ s.trunks.units[(0 : Wing)].assignment = none ∧
        posNumber 2 = hall.trunks.units[(0 : Wing)].chainLength + 1) ∧
      ((polling 0 hall).trunks.units[(0 : Wing)].poll = some ⟨0, false, .closed, .off, none⟩ ∧
        (polling 0 hall).trunks.entryAt ⟨0, 0⟩ = some e ∧ some 9 ≠ e.addr ∧ some 5 = e.addr ∧
        (Buttons.chair false false false).unitType ≠ e.buttons.unitType ∧
        (polling 0 hall).trunks.units[(0 : Wing)].assignment = none) ∧
      (assigning ⟨0, 9, 1⟩ (polling 0 hall)).trunks.units[(0 : Wing)].assignment = some ⟨0, 9, 1⟩ ∧
        ¬((⟨some 9, .delegate false, false, 0⟩ : TrunkAnswer).stored = true) := by decide +kernel

theorem witness_AnswersAndRefusalsAreCounted :
    let e : ChainEntry := ⟨some 9, .delegate false, .settling, 14, 1, 0, 20⟩
    let a : TrunkAnswer := ⟨some 9, .delegate true, false, 63⟩
    let s := polling 3 (unitAt 0 3 e live)
    (s.resetHeld = false ∧ s.trunks.units[(0 : Wing)].poll = some ⟨3, false, .closed, .off, none⟩ ∧
        s.trunks.units[(0 : Wing)].assignment = none ∧ s.trunks.entryAt ⟨0, 3⟩ = some e ∧ a.addr = e.addr ∧
        a.buttons.unitType = e.buttons.unitType ∧ e.presence = .settling ∧ e.settle < 15 ∧ e.miss < 2) ∧
      (unitAt 0 3 { e with presence := .blocked .duplicate } s).trunks.entryAt ⟨0, 3⟩
        = some { e with presence := .blocked .duplicate } ∧
      readAnswer [0x5A, 0x00, 0x05, 0x00, 0x40, 0xBB] = none ∧
      ((polling 0 hall).trunks.units[(0 : Wing)].assignment = none ∧ (polling 0 hall).trunks.entryAt ⟨0, 0⟩
        = some ⟨some 5, .delegate false, .ready, 16, 0, 0, 0⟩) ∧
      hall.seats[(5 : Seat)] = none ∧ (recorded 5 silent hall).seats[(5 : Seat)] ≠ none := by decide

/-- The counts on both sides of their limits, a READY unit, an ABSENT position, and an assignment to the position that is
carried by its seventh and by its eighth poll. -/
theorem witness_AnswersAndRefusalsAreCounted_limits :
    let e : ChainEntry := ⟨some 9, .delegate false, .settling, 15, 2, 0, 0⟩
    let s := polling 3 (unitAt 0 3 e live)
    let late := fun s : State => (s.trunks.units[(0 : Wing)].assignment).any fun x => decide (x.pos = 3 ∧ 8 ≤ x.polls)
    (s.resetHeld = false ∧ s.trunks.units[(0 : Wing)].poll = some ⟨3, false, .closed, .off, none⟩ ∧
        s.trunks.entryAt ⟨0, 3⟩ = some e ∧ 15 ≤ e.settle ∧ 2 ≤ e.miss) ∧
      (polling 3 (unitAt 0 3 { e with settle := 14, miss := 1 } live)).trunks.entryAt ⟨0, 3⟩
        = some { e with settle := 14, miss := 1 } ∧
      ((polling 0 hall).trunks.entryAt ⟨0, 0⟩ = some ⟨some 5, .delegate false, .ready, 16, 0, 0, 0⟩ ∧
        (polling 127 hall).trunks.entryAt ⟨0, 127⟩ = none) ∧
      (late (assigning ⟨3, 511, 8⟩ s) = true ∧ late (assigning ⟨3, 511, 7⟩ s) = false ∧ late s = false ∧
        (assigning ⟨3, 511, 8⟩ s).trunks.units[(0 : Wing)].assignment = some ⟨3, 511, 8⟩ ∧
        ¬((⟨some 9, .delegate false, true, 0⟩ : TrunkAnswer).addr = some 511)) := by decide +kernel

theorem witness_SettleCompleteMakesTheChecks :
    let s := fun e => unitAt 0 127 e hall
    (Sending (s ⟨none, .delegate false, .settling, 15, 0, 0, 0⟩) ∧
        (s ⟨none, .delegate false, .settling, 15, 0, 0, 0⟩).trunks.entryAt ⟨0, 127⟩
          = some ⟨none, .delegate false, .settling, 15, 0, 0, 0⟩) ∧
      ((s ⟨some 5, .delegate false, .settling, 15, 0, 0, 0⟩).trunks.binding[(5 : Seat)] ≠ none ∧
        (s ⟨some 5, .delegate false, .settling, 15, 0, 0, 0⟩).trunks.binding[(5 : Seat)] ≠ some ⟨0, 127⟩ ∧
        hall.plan[(5 : Seat)].location = none) ∧
      (hall.plan[(5 : Seat)].cls = .delegate ∧ (Buttons.chair false false false).unitType = .chairUnit) ∧
      ({ hall with plan := put hall.plan 9 ⟨.delegate, some ⟨0, 126⟩, 0, false⟩ } : State).plan[(9 : Seat)].location
        = some ⟨0, 126⟩ ∧
      hall.trunks.binding[(511 : Seat)] = none ∧ hall.plan[(511 : Seat)].location = none := by
  unfold Sending; decide +kernel

theorem witness_UnitLostLeavesItsSeat :
    let s := waiting [{ entry 6 with target := some 5 }] speech
    (Sending s ∧ s.trunks.entryAt ⟨0, 0⟩ = some ⟨some 5, .delegate false, .ready, 16, 0, 0, 0⟩ ∧
        s.trunks.units[(0 : Wing)].assignment = none ∧ QueueLaw s ∧ SlotListsLaw s ∧ NoAdvance s ∧
        s.plan[(5 : Seat)].cls ≠ .chair) ∧ OneSlotLaw s ∧
      (unitAt 0 127 ⟨none, .delegate false, .settling, 0, 0, 0, 0⟩ s).trunks.entryAt ⟨0, 127⟩
        = some ⟨none, .delegate false, .settling, 0, 0, 0, 0⟩ ∧
      (unitAt 0 127 ⟨none, .delegate false, .blocked .unbound, 16, 0, 0, 0⟩ s).trunks.entryAt ⟨0, 127⟩
        = some ⟨none, .delegate false, .blocked .unbound, 16, 0, 0, 0⟩ := by
  refine ⟨?_, oneSlot_of_check (by decide), rfl, rfl⟩
  unfold Sending QueueLaw SlotListsLaw NoAdvance
  decide

/-- An assignment in flight to the lost position, a chair seat, and reply bindings: none, one that frees nobody, one that frees an
eligible entry, and one whose test waits for the check of a close. -/
theorem witness_UnitLostLeavesItsSeat_leaving :
    let reply := { entry 6 with target := some 5 }
    let bound := fun (es : List QueueEntry) => es.filter fun x => x.target = some (5 : Seat)
    let waits := waiting [reply] hall
    (assignmentNotices (assigning ⟨0, 9, 1⟩ hall) ⟨0, 0⟩ .lost = [.assignFailed ⟨0, 0⟩ 9 .lost] ∧
        assignmentNotices (assigning ⟨1, 9, 1⟩ hall) ⟨0, 0⟩ .lost = []) ∧
      (Sending chairHall ∧ chairHall.plan[(7 : Seat)].cls = .chair ∧
        chairHall.trunks.entryAt ⟨0, 2⟩ = some ⟨some 7, .chair false false false, .ready, 16, 0, 0, 0⟩) ∧
      (Queues waits ∧ waits.queue.list = .open ∧ QueueLaw waits ∧ SlotListsLaw waits ∧ waits.floor.slotOf 5 = none ∧
        reply ∈ waits.queue.entries ∧ reply.seat ≠ 5 ∧
        eligibility waits { reply with target := none, heard := false } = .eligible) ∧ OneSlotLaw waits ∧
      (bound hall.queue.entries = [] ∧ bound waits.queue.entries ≠ [] ∧
        eligibility (setLocked 6 true waits) { reply with target := none, heard := false } ≠ .eligible) := by
  refine ⟨by decide +kernel, ?_, ⟨.inl (by decide), ?_⟩, oneSlot_of_check (by decide), by decide +kernel⟩
  · unfold Sending; decide +kernel
  · unfold QueueLaw SlotListsLaw; decide

theorem witness_SeatAssignIsRecorded :
    (TakesOrders speech ∧ 3 < (4 : Byte).toNat ∧ 128 < (129 : Byte).toNat ∧ 511 < (512 : Half).toNat ∧
        (3 : Byte).toNat = (3 : Wing).val ∧ (128 : Byte).toNat = posNumber 127 ∧ (511 : Half).toNat = (511 : Seat).val) ∧
      (assigning ⟨0, 9, 0⟩ speech).trunks.units[(0 : Wing)].assignment ≠ none ∧
      (speech.trunks.units[(3 : Wing)].assignment = none ∧ speech.trunks.entryAt ⟨3, 127⟩ = none) ∧
      (speech.trunks.units[(0 : Wing)].assignment = none ∧
        speech.trunks.entryAt ⟨0, 0⟩ = some ⟨some 5, .delegate false, .ready, 16, 0, 0, 0⟩ ∧ QueueLaw speech ∧
        SlotListsLaw speech) ∧ OneSlotLaw speech := by
  refine ⟨?_, ?_, ?_, ?_, oneSlot_of_check (by decide)⟩ <;>
    (try unfold TakesOrders) <;> (try unfold QueueLaw SlotListsLaw) <;> decide

theorem witness_AssignmentCompletesOrTimesOut :
    let e : ChainEntry := ⟨none, .delegate false, .settling, 0, 0, 0, 0⟩
    let a : TrunkAnswer := ⟨some 511, .delegate false, true, 0⟩
    let s := assigning ⟨127, 511, 1⟩ (polling 127 (unitAt 0 127 e live))
    let ready : ChainEntry := ⟨some 5, .delegate false, .ready, 16, 0, 0, 0⟩
    let asked := fun x => assigning ⟨0, x, 1⟩ (polling 0 (waiting [{ entry 6 with target := some 5 }] speech))
    (Sending s ∧ s.trunks.units[(0 : Wing)].poll = some ⟨127, false, .closed, .off, none⟩ ∧
        s.trunks.entryAt ⟨0, 127⟩ = some e ∧ e.presence = .settling ∧
        s.trunks.units[(0 : Wing)].assignment = some ⟨127, 511, 1⟩ ∧ a.stored = true ∧ a.addr = some 511 ∧
        a.buttons.unitType = e.buttons.unitType ∧ s.plan[(511 : Seat)].location = none ∧
        s.plan[(511 : Seat)].cls = .vacant ∧ s.trunks.binding[(511 : Seat)] = none) ∧
      (unitAt 0 127 { e with presence := .blocked .unbound } s).trunks.entryAt ⟨0, 127⟩
        = some { e with presence := .blocked .unbound } ∧
      (Sending (asked 5) ∧ (asked 5).trunks.units[(0 : Wing)].poll = some ⟨0, false, .closed, .off, none⟩ ∧
        (asked 5).trunks.entryAt ⟨0, 0⟩ = some ready ∧ ready.presence = .ready ∧ ready.addr = some 5 ∧
        (asked 5).trunks.units[(0 : Wing)].assignment = some ⟨0, 5, 1⟩ ∧ (asked 5).trunks.binding[(5 : Seat)] = some ⟨0, 0⟩) ∧
      ((5 : Seat) ≠ 9 ∧ (asked 9).plan[(5 : Seat)].cls ≠ .chair ∧ NoAdvance (asked 9) ∧ QueueLaw (asked 9) ∧ SlotListsLaw (asked 9)) ∧
      OneSlotLaw (asked 9) ∧
      ((asked 6).trunks.binding[(6 : Seat)] ≠ none ∧ (asked 6).trunks.binding[(6 : Seat)] ≠ some ⟨0, 0⟩ ∧
        (asked 6).plan[(6 : Seat)].location = none) ∧
      (({ asked 9 with plan := put (asked 9).plan 9 ⟨.chair, none, 0, false⟩ } : State).plan[(9 : Seat)].cls = .chair ∧
        ready.buttons.unitType = .delegateUnit) ∧
      ({ asked 9 with plan := put (asked 9).plan 9 ⟨.delegate, some ⟨0, 1⟩, 0, false⟩ } : State).plan[(9 : Seat)].location
        = some ⟨0, 1⟩ := by
  refine ⟨?_, by decide +kernel, ?_, ?_, oneSlot_of_check (by decide), by decide +kernel, by decide +kernel, by decide +kernel⟩
  · unfold Sending; decide +kernel
  · unfold Sending; decide +kernel
  · unfold NoAdvance QueueLaw SlotListsLaw; decide +kernel

/-- Seat 5 speaks and seat 6 waits with a reply bound to it. -/
def reply56 : State := waiting [{ entry 6 with target := some 5 }] speech

/-- The binding map of the hall. -/
theorem hall_binding (x : Seat) : hall.trunks.binding[x] =
    if x = 6 then some ⟨0, 1⟩ else if x = 5 then some ⟨0, 0⟩ else none := by
  simp only [hall, seated, delegate, live, atWork, State.reset, Trunks.bind, Trunks.putEntry, put_getElem, Trunks.reset]
  split
  · rfl
  · split
    · rfl
    · simp

theorem witness_TrunkRestartEmptiesTheChain :
    (TakesOrders reply56 ∧ 3 < (4 : Byte).toNat ∧ (0 : Byte).toNat = (0 : Wing).val ∧ (3 : Byte).toNat = (3 : Wing).val) ∧
      TrunkLaws reply56 ∧ FloorLaws reply56 ∧ NoAdvance reply56 ∧
      (boundOn reply56 0 5 = true ∧ boundOn reply56 0 9 = false) ∧
      (∀ seat : Seat, boundOn reply56 0 seat = true → reply56.plan[seat].cls ≠ .chair) ∧
      ∀ seat : Seat, boundOn reply56 3 seat = false := by
  refine ⟨by unfold TakesOrders; decide, trunkLaws_of_check (fun x => ?_) (by decide +kernel) (by decide) (fun x h => ?_), ⟨?_, ?_, ?_⟩,
    by unfold NoAdvance; decide, by decide, fun x _ => hall_has_no_chairs x, fun x => ?_⟩
  · rw [show reply56.trunks.binding[x] = hall.trunks.binding[x] from rfl, hall_binding]
    split
    · next h => subst h; decide
    · split
      · next h => subst h; decide
      · rfl
  · rw [show reply56.seats[x] = none by
      simp [reply56, waiting, speech, speaking, quiet, withProfile, hall, delegate, seated, live, atWork, State.reset]] at h
    cases h
  · unfold QueueLaw; decide
  · unfold SlotListsLaw; decide
  · exact oneSlot_of_check (by decide)
  · rw [boundOn, show reply56.trunks.binding[x] = hall.trunks.binding[x] from rfl, hall_binding]
    split
    · rfl
    · split <;> rfl

/-! #### The seat input unit -/

theorem witness_QuietCountsGoUp :
    let s := recorded 6 { silent with voiced := true, quietCount := 19 } (recorded 5 { silent with voiced := true, quietCount := 18 } hall)
    s.resetHeld = false ∧ s.seats[(7 : Seat)] = none ∧
      s.seats[(5 : Seat)] = some { silent with voiced := true, quietCount := 18 } ∧ 18 + 1 < (inForce s).voiceRelease ∧
      s.seats[(6 : Seat)] = some { silent with voiced := true, quietCount := 19 } ∧ (inForce s).voiceRelease ≤ 19 + 1 := by
  decide

/-- One seat falls quiet alone; one with a slot of origin VOICE falls quiet beside one with a slot of origin PRESS. -/
theorem witness_QuietCountsGoUp_falls :
    let falls := { silent with voiced := true, quietCount := 19 }
    let alone := recorded 6 { falls with quietCount := 18 } (recorded 5 falls speech)
    let s := recorded 6 falls (recorded 5 falls (speaking 1 { plain 6 with origin := .voice } speech))
    (alone.resetHeld = false ∧ alone.seats[(5 : Seat)] = some falls ∧ falls.voiced = true ∧
        (inForce alone).voiceRelease ≤ 19 + 1 ∧ 18 + 1 < (inForce alone).voiceRelease) ∧
      (∀ (x : Seat) (r : SeatRecord), alone.seats[x] = some r → x ≠ 5 → r.quietCount + 1 < (inForce alone).voiceRelease) ∧
      (Sending s ∧ NoAdvance s ∧ SlotListsLaw s ∧ s.floor.slotOf 6 = some 1 ∧
        s.floor.slots[(1 : SlotNo)] = some { plain 6 with origin := .voice } ∧ s.seats[(6 : Seat)] = some falls ∧
        s.plan[(6 : Seat)].cls = .delegate) ∧ OneSlotLaw s := by
  refine ⟨by decide, fun x r h ne => ?_, ?_, oneSlot_of_check (by decide)⟩
  · rw [recorded, recorded] at h
    simp only [put_getElem, if_neg ne] at h
    split at h
    · cases h; decide
    · simp [speech, speaking, quiet, withProfile, hall, delegate, seated, live, atWork, State.reset] at h
  · unfold Sending NoAdvance SlotListsLaw; decide

theorem witness_VoiceOpensAndSilenceCloses :
    let s := recorded 5 silent (withProfile (fun p => { p with mode := .voice, speakerLimit := 1 }) (quiet hall))
    let t := recorded 5 { silent with voiced := true } (speaking 0 { plain 5 with origin := .voice } (quiet hall))
    (Sending s ∧ s.seats[(5 : Seat)] = some silent ∧ silent.voiced = false ∧ s.plan[(5 : Seat)].cls = .delegate ∧
        s.floor.free = 0 :: [1, 2, 3, 4, 5, 6, 7] ∧ (∀ e ∈ s.queue.entries, e.seat ≠ 5)) ∧
      ((inForce s).mode = .voice ∧ s.plan[(5 : Seat)].voice = true ∧ s.floor.locked[(5 : Seat)] = false ∧
        isMasked s 5 = false ∧ s.floor.occupied < (inForce s).speakerLimit ∧ holdCount s = 0) ∧
      (inForce (recorded 5 silent hall)).mode ≠ .voice ∧
      (Sending t ∧ t.seats[(5 : Seat)] = some { silent with voiced := true } ∧ t.plan[(5 : Seat)].cls = .delegate ∧
        NoAdvance t ∧ t.floor.slotOf 5 = some 0 ∧ t.floor.slots[(0 : SlotNo)] = some { plain 5 with origin := .voice }) ∧
      ∀ (m : SlotNo) (sl : Slot), s.floor.slots[m] = some sl → sl.seat ≠ 5 := by
  refine ⟨?_, ?_, ?_, ?_, slots_of_check (by decide)⟩ <;> (try unfold Sending) <;> (try unfold NoAdvance) <;> decide

/-- The levels at the threshold, 28 under voice step 3, and the runs at the voice attack value 2. -/
theorem witness_VoiceOpensAndSilenceCloses_levels :
    let s := fun r => recorded 5 r hall
    (s silent).resetHeld = false ∧ (s silent).seats[(5 : Seat)] = some silent ∧
      16 + 4 * (inForce (s silent)).voiceStep = 28 ∧ 28 ≤ 28 ∧ 27 < 28 ∧ silent.voiced = false ∧
      silent.attackRun + 1 < (inForce (s silent)).voiceAttack ∧
      (s { silent with attackRun := 1 }).seats[(5 : Seat)] = some { silent with attackRun := 1 } ∧
      (inForce (s silent)).voiceAttack ≤ 1 + 1 ∧
      (s { silent with voiced := true }).seats[(5 : Seat)] = some { silent with voiced := true } := by decide

/-- Auto advance is yes: the close of a VOICE slot, and that of a hard howl (HowlLocksTheSlot). -/
theorem witness_VoiceOpensAndSilenceCloses_advance :
    let s := fun sl => recorded 5 { silent with voiced := true } (speaking 0 sl hall)
    (Sending (s { plain 5 with origin := .voice }) ∧ ¬NoAdvance (s { plain 5 with origin := .voice }) ∧
        (s { plain 5 with origin := .voice }).floor.slotOf 5 = some 0) ∧
      ((s { plain 5 with strikes := 2 }).floor.slots[(0 : SlotNo)] = some { plain 5 with strikes := 2 } ∧
        (s { plain 5 with strikes := 2 }).plan[(5 : Seat)].cls = .delegate ∧
        (s { plain 5 with strikes := 2 }).seats[(5 : Seat)] = some { silent with voiced := true }) := by
  unfold Sending NoAdvance; decide

/-- A waiting seat that begins to speak, with the list OPEN and DRAINING; a floor that is full; a seat of another class in both
states; and a seat with no record. -/
theorem witness_VoiceOpensAndSilenceCloses_waiting :
    let s := recorded 5 silent (withProfile (fun p => { p with mode := .voice, speakerLimit := 1 })
      (waiting [entry 6, entry 5] hall))
    let other := fun r => recorded 9 r (seated 9 .listener 0 2 (.delegate false) hall)
    let opens := fun (s : State) => (inForce s).mode = .voice ∧ s.plan[(5 : Seat)].voice = true ∧ s.floor.slotOf 5 = none ∧
      s.floor.locked[(5 : Seat)] = false ∧ isMasked s 5 = false ∧ s.floor.occupied < (inForce s).speakerLimit ∧
      holdCount s = 0
    (Sending s ∧ QueueLaw s ∧ opens s ∧ s.queue.list = .open ∧ (∃ e ∈ s.queue.entries, e.seat = 5) ∧
        s.seats[(5 : Seat)] = some silent ∧ s.floor.free = 0 :: [1, 2, 3, 4, 5, 6, 7]) ∧
      (QueueLaw (draining 300 s) ∧ opens (draining 300 s) ∧ (draining 300 s).queue.list ≠ .open) ∧
      ¬opens (speaking 0 (plain 6) s) ∧
      ((other silent).seats[(9 : Seat)] = some silent ∧ (other silent).plan[(9 : Seat)].cls ≠ .delegate ∧
        (other { silent with voiced := true }).seats[(9 : Seat)] = some { silent with voiced := true }) ∧
      hall.seats[(7 : Seat)] = none := by
  unfold Sending QueueLaw; decide +kernel

theorem witness_HowlLocksTheSlot :
    let s := fun sl => recorded 5 silent (speaking 0 sl (quiet hall))
    (Sending (s (plain 5)) ∧ NoAdvance (s (plain 5)) ∧ (s (plain 5)).seats[(5 : Seat)] = some silent ∧
        (s (plain 5)).plan[(5 : Seat)].cls = .delegate ∧ (s (plain 5)).floor.slotOf 5 = some 0 ∧
        (s (plain 5)).floor.slots[(0 : SlotNo)] = some (plain 5) ∧ (plain 5).condition = .open ∧
        (inForce (s (plain 5))).lockKind = .soft) ∧
      (s { plain 5 with strikes := 1 }).floor.slots[(0 : SlotNo)] = some { plain 5 with strikes := 1 } ∧
      (s { plain 5 with strikes := 2 }).floor.slots[(0 : SlotNo)] = some { plain 5 with strikes := 2 } ∧
      (s { plain 5 with condition := .muted }).floor.slots[(0 : SlotNo)] = some { plain 5 with condition := .muted } ∧
      ((s { plain 5 with condition := .softLocked }).floor.slots[(0 : SlotNo)]
        = some { plain 5 with condition := .softLocked } ∧ holdCount (s { plain 5 with condition := .softLocked }) = 0) ∧
      0 < holdCount (chaired ⟨7, false, false, 0, false, true⟩ 0 2 (s { plain 5 with condition := .softLocked })) := by
  unfold Sending NoAdvance; decide

/-- The three phases, the last blanked report, the levels at the howl limit 58 and at 46, and the runs at the howl count 4 and
the soft release value 6. -/
theorem witness_HowlLocksTheSlot_runs :
    let s := fun r sl => recorded 5 r (speaking 0 sl (quiet hall))
    let chair := fun c => recorded 7 silent (chaired c 0 2 hall)
    let p := inForce hall
    ((s silent (plain 5)).resetHeld = false ∧ (s silent (plain 5)).seats[(5 : Seat)] = some silent ∧
        (s silent (plain 5)).floor.slotOf 5 = some 0 ∧ (s silent (plain 5)).floor.slots[(0 : SlotNo)] = some (plain 5) ∧
        (plain 5).condition = .open ∧ silent.phase ≠ .live) ∧
      (recorded 5 silent hall).floor.slotOf 5 = none ∧ (recorded 5 silent hall).floor.chairOf 5 = none ∧
      ((chair ⟨7, true, false, 0, false, false⟩).floor.chairOf 7 = some ⟨7, true, false, 0, false, false⟩ ∧
        (chair ⟨7, true, true, 1, false, false⟩).floor.chairOf 7 = some ⟨7, true, true, 1, false, false⟩ ∧
        (chair ⟨7, false, false, 0, false, false⟩).floor.chairOf 7 = some ⟨7, false, false, 0, false, false⟩) ∧
      ((s { silent with phase := .live, blanking := 1 } (plain 5)).seats[(5 : Seat)]
          = some { silent with phase := .live, blanking := 1 } ∧
        (s { silent with phase := .live, howlRun := 3 } (plain 5)).seats[(5 : Seat)]
          = some { silent with phase := .live, howlRun := 3 } ∧
        p.howlLimit = 58 ∧ 57 < 58 ∧ 58 ≤ 58 ∧ 2 + 1 < p.howlCount ∧ p.howlCount ≤ 3 + 1) ∧
      (s { silent with phase := .lockedSoft, releaseRun := 5 } { plain 5 with condition := .softLocked }).floor.slots[(0 : SlotNo)]
          = some { plain 5 with condition := .softLocked } ∧
        58 - 12 < 47 ∧ 46 ≤ 58 - 12 ∧ 4 + 1 < p.softRelease ∧ p.softRelease ≤ 5 + 1 := by decide

/-- A VACANT, a LISTENER and a DELEGATE seat with a record and no slot, and a seat with no record. -/
theorem witness_HowlLocksTheSlot_idle :
    let s := recorded 8 silent (recorded 9 silent (recorded 5 silent (seated 9 .listener 0 2 (.delegate false) hall)))
    s.resetHeld = false ∧ (s.seats[(8 : Seat)] = some silent ∧ s.plan[(8 : Seat)].cls = .vacant) ∧
      (s.seats[(9 : Seat)] = some silent ∧ s.plan[(9 : Seat)].cls = .listener) ∧
      (s.seats[(5 : Seat)] = some silent ∧ s.plan[(5 : Seat)].cls = .delegate ∧ s.floor.slotOf 5 = none) ∧
      s.seats[(7 : Seat)] = none := by decide +kernel

theorem witness_ChairTalkAndHowl :
    let s := fun c => recorded 7 silent (chaired c 0 2 hall)
    let shut : ChairRecord := ⟨7, false, false, 0, false, false⟩
    let opened : ChairRecord := ⟨7, true, false, 1, false, false⟩
    let struck : ChairRecord := ⟨7, true, false, 2, false, false⟩
    let soft : ChairRecord := ⟨7, true, true, 1, false, false⟩
    (Sending (s shut) ∧ shut ∈ (s shut).floor.chairs ∧ shut.seat = 7 ∧ (s shut).floor.locked[(7 : Seat)] = false ∧
        shut.micOpen = false ∧ (setLocked 7 true (s shut)).floor.locked[(7 : Seat)] = true ∧
        (s shut).seats[(7 : Seat)] = some silent) ∧
      (opened ∈ (s opened).floor.chairs ∧ opened.micOpen = true ∧ opened.softMuted = false ∧ opened.strikes < 2 ∧
        (inForce (s opened)).lockKind = .soft) ∧
      (struck ∈ (s struck).floor.chairs ∧ 2 ≤ struck.strikes) ∧ (soft ∈ (s soft).floor.chairs ∧ soft.softMuted = true) ∧
      ChairsLaw (s shut) ∧ ChairsLaw (s opened) ∧ ChairsLaw (s struck) ∧ ChairsLaw (s soft) := by
  refine ⟨?_, ?_, ?_, ?_, chairHall_chairs _ rfl _ rfl rfl, chairHall_chairs _ rfl _ rfl rfl, chairHall_chairs _ rfl _ rfl rfl,
    chairHall_chairs _ rfl _ rfl rfl⟩ <;> (try unfold Sending) <;> decide

/-- The buttons of a chair seat and of a seat of another class, in each state. -/
theorem witness_ChairTalkAndHowl_buttons :
    let s := fun r => recorded 7 r chairHall
    let held : SeatRecord := { silent with priority := .down, talk := .down, next := .down, counted := true }
    let stale : SeatRecord := { silent with priority := .stale, talk := .stale, next := .stale }
    ((s silent).seats[(7 : Seat)] = some silent ∧ silent.priority = .up ∧ silent.talk = .up ∧ silent.next = .up) ∧
      ((s held).seats[(7 : Seat)] = some held ∧ held.priority = .down ∧ held.counted = true ∧
        (s { held with counted := false }).seats[(7 : Seat)] = some { held with counted := false }) ∧
      ((s stale).seats[(7 : Seat)] = some stale ∧ stale.priority = .stale) ∧ chairHall.plan[(7 : Seat)].cls = .chair ∧
      (recorded 5 silent chairHall).plan[(5 : Seat)].cls ≠ .chair ∧ (recorded 5 silent chairHall).seats[(5 : Seat)] = some silent ∧
      true = decide (held.priority ≠ .up) ∧ false = decide (silent.priority ≠ .up) := by decide

/-- The withdrawal of a chair with its microphone open and its hold standing, of one at rest, and of a seat with no chair record. -/
theorem witness_ChairTalkAndHowl_withdrawal :
    let s := fun c => chaired c 0 2 hall
    let talking : ChairRecord := ⟨7, true, true, 1, true, true⟩
    (talking ∈ (s talking).floor.chairs ∧ talking.micOpen = true ∧ talking.held = true ∧ Queues (s talking)) ∧
      ((⟨7, false, false, 0, false, false⟩ : ChairRecord) ∈ chairHall.floor.chairs ∧ Queues chairHall) ∧
      (∀ c ∈ chairHall.floor.chairs, c.seat ≠ 5) ∧ ChairsLaw (s talking) ∧ ChairsLaw chairHall := by
  refine ⟨⟨by decide, by decide, by decide, .inl (by decide)⟩, ⟨by decide, .inl (by decide)⟩, by decide,
    chairHall_chairs _ rfl _ rfl rfl, chairHall_chairs _ rfl _ rfl rfl⟩

theorem witness_ShortPressCases :
    let full := waiting (List.replicate 128 (entry 9)) (quiet hall)
    let nearly := waiting (List.replicate 127 (entry 9)) (quiet hall)
    let deaf := withProfile (fun p => { p with speakerMayClose := false }) speech
    (deaf.link.tx ≠ .idle ∧ deaf.floor.slotOf 5 = some 0 ∧ (inForce deaf).speakerMayClose = false) ∧
      (speech.floor.slotOf 5 = some 0 ∧ speech.floor.slots[(0 : SlotNo)] = some (plain 5) ∧
        (inForce speech).speakerMayClose = true ∧ NoAdvance speech) ∧
      (hall.floor.slotOf 5 = none ∧ entry 5 ∈ (waiting [entry 5] hall).queue.entries ∧ QueueLaw (waiting [entry 5] hall) ∧
        (waiting [entry 5] hall).queue.list = .open) ∧
      ((∀ e ∈ full.queue.entries, e.seat ≠ 5) ∧ full.floor.slotOf 5 = none ∧ 128 ≤ full.queue.entries.length ∧ full.queue.list = .open ∧
        (inForce full).mode = .queue ∧ full.floor.locked[(5 : Seat)] = false ∧ isMasked full 5 = false) ∧
      (NoAdvance nearly ∧ nearly.queue.entries.length < 128) ∧ (draining 1 hall).queue.list = .draining ∧
      (inForce (withProfile (fun p => { p with mode := .voice }) hall)).mode = .voice ∧
      (setLocked 5 true hall).floor.locked[(5 : Seat)] = true ∧
      isMasked { hall with floor := { hall.floor with mask := 14 } } 5 = true := by
  unfold QueueLaw NoAdvance; decide +kernel

/-- OPEN and OVERRIDE modes, the LONG PRESS and the promotion. -/
theorem witness_ShortPressCases_modes :
    let within := fun m full limit => withProfile fun p => { p with mode := m, queueWhenFull := full, speakerLimit := limit }
    let one := fun m full guarded => within m full 1 (speaking 0 { plain 6 with guarded := guarded } (quiet hall))
    let oldest := fun s : State => s.floor.speakers.find? fun n => (s.floor.slots[n]).any fun sl => !sl.guarded
    let listed := waiting [{ entry 5 with kind := .priority }] hall
    ((inForce (within .open true 1 hall)).mode = .open ∧ hall.floor.slotOf 5 = none ∧ QueueLaw hall ∧ hall.link.tx ≠ .idle ∧
        (∀ e ∈ hall.queue.entries, e.seat ≠ 5) ∧ hall.floor.occupied < 1 ∧ holdCount hall = 0 ∧
        hall.floor.free = 0 :: [1, 2, 3, 4, 5, 6, 7] ∧
        0 < holdCount (chaired ⟨7, false, false, 0, false, true⟩ 0 2 (within .open true 1 hall))) ∧
      ((inForce (one .open true false)).speakerLimit ≤ (one .open true false).floor.occupied ∧
        (inForce (one .open true false)).queueWhenFull = true ∧ (inForce (one .open false false)).queueWhenFull = false ∧
        eligibility (waiting [entry 6] (within .open true 8 hall)) (entry 6) = .eligible) ∧
      ((inForce (one .override true false)).mode = .override ∧ oldest (one .override true true) = none ∧
        oldest (one .override true false) = some 0 ∧
        (one .override true false).floor.slots[(0 : SlotNo)] = some { plain 6 with guarded := false } ∧
        NoAdvance (one .override true false) ∧ (one .override true false).floor.locked[(5 : Seat)] = false ∧
        isMasked (one .override true false) 5 = false) ∧
      ({ entry 5 with kind := .priority } ∈ listed.queue.entries ∧ QueueLaw listed) ∧
      (inForce (waiting [entry 5] hall)).mode ≠ .voice := by
  unfold QueueLaw NoAdvance; decide +kernel

/-- The edges of REQUEST, and the durations 14 and 15 under the long press value 15, the second across the wrap of the clock. -/
theorem witness_ShortPressCases_buttons :
    let s := fun r clock => { recorded 5 r hall with link := { hall.link with clock := clock } }
    let down := fun start => { silent with request := .down, pressStart := some start }
    ((s silent 0).seats[(5 : Seat)] = some silent ∧ silent.request = .up ∧
        (s { silent with request := .stale } 0).seats[(5 : Seat)] = some { silent with request := .stale }) ∧
      ((s (down 0) 14).seats[(5 : Seat)] = some (down 0) ∧ (down 0).pressStart = some 0 ∧
        (s (down 0) 14).plan[(5 : Seat)].cls = .delegate ∧
        min ((2 ^ 32 + (14 : Clock).toNat - (0 : Clock).toNat) % 2 ^ 32) 255 < (inForce hall).longPress) ∧
      ((s (down 0xFFFFFFFF) 14).seats[(5 : Seat)] = some (down 0xFFFFFFFF) ∧
        (inForce hall).longPress ≤ min ((2 ^ 32 + (14 : Clock).toNat - (0xFFFFFFFF : Clock).toNat) % 2 ^ 32) 255) ∧
      (recorded 9 (down 0) hall).plan[(9 : Seat)].cls ≠ .delegate ∧ (recorded 9 (down 0) hall).seats[(9 : Seat)] = some (down 0) := by
  decide +kernel

/-- Auto advance is yes: the close by a press, a removal, and an entry that joins, eligible or not. -/
theorem witness_ShortPressCases_advances :
    (speaking 0 (plain 5) hall).floor.slotOf 5 = some 0 ∧ (inForce (speaking 0 (plain 5) hall)).speakerMayClose = true ∧
      (inForce hall).autoAdvance = true ∧ (inForce hall).mode = .queue ∧ hall.queue.list = .open ∧ hall.queue.entries.length < 128 ∧
      eligibility hall (entry 5) = .eligible ∧ eligibility (setLocked 5 true hall) (entry 5) ≠ .eligible ∧
      entry 5 ∈ (draining 300 (waiting [entry 5] hall)).queue.entries := by decide

/-! #### The queue and the list -/

theorem witness_QueueAddTests :
    let full := waiting (List.replicate 128 (entry 9)) hall
    let nearly := waiting (List.replicate 127 (entry 9)) hall
    (TakesOrders hall ∧ 511 < (512 : Half).toNat ∧ 1 < (2 : Byte).toNat ∧ ((512 : Half) ≠ 0xFFFF ∧ 511 < (512 : Half).toNat) ∧
        (5 : Half).toNat = (5 : Seat).val ∧ (511 : Half).toNat = (511 : Seat).val ∧ (1 : Byte).toNat ≤ 1 ∧
        (511 : Half).toNat ≤ 511) ∧
      (draining 1 hall).queue.list = .draining ∧ hall.queue.list = .open ∧ hall.plan[(511 : Seat)].cls ≠ .delegate ∧
      ¬(hall.plan[(5 : Seat)].cls ≠ .delegate ∨ hall.trunks.binding[(5 : Seat)] = none) ∧
      speech.floor.slots[(0 : SlotNo)] = some (plain 5) ∧
      (∀ (n : SlotNo) (sl : Slot), hall.floor.slots[n] = some sl → sl.seat ≠ 5) ∧
      ((5 : Half).toNat = (5 : Seat).val ∧ hall.plan[(9 : Seat)].cls ≠ .delegate) ∧
      ((∀ e ∈ full.queue.entries, e.seat ≠ 5) ∧ 128 ≤ full.queue.entries.length) ∧ nearly.queue.entries.length < 128 ∧
      entry 5 ∈ (waiting [entry 5] hall).queue.entries := by
  refine ⟨⟨⟨rfl, rfl, rfl⟩, by decide⟩, rfl, rfl, by decide +kernel, by decide, by decide, slots_of_check (by decide), by decide,
    ?_, ?_, by decide⟩
  · exact ⟨fun e he => by rw [List.eq_of_mem_replicate he]; decide, by simp [waiting]⟩
  · simp [waiting]

theorem witness_QueueAddJoinsItsGroup :
    let s := waiting [{ entry 9 with kind := .priority }, entry 5] (quiet hall)
    TakesOrders s ∧ QueueLaw s ∧ NoAdvance s ∧ (5 : Half).toNat = (5 : Seat).val ∧ (1 : Byte) = EntryKind.priority.code ∧
      (0 : Byte) = EntryKind.ordinary.code ∧ (6 : Half).toNat = (6 : Seat).val ∧
      s.plan[(5 : Seat)].cls = .delegate ∧ s.trunks.binding[(5 : Seat)] ≠ none ∧ s.floor.slotOf 5 = none ∧
      ((6 : Seat) ≠ 5 ∧ s.plan[(6 : Seat)].cls = .delegate) ∧ entry 5 ∈ s.queue.entries ∧
      (quiet hall).queue.entries.length < 128 := by
  unfold TakesOrders QueueLaw NoAdvance; decide

/-- Auto advance is yes: the new entry is granted within the order, or waits behind full slots. -/
theorem witness_QueueAddJoinsItsGroup_granted :
    let s := quiet hall
    (TakesOrders hall ∧ QueueLaw hall ∧ hall.queue.list = .open ∧ (5 : Half).toNat = (5 : Seat).val ∧
        hall.floor.slotOf 5 = none ∧ eligibility hall ⟨5, .ordinary, none, false, 0, .link⟩ = .eligible ∧
        eligibility hall ⟨5, .ordinary, some 6, false, 0, .link⟩ ≠ .eligible) ∧
      (∀ e ∈ (advanceCheck (setEntries [⟨5, .ordinary, none, false, 0, .link⟩] (oweAnswer hall))).queue.entries, e.seat ≠ 5) ∧
      ∃ e ∈ (advanceCheck (setEntries [⟨5, .ordinary, none, false, 0, .link⟩] (oweAnswer s))).queue.entries, e.seat = 5 := by
  unfold TakesOrders QueueLaw; decide +kernel

theorem witness_QueueDropAndEmpty :
    let s := waiting [entry 9, entry 511] hall
    TakesOrders s ∧ QueueLaw s ∧ s.queue.list = .open ∧ 511 < (512 : Half).toNat ∧ (511 : Half).toNat = (511 : Seat).val ∧
      entry 511 ∈ s.queue.entries ∧ (entry 511).seat = 511 ∧ ∀ e ∈ s.queue.entries, e.seat ≠ 5 := by
  unfold TakesOrders QueueLaw; decide

/-- The removal of the last eligible entry of a drain, of an entry beside an eligible one, and of every entry. -/
theorem witness_QueueDropAndEmpty_draining :
    let s := draining 300 (waiting [entry 9, entry 5] hall)
    let rest := draining 300 (waiting [entry 6, entry 5] hall)
    (TakesOrders s ∧ QueueLaw s ∧ entry 5 ∈ s.queue.entries ∧ (5 : Half).toNat = (5 : Seat).val) ∧
      DrainEnds (takenOut (entry 5) .link (oweAnswer s)) ∧ ¬DrainEnds (takenOut (entry 5) .link (oweAnswer rest)) ∧
      (s.queue.entries ≠ [] ∧ DrainEnds (emptyQueue .emptied (oweAnswer s)) ∧ hall.queue.entries = []) ∧
      ¬DrainEnds (emptyQueue .emptied (oweAnswer (speaking 0 { plain 6 with drainGrant := true } s))) := by
  refine ⟨?_, drainEnds_of_check (by decide) (by decide) (.inr (by decide)), fun h => ?_,
    ⟨by decide, drainEnds_of_check (by decide) (by decide) (.inr (by decide)), rfl⟩, fun h => ?_⟩
  · unfold TakesOrders QueueLaw; decide
  · exact absurd h.2.2 (by decide)
  · exact absurd (h.2.1 0 { plain 6 with drainGrant := true } (by decide)) (by decide)

/-- An entry at its place, and a seat that has none. -/
theorem witness_QueueDropAndEmpty_places :
    let s := waiting [entry 9, entry 511] hall
    QueueLaw s ∧ s.queue.entries[1]? = some (entry 511) ∧ s.queue.entries[2]? = none ∧ s.queue.entryOf 511 = some (entry 511) ∧
      s.queue.placeOf 511 = 1 ∧ s.queue.entryOf 5 = none := by
  unfold QueueLaw; decide

theorem witness_ListCloseDrainsAndListOpenCancels :
    let s := waiting [entry 9] hall
    let granted := speaking 0 { plain 5 with drainGrant := true } s
    (TakesOrders s ∧ (0 : Half).toNat = 0 ∧ 36000 < (36001 : Half).toNat ∧ 1 ≤ (1 : Half).toNat ∧
        (36000 : Half).toNat ≤ 36000) ∧
      ((draining 1 s).queue.list = .draining ∧ TakesOrders (draining 1 s)) ∧
      (s.queue.list = .open ∧ (∀ e ∈ s.queue.entries, eligibility s e ≠ .eligible) ∧
        ∀ e ∈ granted.queue.entries, eligibility granted e ≠ .eligible) ∧
      granted.floor.slots[(0 : SlotNo)] = some { plain 5 with drainGrant := true } ∧
      ∀ (m : SlotNo) (sl : Slot), s.floor.slots[m] = some sl → sl.drainGrant = false := by
  refine ⟨?_, ?_, ?_, ?_, slots_of_check (by decide)⟩ <;> (try unfold TakesOrders) <;> decide

/-- The drain end test on both sides, and LIST CLOSE with an eligible entry: in mode VOICE, with priority held, with no free slot,
and with one. -/
theorem witness_ListCloseDrainsAndListOpenCancels_eligible :
    let s := waiting [entry 9, entry 6] hall
    let voice := withProfile (fun p => { p with mode := .voice }) s
    let holding := chaired ⟨7, false, false, 0, false, true⟩ 0 2 s
    let full := withProfile (fun p => { p with speakerLimit := 1 }) (speaking 0 (plain 5) s)
    (Queues (draining 300 s) ∧ DrainEnds (draining 300 (waiting [entry 9] hall)) ∧ ¬DrainEnds (draining 300 s)) ∧
      (TakesOrders voice ∧ voice.queue.list = .open ∧ (inForce voice).mode = .voice) ∧
      ((inForce holding).mode ≠ .voice ∧ 0 < holdCount holding ∧ ¬∀ e ∈ holding.queue.entries, eligibility holding e ≠ .eligible) ∧
      ((inForce full).speakerLimit ≤ full.floor.occupied ∧ ¬∀ e ∈ full.queue.entries, eligibility full e ≠ .eligible) ∧
      (TakesOrders s ∧ s.queue.list = .open ∧ (inForce s).mode ≠ .voice ∧ (inForce s).speakerLimit ≤ 8 ∧
        ¬(0 < holdCount s ∨ (inForce s).speakerLimit ≤ s.floor.occupied) ∧
        s.queue.entries.find? (fun x => decide (eligibility s x = .eligible)) = some (entry 6) ∧ QueueLaw s ∧ SlotListsLaw s) ∧
      OneSlotLaw s := by
  refine ⟨⟨.inl (by decide), drainEnds_of_check rfl (by decide) (.inr (by decide)), fun h => absurd h.2.2 (by decide)⟩, ?_, ?_, ?_, ?_,
    oneSlot_of_check (by decide)⟩ <;> (try unfold TakesOrders) <;> (try unfold QueueLaw SlotListsLaw) <;> decide

/-! #### The floor -/

theorem witness_FloorGrantOpensASlot :
    let s := waiting [entry 9, entry 5] hall
    let holding := chaired ⟨7, false, false, 0, false, true⟩ 0 2 s
    (TakesOrders s ∧ QueueLaw s ∧ 511 < (512 : Half).toNat ∧ 1 < (2 : Byte).toNat ∧ (5 : Half).toNat = (5 : Seat).val ∧
        (511 : Half).toNat = (511 : Seat).val ∧ (1 : Byte).toNat ≤ 1) ∧
      0 < holdCount holding ∧ holdCount s = 0 ∧ speech.floor.slots[(0 : SlotNo)] = some (plain 5) ∧
      s.plan[(511 : Seat)].cls ≠ .delegate ∧
      ¬(s.plan[(5 : Seat)].cls ≠ .delegate ∨ s.trunks.binding[(5 : Seat)] = none ∨ isMasked s 5 = true ∨
        s.floor.locked[(5 : Seat)] = true) ∧
      (inForce (withProfile (fun p => { p with speakerLimit := 1 }) (speaking 0 (plain 6) s))).speakerLimit
        ≤ (speaking 0 (plain 6) s).floor.occupied ∧
      (s.floor.occupied < (inForce s).speakerLimit ∧ s.floor.free = 0 :: [1, 2, 3, 4, 5, 6, 7] ∧ s.queue.list = .open) ∧
      ∀ (n : SlotNo) (sl : Slot), s.floor.slots[n] = some sl → sl.seat ≠ 5 := by
  refine ⟨?_, ?_, ?_, ?_, ?_, ?_, ?_, ?_, slots_of_check (by decide)⟩ <;> (try unfold TakesOrders QueueLaw) <;> decide +kernel

/-- The removal of a waiting seat's entry while the list is DRAINING. -/
theorem witness_FloorGrantOpensASlot_draining :
    let s := draining 300 (waiting [entry 9, entry 5] hall)
    TakesOrders s ∧ QueueLaw s ∧ (∃ e ∈ s.queue.entries, e.seat = 5) ∧ s.floor.free = 0 :: [1, 2, 3, 4, 5, 6, 7] ∧
      holdCount s = 0 ∧ s.floor.occupied < (inForce s).speakerLimit := by
  unfold TakesOrders QueueLaw; decide

theorem witness_FloorNextGrantsTheFirstEligible :
    let s := draining 300 (waiting [entry 9, entry 6] (speaking 0 (plain 5) hall))
    (TakesOrders s ∧ Sending s ∧ FloorLaws s ∧ holdCount s = 0 ∧ s.floor.occupied < (inForce s).speakerLimit ∧
        s.queue.entries = [entry 9] ++ entry 6 :: [] ∧ (∀ x ∈ [entry 9], eligibility s x ≠ .eligible) ∧
        eligibility s (entry 6) = .eligible ∧ s.floor.free = 1 :: [2, 3, 4, 5, 6, 7]) ∧
      0 < holdCount (chaired ⟨7, false, false, 0, false, true⟩ 0 2 s) ∧
      (inForce (withProfile (fun p => { p with speakerLimit := 1 }) s)).speakerLimit ≤ s.floor.occupied ∧
      ∀ e ∈ (waiting [entry 9] s).queue.entries, eligibility (waiting [entry 9] s) e ≠ .eligible := by
  refine ⟨⟨by unfold TakesOrders; decide, by unfold Sending; decide, ⟨?_, ?_, oneSlot_of_check (by decide)⟩, by decide⟩, by decide,
    by decide, by decide⟩
  · unfold QueueLaw; decide
  · unfold SlotListsLaw; decide

theorem witness_RevokeAndClearCloseSlots :
    let s := speaking 7 (plain 5) (quiet hall)
    TakesOrders s ∧ 511 < (512 : Half).toNat ∧ (5 : Half).toNat = (5 : Seat).val ∧ (511 : Half).toNat = (511 : Seat).val ∧
      s.floor.slotOf 511 = none ∧ NoAdvance s ∧ s.floor.slotOf 5 = some 7 ∧ s.floor.slots[(7 : SlotNo)] = some (plain 5) ∧
      SlotListsLaw s := by
  unfold TakesOrders NoAdvance SlotListsLaw; decide

/-- The close of the last drain grant with nobody eligible left, a free slot, and a close that ends no drain. -/
theorem witness_RevokeAndClearCloseSlots_draining :
    let granted := { plain 5 with drainGrant := true, override := some 300 }
    let s := draining 300 (waiting [entry 9] (speaking 0 granted hall))
    (TakesOrders s ∧ Queues s ∧ s.floor.slotOf 5 = some 0 ∧ s.floor.slots[(0 : SlotNo)] = some granted ∧
        s.floor.slots[(7 : SlotNo)] = none) ∧
      DrainEnds (closedSlot 0 granted .link s) ∧ ¬DrainEnds (closedSlot 0 (plain 5) .link speech) := by
  refine ⟨⟨⟨rfl, rfl, rfl⟩, .inl (by decide), by decide⟩,
    drainEnds_of_check rfl (by decide) (.inr (by decide)), fun h => absurd h.1 (by decide)⟩

/-- The slot of a seat among others, and a seat with none. -/
theorem witness_RevokeAndClearCloseSlots_slots :
    let s := speaking 7 (plain 6) (speaking 0 (plain 5) hall)
    OneSlotLaw s ∧ s.floor.slots[(7 : SlotNo)] = some (plain 6) ∧ s.floor.slotOf 6 = some 7 ∧ s.floor.slotOf 9 = none ∧
      s.floor.slots[(1 : SlotNo)] = none := by
  refine ⟨oneSlot_of_check (by decide), ?_⟩
  decide

theorem witness_WingMaskAndUnlock :
    TakesOrders speech ∧ 15 < (16 : Byte).toNat ∧ (15 : Byte).toNat ≤ 15 ∧ (14 : Byte).toNat ≤ 15 ∧ NoAdvance speech ∧
      SlotListsLaw speech ∧ 511 < (512 : Half).toNat ∧ (511 : Half).toNat = (511 : Seat).val ∧
      speech.floor.locked[(511 : Seat)] = false ∧ (setLocked 511 true speech).floor.locked[(511 : Seat)] = true := by
  unfold TakesOrders NoAdvance SlotListsLaw; decide +kernel

/-- A LOCKED seat with an entry and one without. -/
theorem witness_WingMaskAndUnlock_waiting :
    let s := setLocked 511 true (setLocked 5 true (draining 300 (waiting [entry 5] hall)))
    (TakesOrders s ∧ (5 : Half).toNat = (5 : Seat).val ∧ s.floor.locked[(5 : Seat)] = true ∧
        ∃ e ∈ s.queue.entries, e.seat = 5) ∧
      s.floor.locked[(511 : Seat)] = true ∧ ∀ e ∈ s.queue.entries, e.seat ≠ 511 := by
  unfold TakesOrders; decide +kernel

/-- A seat on a wing whose enable is off, one on a wing whose enable is on, and one with no bound unit. -/
theorem witness_WingMaskAndUnlock_masked :
    let s := delegate 9 1 0 { hall with floor := { hall.floor with mask := 0xE } }
    (isMasked s 5 = true ∧ s.floor.mask.toNat / 2 ^ (0 : Wing).val % 2 = 0) ∧
      (isMasked s 9 = false ∧ s.floor.mask.toNat / 2 ^ (1 : Wing).val % 2 = 1) ∧
      isMasked s 511 = false ∧ isReady s 511 = false ∧ isReady s 5 = true := by decide +kernel

theorem witness_FloorResetClearsTheFloor : TakesOrders speech := ⟨rfl, rfl, rfl⟩

theorem witness_FloorExtendRaisesTheLimit :
    let s := fun o => speaking 0 { plain 5 with override := o } (quiet hall)
    (TakesOrders (s (some 36000)) ∧ 511 < (512 : Half).toNat ∧ (0 : Half).toNat = 0 ∧ 3000 < (3001 : Half).toNat ∧
        (5 : Half).toNat = (5 : Seat).val ∧ 1 ≤ (1 : Half).toNat ∧ (3000 : Half).toNat ≤ 3000) ∧
      (s none).floor.slotOf 511 = none ∧
      ((s none).floor.slotOf 5 = some 0 ∧ (s none).floor.slots[(0 : SlotNo)] = some (plain 5) ∧
        (inForce (s none)).speechLimit = 0) ∧
      (s (some 36000)).floor.slots[(0 : SlotNo)] = some { plain 5 with override := some 36000 } ∧ 36000 ≠ 0 := by
  unfold TakesOrders; decide

theorem witness_SpeechTimingTakesEachSlot :
    let s := speaking 7 { plain 6 with override := some 5, elapsed := 4 }
      (speaking 0 { plain 5 with elapsed := 65535 } (quiet hall))
    (s.resetHeld = false ∧ NoAdvance s ∧ SlotListsLaw s ∧ s.floor.slots[(1 : SlotNo)] = none ∧
        s.floor.slots[(0 : SlotNo)] = some { plain 5 with elapsed := 65535 } ∧ (inForce s).speechLimit = 0 ∧
        s.floor.slots[(7 : SlotNo)] = some { plain 6 with override := some 5, elapsed := 4 } ∧ 5 ≤ min (4 + 1) 65535) ∧
      Sending s ∧ 4 < 5 ∧
      (speaking 7 { plain 6 with override := some 5, elapsed := 5 } (quiet hall)).floor.slots[(7 : SlotNo)]
        = some { plain 6 with override := some 5, elapsed := 5 } := by
  unfold Sending NoAdvance SlotListsLaw; decide

/-- Nobody at the limit, and the three cases of one slot: at its limit, within the lead, and neither. -/
theorem witness_SpeechTimingTakesEachSlot_slot :
    let s := fun sl => withProfile (fun p => { p with speechLimit := 600, warningLead := 100 }) (speaking 0 sl hall)
    let counted := fun n => { plain 5 with elapsed := n }
    ((s (counted 0)).floor.speakers.filter (fun n => ((s (counted 0)).floor.slots[n]).any fun sl => decide (600 ≤ sl.elapsed + 1))
        = [] ∧ (s (counted 0)).queue.list = .open ∧ Queues (s (counted 0)) ∧ SlotListsLaw (s (counted 0))) ∧
      ((inForce (s (counted 0))).speechLimit = 600 ∧ (inForce (s (counted 0))).warningLead = 100 ∧
        (s (counted 599)).floor.slots[(0 : SlotNo)] = some (counted 599) ∧ 600 ≤ 599 + 1 ∧
        (s (counted 499)).floor.slots[(0 : SlotNo)] = some (counted 499) ∧ 600 ≤ 499 + 1 + 100 ∧
        (s (counted 498)).floor.slots[(0 : SlotNo)] = some (counted 498) ∧ ¬600 ≤ 498 + 1 + 100 ∧ 499 < 600) ∧
      ¬NoAdvance (s (counted 0)) := by
  refine ⟨⟨by decide, by decide, .inl (by decide), by unfold SlotListsLaw; decide⟩, by decide, by unfold NoAdvance; decide⟩

theorem witness_AdvanceCheckRunsToItsEnd :
    let s := waiting [entry 9, entry 6] (speaking 0 (plain 5) hall)
    (FloorLaws s ∧ (inForce s).speakerLimit ≤ 8 ∧ s.floor.slots[(0 : SlotNo)] = some (plain 5)) ∧
      ((inForce s).autoAdvance = true ∧ (inForce s).mode ≠ .voice ∧ holdCount s = 0 ∧
        s.floor.occupied < (inForce s).speakerLimit ∧ s.queue.entries = [entry 9] ++ entry 6 :: [] ∧
        (∀ x ∈ [entry 9], eligibility s x ≠ .eligible) ∧ eligibility s (entry 6) = .eligible ∧
        s.floor.free = 1 :: [2, 3, 4, 5, 6, 7] ∧ s.link.tx ≠ .idle) ∧ (draining 300 s).queue.list = .draining := by
  refine ⟨⟨⟨?_, ?_, oneSlot_of_check (by decide)⟩, by decide⟩, by decide, by decide⟩
  · unfold QueueLaw; decide
  · unfold SlotListsLaw; decide

/-- Each condition of the advance check failing alone. -/
theorem witness_AdvanceCheckRunsToItsEnd_fails :
    let s := waiting [entry 6] hall
    let failing := fun (s : State) =>
      [decide ((inForce s).autoAdvance = false ∧ s.queue.list = .open), decide ((inForce s).mode = .voice),
        decide (0 < holdCount s), decide ((inForce s).speakerLimit ≤ s.floor.occupied),
        s.queue.entries.all fun e => decide (eligibility s e ≠ .eligible)]
    failing s = [false, false, false, false, false] ∧ failing (quiet s) = [true, false, false, false, false] ∧
      failing (withProfile (fun p => { p with mode := .voice }) s) = [false, true, false, false, false] ∧
      failing (chaired ⟨7, false, false, 0, false, true⟩ 0 2 s) = [false, false, true, false, false] ∧
      failing (withProfile (fun p => { p with speakerLimit := 1 }) (speaking 0 (plain 5) s)) = [false, false, false, true, false] ∧
      failing hall = [false, false, false, false, true] := by decide +kernel

/-- Each outcome of eligibility: another class, no bound unit, a masked wing, a LOCKED seat, a reply target that has not spoken
and one that has, and an entry with no target. -/
theorem witness_AdvanceCheckRunsToItsEnd_eligibility :
    let reply := { entry 6 with target := some 5 }
    let bare := { hall with plan := put hall.plan 9 ⟨.delegate, none, 0, true⟩ }
    let masked := { hall with floor := { hall.floor with mask := 0xE } }
    [eligibility hall (entry 8), eligibility bare (entry 9), eligibility masked (entry 6),
        eligibility (setLocked 6 true hall) (entry 6), eligibility hall reply, eligibility hall { reply with heard := true },
        eligibility hall (entry 6)]
      = [.notDelegate, .notReady, .masked, .locked, .awaitingReply, .eligible, .eligible] := by decide +kernel

theorem witness_PriorityHoldMutesAndReturns :
    let c : ChairRecord := ⟨7, true, false, 0, false, false⟩
    let held : ChairRecord := ⟨7, true, false, 0, true, true⟩
    let s := chaired c 0 2 (speaking 0 (plain 5) hall)
    let t := chaired held 0 2 (speaking 0 { plain 5 with condition := .muted } (quiet hall))
    (s.link.tx ≠ .idle ∧ SlotListsLaw s ∧ s.plan[(7 : Seat)].cls = .chair ∧ holdCount s = 0 ∧
        (inForce s).priorityAction = .mute) ∧
      (t.link.tx ≠ .idle ∧ SlotListsLaw t ∧ NoAdvance t ∧ held ∈ t.floor.chairs ∧ held.held = true ∧ holdCount t = 1 ∧
        held.afterHold = true ∧ held.micOpen = true) ∧ ChairsLaw s ∧ ChairsLaw t := by
  refine ⟨?_, ?_, chairHall_chairs _ rfl _ rfl rfl, chairHall_chairs _ rfl _ rfl rfl⟩ <;> unfold SlotListsLaw <;>
    (try unfold NoAdvance) <;> decide

/-- A hall of two chairs, 7 with its microphone closed and after-hold OPEN, each holding or not. -/
def twoChairs (a b : Bool) : State :=
  chaired ⟨8, false, false, 0, false, b⟩ 0 3 (chaired ⟨7, false, false, 0, true, a⟩ 0 2 (quiet hall))

/-- It is lawful (R5, R91). -/
theorem twoChairs_chairs (a b : Bool) : ChairsLaw (twoChairs a b) := by
  refine chairsLaw_of_list [7, 8] (by decide) (by decide) rfl fun x => ?_
  have : ((quiet hall).plan[x]).cls ≠ .chair := hall_has_no_chairs x
  simp only [twoChairs, chaired, seated, put_getElem]
  split
  · simp_all
  · split <;> simp_all

/-- Action CLOSE, both chairs holding, one holding and one not, and an after-hold OPEN microphone that may not open. -/
theorem witness_PriorityHoldMutesAndReturns_more :
    let closing := withProfile (fun p => { p with priorityAction := .close })
      (chaired ⟨7, false, false, 0, false, false⟩ 0 2 (speaking 0 (plain 5) hall))
    ((inForce closing).priorityAction = .close ∧ closing.queue.list = .open ∧ closing.plan[(7 : Seat)].cls = .chair ∧
        holdCount closing = 0 ∧ SlotListsLaw closing) ∧
      (2 ≤ holdCount (twoChairs true true) ∧
        (⟨7, false, false, 0, true, true⟩ : ChairRecord) ∈ (twoChairs true true).floor.chairs) ∧
      (0 < holdCount (twoChairs false true) ∧
        (⟨7, false, false, 0, true, false⟩ : ChairRecord) ∈ (twoChairs false true).floor.chairs) ∧
      (holdCount (setLocked 7 true (twoChairs true false)) = 1 ∧ isLocked (setLocked 7 true (twoChairs true false)) 7 = true ∧
        NoAdvance (setLocked 7 true (twoChairs true false))) ∧
      ChairsLaw closing ∧ ∀ a b, ChairsLaw (twoChairs a b) := by
  refine ⟨by unfold SlotListsLaw; decide, by decide, by decide, by unfold NoAdvance; decide,
    chairHall_chairs _ rfl _ rfl rfl, twoChairs_chairs⟩

/-- Action CLOSE while the list is DRAINING, and the end of a hold with auto advance yes. -/
theorem witness_PriorityHoldMutesAndReturns_draining :
    let closing := draining 300 (withProfile (fun p => { p with priorityAction := .close })
      (chaired ⟨7, false, false, 0, false, false⟩ 0 2 (speaking 0 (plain 5) hall)))
    let held : ChairRecord := ⟨7, true, false, 0, false, true⟩
    let s := chaired held 0 2 (speaking 0 { plain 5 with condition := .muted } hall)
    (Queues closing ∧ (inForce closing).priorityAction = .close ∧ closing.queue.list ≠ .open ∧ holdCount closing = 0 ∧
        closing.plan[(7 : Seat)].cls = .chair ∧ SlotListsLaw closing) ∧ ChairsLaw closing ∧
      (Queues s ∧ SlotListsLaw s ∧ held ∈ s.floor.chairs ∧ holdCount s = 1 ∧ ¬NoAdvance s) ∧ ChairsLaw s := by
  refine ⟨⟨.inl (by decide), ?_⟩, chairHall_chairs _ rfl _ rfl rfl, ⟨.inl (by decide), ?_⟩, chairHall_chairs _ rfl _ rfl rfl⟩ <;>
    unfold SlotListsLaw <;> (try unfold NoAdvance) <;> decide

theorem witness_ReadsChangeNothing :
    TakesOrders speech ∧ (3 < (4 : Byte).toNat ∧ 128 < (129 : Byte).toNat ∧ 16 < (17 : Byte).toNat) ∧
      ((3 : Byte).toNat = (3 : Wing).val ∧ (128 : Byte).toNat = posNumber 127 ∧ 1 ≤ (1 : Byte).toNat ∧ (16 : Byte).toNat ≤ 16) ∧
      (511 < (512 : Half).toNat ∧ (511 : Half).toNat ≤ 511 ∧ (511 : Half).toNat = (511 : Seat).val) ∧
      (127 < (128 : Byte).toNat ∧ (127 : Byte).toNat ≤ 127) ∧ (575 < (576 : Half).toNat ∧ (575 : Half).toNat ≤ 575) ∧
      15 < (16 : Byte).toNat ∧ (15 : Byte).toNat = (15 : ProfileNo).val := by
  unfold TakesOrders; decide

/-- The records of an ABSENT position, of units in each presence, of an entry that is the first eligible and of nobody's, and of a
free and an occupied slot. -/
theorem witness_ReadsChangeNothing_records :
    let s := waiting [entry 9, entry 6] speech
    (hall.trunks.entryAt ⟨0, 127⟩ = none ∧ hall.trunks.entryAt ⟨0, 0⟩ = some ⟨some 5, .delegate false, .ready, 16, 0, 0, 0⟩) ∧
      (s.queue.entries[1]? = some (entry 6) ∧ eligibility s (entry 6) = .eligible ∧
        (∀ x ∈ s.queue.entries.take 1, eligibility s x ≠ .eligible) ∧ ∀ e ∈ hall.queue.entries, eligibility hall e ≠ .eligible) ∧
      (speech.floor.slots[(7 : SlotNo)] = none ∧ speech.floor.slots[(0 : SlotNo)] = some (plain 5) ∧ SlotListsLaw speech) := by
  unfold SlotListsLaw; decide +kernel

/-! #### The accounts -/

theorem witness_AccruePaysIn :
    (Account.lawful ⟨100, 100, 200, 0, 0, 1, false⟩ ∧ (100 : Int) = (100 : Nat)) ∧
      (Account.lawful ⟨98, 100, 200, 399, 0, 1, false⟩ ∧ (98 : Int) < (100 : Nat) ∧ 399 + 200 < 600) ∧
      (Account.lawful ⟨98, 100, 200, 400, 0, 1, false⟩ ∧ 600 ≤ 400 + 200 ∧ (98 : Int) + 1 < (100 : Nat)) ∧
      Account.lawful ⟨99, 100, 200, 450, 0, 1, false⟩ ∧ 600 ≤ 450 + 200 ∧ (99 : Int) + 1 = (100 : Nat) := by
  unfold Account.lawful; decide

theorem witness_AllowanceExpiryChargesAndPays :
    let s := fun m => withProfile (fun p => { p with allowanceMode := m }) speech
    ((s .off).resetHeld = false ∧ (inForce (s .off)).allowanceMode = .off) ∧
      ((inForce (s .cut)).allowanceMode = .cut ∧ (inForce (s .cut)).allowanceMode ≠ .off ∧ SlotListsLaw (s .cut) ∧
        NoAdvance (s .cut) ∧ (s .cut).link.tx ≠ .idle) ∧ OneSlotLaw (s .cut) ∧
      ((inForce (s .warn)).allowanceMode = .warn ∧ SlotListsLaw (s .warn)) ∧ OneSlotLaw (s .warn) := by
  refine ⟨by decide, ?_, oneSlot_of_check (by decide), ?_, oneSlot_of_check (by decide)⟩
  · unfold SlotListsLaw NoAdvance; decide
  · unfold SlotListsLaw; decide

/-- A spent account under CUT, and none. -/
theorem witness_AllowanceExpiryChargesAndPays_spent :
    let s := fun b => account 5 ⟨b, 600, 300, 0, 20, 10, true⟩
      (withProfile (fun p => { p with allowanceMode := .cut }) (speaking 0 (plain 5) hall))
    ((inForce (s 1)).allowanceMode = .cut ∧ membersOpen (s 1) 5 = 1 ∧ ((s 1).allowance.accounts[(5 : AccountNo)]).balance = 1 ∧
        SlotListsLaw (s 1) ∧ ¬NoAdvance (s 1)) ∧ OneSlotLaw (s 1) ∧
      ((s 2).allowance.accounts[(5 : AccountNo)]).balance = 2 ∧ OneSlotLaw (s 2) := by
  refine ⟨?_, oneSlot_of_check (by decide), by decide +kernel, oneSlot_of_check (by decide)⟩
  unfold SlotListsLaw NoAdvance
  decide +kernel

/-- A seat with its own account, and the first and the last delegation. -/
theorem witness_AllowanceExpiryChargesAndPays_accounts :
    let at_ := fun d => accountOf ⟨.delegate, none, d, false⟩ 511
    (at_ 0 = 511 ∧ at_ 1 = 512 ∧ at_ 64 = 575) ∧ (0 : Fin 65).val = 0 ∧ 1 ≤ (64 : Fin 65).val := by decide

theorem witness_AccountSetWritesAndCrosses :
    (TakesOrders live ∧ 575 < (576 : Half).toNat ∧ (0 : Half).toNat = 0 ∧ 36000 < (36001 : Half).toNat ∧
        600 < (601 : Half).toNat ∧ 3000 < (3001 : Half).toNat) ∧
      ((575 : Half).toNat = (575 : AccountNo).val ∧ 1 ≤ (1 : Half).toNat ∧ (36000 : Half).toNat ≤ 36000 ∧
        (600 : Half).toNat ≤ 600 ∧ (3000 : Half).toNat ≤ 3000) ∧
      ((live.allowance.accounts[(0 : AccountNo)]).low = false ∧ crossedLow false 0 1 0 = true ∧
        crossedLow false 0 1 1 = false) ∧
      ((account 0 ⟨0, 600, 0, 0, 0, 1, true⟩ live).allowance.accounts[(0 : AccountNo)]).low = true ∧
      crossedLow true 0 1 1 = false := by
  unfold TakesOrders; decide

theorem witness_ListReadsTakeTheOldest :
    TakesOrders live ∧ (0 : Byte).toNat = 0 ∧ 32 < (33 : Byte).toNat ∧ 1 ≤ (1 : Byte).toNat ∧ (32 : Byte).toNat ≤ 32 := by
  unfold TakesOrders; decide

/-! #### The profiles -/

/-- Speaker limit 9. -/
def nineSpeakers : RawProfile := ⟨2, 9, 1, 1, 1, 0, 0, 0, 15, 3, 2, 20, 58, 4, 8, 0, 6, 0⟩

/-- Speech limit 5 with warning lead 6. -/
def longLead : RawProfile := ⟨2, 4, 1, 1, 1, 5, 6, 0, 15, 3, 2, 20, 58, 4, 8, 0, 6, 0⟩

/-- Speaker limit 1, auto advance no, and a warning lead equal to the speech limit. -/
def oneSpeaker : RawProfile := ⟨3, 1, 0, 1, 1, 6, 6, 2, 50, 7, 8, 100, 64, 15, 31, 1, 15, 1⟩

theorem witness_ProfilePutWritesTheRecord :
    let full := speaking 7 (plain 6) speech
    (TakesOrders speech ∧ 15 < (16 : Byte).toNat ∧ profileOutOfRange nineSpeakers ∧ profileOutOfRange longLead) ∧
      ((15 : Byte).toNat = (15 : ProfileNo).val ∧ (15 : ProfileNo) ≠ speech.profiles.inForce ∧
        (0 : Byte).toNat = (0 : ProfileNo).val ∧ (0 : ProfileNo) = speech.profiles.inForce) ∧
      ¬profileOutOfRange oneSpeaker ∧ (SlotListsLaw speech ∧ speech.floor.occupied ≤ oneSpeaker.speakerLimit.toNat ∧
        speech.queue.list = .open ∧ speech.link.notices.length < 32 ∧ speech.link.mask.getLsbD 18 = true) ∧
      (TakesOrders full ∧ SlotListsLaw full ∧ oneSpeaker.speakerLimit.toNat < full.floor.occupied ∧ full.queue.list = .open ∧
        oneSpeaker.autoAdvance = 0) := by
  refine ⟨⟨⟨rfl, rfl, rfl⟩, by decide, ?_, ?_⟩, by decide, ?_, ?_, ?_⟩
  · unfold profileOutOfRange nineSpeakers; decide
  · unfold profileOutOfRange longLead; decide
  · unfold profileOutOfRange oneSpeaker; decide
  · unfold SlotListsLaw; decide
  · unfold TakesOrders SlotListsLaw; decide

theorem witness_SelectAndSourceSetTheProfile :
    let external := { live with profiles := { live.profiles with source := .external, selected := 15 } }
    (TakesOrders live ∧ TakesOrders external ∧ 15 < (16 : Byte).toNat ∧ 1 < (2 : Byte).toNat) ∧
      ((15 : Byte).toNat = (15 : ProfileNo).val ∧ external.profiles.source = .external) ∧
      (live.profiles.source = .internal ∧ (0 : ProfileNo) = live.profiles.inForce ∧ (15 : ProfileNo) ≠ live.profiles.inForce ∧
        live.profiles.selected = live.profiles.inForce) ∧
      external.profiles.selected ≠ external.profiles.inForce ∧ live.link.notices.length < 32 ∧
      live.link.mask.getLsbD 18 = true := by
  unfold TakesOrders; decide

theorem witness_PinsQualifyAtTheThirdSample :
    let s := fun k => { quiet live with profiles :=
      { (quiet live).profiles with source := .external, lastSample := some 15, stable := k
                                   records := put (quiet live).profiles.records 15 { Profile.default with autoAdvance := false } } }
    ((s 2).resetHeld = false ∧ (s 2).profiles.source = .external ∧ (s 2).profiles.lastSample = some (15 : BitVec 4).toFin ∧
        min (2 + 1) 3 = 3 ∧ (15 : BitVec 4).toFin ≠ (s 2).profiles.inForce ∧ min (1 + 1) 3 ≠ 3) ∧
      ((s 2).floor.occupied ≤ ((s 2).profiles.records[(15 : ProfileNo)]).speakerLimit ∧
        ((s 2).profiles.records[(15 : ProfileNo)]).autoAdvance = false ∧ (s 2).queue.list = .open ∧ (s 2).link.tx ≠ .idle) ∧
      ((s 3).profiles.lastSample = some 15 ∧ (s 3).profiles.source = .external ∧ (s 3).profiles.stable = 3 ∧
        (15 : ProfileNo) ≠ (s 3).profiles.inForce) ∧ (s 2).profiles.stable ≠ 3 := by decide

/-- The slots past a new limit, with auto advance yes, for ProfilePutWritesTheRecord, SelectAndSourceSetTheProfile and
PinsQualifyAtTheThirdSample. -/
theorem witness_profile_changes :
    let full := speaking 1 (plain 6) (speaking 0 (plain 5) hall)
    (TakesOrders full ∧ SlotListsLaw full ∧ full.profiles.inForce = 0 ∧ full.floor.speakers.drop 1 = [1]) ∧
      ({ full with profiles := { full.profiles with source := .external, selected := 15 } } : State).profiles.selected ≠ 0 ∧
      ({ full with profiles := { full.profiles with source := .external, lastSample := some 15, stable := 3 } } : State).profiles.lastSample
        = some 15 ∧ full.profiles.source = .internal ∧ (15 : ProfileNo) ≠ full.profiles.inForce := by
  unfold TakesOrders SlotListsLaw; decide

/-! #### Every step -/

/-- A deci ends while seat 5 speaks, seat 6 waits, chair 7 is closed, and a BLOCKED unit stands at A4. -/
def running : State :=
  let s := unitAt 0 3 ⟨none, .delegate false, .blocked .unbound, 16, 0, 0, 0⟩
    (chaired ⟨7, false, false, 0, false, false⟩ 0 2 (waiting [entry 6] (speaking 0 (plain 5) hall)))
  { s with
    trunks := { s.trunks with blocked := [⟨⟨0, 3⟩, none, .unbound⟩] }
    seats := put s.seats 5 (some silent)
    pending := [.deciExpiry, .status] }

/-- The state after that step. -/
theorem witness_steps_answer_next : ∃ t, step running = .next t ∧ t.link.clock = 1 ∧ t.pending = [.status] := ⟨_, rfl, rfl, rfl⟩

theorem witness_StepsKeepTheAccounts : AccountsLaw running ∧ ListsLaw running := by
  refine ⟨fun a => ?_, by simp [ListsLaw, running, unitAt, chaired, seated, waiting, speaking, hall, delegate, live, atWork,
    State.reset, Allowance.reset]⟩
  have : running.allowance.accounts[a] = Account.reset := by
    simp [running, unitAt, chaired, seated, waiting, speaking, hall, delegate, live, atWork, State.reset, Allowance.reset]
  rw [this]
  unfold Account.lawful Account.reset
  decide

theorem witness_StepsKeepTheFloor : FloorLaws running ∧ ListStateLaw running ∧ SlotRangesLaw running := by
  refine ⟨⟨?_, ?_, oneSlot_of_check (by decide)⟩, ⟨rfl, rfl⟩, fun n a h => ?_⟩
  · unfold QueueLaw; decide
  · unfold SlotListsLaw; decide
  · have := slots_of_check (s := running) (P := fun _ a => a.elapsed ≤ 65535 ∧ a.strikes ≤ 2 ∧ a.override = none) (by decide) n a h
    exact ⟨this.1, this.2.1, by simp [this.2.2]⟩

theorem witness_StepsKeepTheHold : ChairsLaw running ∧ CursorLaw running ∧ HoldLaw running := by
  refine ⟨chairHall_chairs _ rfl _ rfl rfl, rfl, fun n a h => ?_⟩
  exact slots_of_check (s := running)
    (P := fun _ a => (0 < holdCount running → a.condition ≠ .open) ∧ (holdCount running = 0 → a.condition ≠ .muted)) (by decide) n a h

/-- The binding map of that state. -/
theorem running_binding (x : Seat) : running.trunks.binding[x] =
    if x = 7 then some ⟨0, 2⟩ else if x = 6 then some ⟨0, 1⟩ else if x = 5 then some ⟨0, 0⟩ else none := by
  simp only [running, unitAt, chaired, seated, waiting, speaking, hall, delegate, live, atWork, State.reset, Trunks.bind,
    Trunks.putEntry, put_getElem, Trunks.reset]
  split
  · rfl
  · split
    · rfl
    · split
      · rfl
      · simp

theorem witness_StepsKeepTheTrunks : TrunkLaws running := by
  refine trunkLaws_of_check (fun x => ?_) ?_ (by decide) fun x h => ?_
  · rw [running_binding]
    split
    · next h => subst h; decide
    · split
      · next h => subst h; decide
      · split
        · next h => subst h; decide
        · rfl
  · decide +kernel
  · by_cases hx : x = 5
    · subst hx; rfl
    · have none : running.seats[x] = none := by
        simp only [running, put_getElem, if_neg hx, unitAt, chaired, seated, waiting, speaking, hall, delegate, live, atWork,
          State.reset]
        simp
      simp [none] at h

theorem witness_StepsKeepTheSpeakersLawful : SlotSeatsLaw running := by
  refine ⟨fun n a h => ?_, by decide, by decide⟩
  exact slots_of_check (s := running) (P := fun _ a => classOf running a.seat = .delegate ∧ isReady running a.seat = true
    ∧ isMasked running a.seat = false ∧ isLocked running a.seat = false) (by decide) n a h

theorem witness_StepsKeepTheLinkAndTheProfile : LinkLaw running ∧ StageLaw running ∧ ProfileLaw running := by
  refine ⟨?_, trivial, ?_⟩
  · unfold LinkLaw; decide
  · unfold ProfileLaw; decide

end Sys2Proof.Tests
end

section
namespace Sys2Proof.Machine

/-- A slot condition that a hold count allows: not OPEN while a priority is held, not MUTED while none is (R77, R92). -/
def SlotCondition.Fits (hold : Nat) (c : SlotCondition) : Prop := (0 < hold → c ≠ .open) ∧ (hold = 0 → c ≠ .muted)

/-- The allocator's side of the hold and chair laws, as every operation keeps it: each occupied slot stands on the speaker
list, each condition fits the hold count, and the chair records stand for the seats `seats` in this order. -/
structure FloorHeld (seats : List Seat) (f : Floor) : Prop where
  listed : ∀ n : SlotNo, (f.slots[n]).isSome = true → n ∈ f.speakers
  fits : ∀ (n : SlotNo) (a : Slot), f.slots[n] = some a → a.condition.Fits f.holdCount
  chairs : f.chairs.map (·.seat) = seats

variable {seats : List Seat} {f : Floor} {s : State}

/-! ### Rules of the allocator's stores -/

theorem floorHeld_closing (h : FloorHeld seats f) (n : SlotNo) : FloorHeld seats (floorClosing n f) where
  listed m hm := by
    by_cases e : m = n
    · simp [floorClosing, e] at hm
    · rw [floorClosing, put_getElem_ne _ _ e] at hm
      exact (List.mem_erase_of_ne e).2 (h.listed m hm)
  fits m a ha := by
    by_cases e : m = n
    · simp [floorClosing, e] at ha
    · rw [floorClosing, put_getElem_ne _ _ e] at ha
      exact h.fits m a ha
  chairs := h.chairs

/-- An OPEN slot may be put on the floor while no priority is held. -/
theorem floorHeld_opening (h : FloorHeld seats f) (n : SlotNo) (rest : List SlotNo) {sl : Slot}
    (hc : sl.condition = .open) (h0 : f.holdCount = 0) : FloorHeld seats (floorOpening n rest sl f) where
  listed m hm := by
    by_cases e : m = n
    · simp [floorOpening, e]
    · rw [floorOpening, put_getElem_ne _ _ e] at hm
      exact List.mem_append_left _ (h.listed m hm)
  fits m a ha := by
    by_cases e : m = n
    · obtain rfl : sl = a := by simpa [floorOpening, put_getElem, e] using ha
      exact ⟨fun hp => absurd h0 (Nat.ne_of_gt hp), fun _ => by simp [hc]⟩
    · rw [floorOpening, put_getElem_ne _ _ e] at ha
      exact h.fits m a ha
  chairs := h.chairs

/-- A slot record changed in place to a condition that fits. -/
theorem floorHeld_mapSlot (h : FloorHeld seats f) (n : SlotNo) (g : Slot → Slot)
    (hg : ∀ a, a.condition.Fits f.holdCount → (g a).condition.Fits f.holdCount) : FloorHeld seats (f.mapSlot n g) where
  listed m hm := by
    rw [Floor.mapSlot, put_getElem] at hm
    split at hm
    · next e => subst e; exact h.listed m (by simpa using hm)
    · exact h.listed m hm
  fits m a ha := by
    rw [Floor.mapSlot, put_getElem] at ha
    split at ha
    · next e =>
      subst e
      obtain ⟨b, hb, rfl⟩ := Option.map_eq_some_iff.1 ha
      exact hg b (h.fits m b hb)
    · exact h.fits m a ha
  chairs := h.chairs

/-- Chair records rewritten with the hold count kept. -/
theorem floorHeld_setChairs (h : FloorHeld seats f) {cs : List ChairRecord} {now : List Seat} (hs : cs.map (·.seat) = now)
    (hc : cs.countP (·.held) = f.holdCount) : FloorHeld now { f with chairs := cs } :=
  ⟨h.listed, fun n a ha => by rw [show Floor.holdCount { f with chairs := cs } = f.holdCount from hc]; exact h.fits n a ha, hs⟩

@[simp] theorem mapChairs_seats (seat : Seat) {g : ChairRecord → ChairRecord} (hg : ∀ c, (g c).seat = c.seat)
    (cs : List ChairRecord) :
    (mapChairs seat g cs).map (·.seat) = cs.map (·.seat) := by
  simp only [mapChairs, List.map_map]
  refine List.map_congr_left fun c _ => ?_
  simp only [Function.comp]; split <;> simp [hg]

@[simp] theorem mapChairs_held (seat : Seat) {g : ChairRecord → ChairRecord} (hg : ∀ c, (g c).held = c.held)
    (cs : List ChairRecord) :
    (mapChairs seat g cs).countP (·.held) = cs.countP (·.held) := by
  simp only [mapChairs, List.countP_map]
  refine List.countP_congr fun c _ => ?_
  simp only [Function.comp]; split <;> simp [hg]

theorem setChairs_floor (cs : List ChairRecord) (s : State) :
    (setChairs cs s).floor = { s.floor with chairs := cs } := by simp [setChairs]

/-- Chair records rewritten with their seats and the hold count kept. -/
@[simp] theorem setChairs_held (h : FloorHeld seats s.floor) {cs : List ChairRecord}
    (hs : cs.map (·.seat) = s.floor.chairs.map (·.seat)) (hc : cs.countP (·.held) = s.floor.chairs.countP (·.held)) :
    FloorHeld seats (setChairs cs s).floor := by
  rw [setChairs_floor]
  exact floorHeld_setChairs h (hs.trans h.chairs) hc

/-! ### The opening path, the advance check and the close path -/

theorem occupy_floor (n : SlotNo) (rest : List SlotNo) (seat : Seat) (o : Origin) (g : Bool) (s : State) :
    (occupy n rest seat o g s).floor = floorOpening n rest (newSlot s seat o g) s.floor := by
  simp [occupy, floorOpening]

theorem closeSlot_floor (n : SlotNo) (r : CloseReason) (s : State) :
    (closeSlot n r s).floor = if (s.floor.slots[n]).isSome then floorClosing n s.floor else s.floor := by
  unfold closeSlot
  split <;> simp_all [floorClosing]

theorem openSlot_of_full (seat : Seat) (o : Origin) (g : Bool) (h : s.floor.free = []) : openSlot seat o g s = s := by
  simp [openSlot, h]

theorem openSlot_floor (seat : Seat) (o : Origin) (g : Bool) {n : SlotNo} {rest : List SlotNo} (h : s.floor.free = n :: rest) :
    (openSlot seat o g s).floor =
      floorOpening n rest (newSlot (if hasEntry s seat then takeOut seat .granted s else s) seat o g) s.floor := by
  simp only [openSlot, h]
  split <;> simp [occupy_floor]

end Sys2Proof.Machine
end

section
namespace Sys2Proof.Machine
variable {seats : List Seat} {f : Floor} {s : State}

@[simp] theorem openSlot_holdCount (seat : Seat) (o : Origin) (g : Bool) (s : State) :
    holdCount (openSlot seat o g s) = holdCount s := by
  cases h : s.floor.free with
  | nil => rw [openSlot_of_full _ _ _ h]
  | cons n rest => rw [holdCount, openSlot_floor _ _ _ h]; rfl

@[simp] theorem closeSlot_holdCount (n : SlotNo) (r : CloseReason) (s : State) :
    holdCount (closeSlot n r s) = holdCount s := by
  simp only [holdCount, closeSlot_floor]
  split <;> rfl

@[simp] theorem openSlot_held (h : FloorHeld seats s.floor) (seat : Seat) (o : Origin) (g : Bool) (h0 : holdCount s = 0) :
    FloorHeld seats (openSlot seat o g s).floor := by
  cases hf : s.floor.free with
  | nil => rwa [openSlot_of_full _ _ _ hf]
  | cons n rest => rw [openSlot_floor _ _ _ hf]; exact floorHeld_opening h n rest rfl h0

/-- The advance check grants nobody while a priority is held (R90). -/
theorem nextToAdvance_some {e : QueueEntry} (h : nextToAdvance s = some e) :
    holdCount s = 0 ∧ freeSlotExists s = true ∧ firstEligible s = some e := by
  unfold nextToAdvance at h
  split at h
  · next hc => simp_all
  · cases h

@[simp] theorem advance_held (h : FloorHeld seats s.floor) (k : Nat) : FloorHeld seats (advance k s).floor := by
  induction k generalizing s with
  | zero => exact h
  | succ k ih =>
    unfold advance
    split
    · exact h
    · next e he => exact ih (openSlot_held h _ _ _ (nextToAdvance_some he).1)

@[simp] theorem advanceCheck_held (h : FloorHeld seats s.floor) : FloorHeld seats (advanceCheck s).floor := advance_held h 8

/-- While a priority is held the advance check changes nothing (R90). -/
theorem advanceCheck_of_hold (h : 0 < holdCount s) : advanceCheck s = s := by
  have : nextToAdvance s = none := Option.eq_none_iff_forall_ne_some.2 fun e he => by
    have := (nextToAdvance_some he).1
    omega
  simp [advanceCheck, advance, this]

@[simp] theorem closeSlot_held (h : FloorHeld seats s.floor) (n : SlotNo) (r : CloseReason) :
    FloorHeld seats (closeSlot n r s).floor := by
  rw [closeSlot_floor]
  split
  · exact floorHeld_closing h n
  · exact h

/-- What each step of a fold keeps of the floor, the fold keeps. -/
theorem foldl_held {α : Type} {g : State → α → State}
    (hg : ∀ (s : State) (a : α), FloorHeld seats s.floor → FloorHeld seats (g s a).floor) (l : List α)
    (h : FloorHeld seats s.floor) : FloorHeld seats (l.foldl g s).floor :=
  foldl_inv (fun s => FloorHeld seats s.floor) g hg l s h

@[simp] theorem closeSeatQuiet_held (h : FloorHeld seats s.floor) (seat : Seat) (r : CloseReason) :
    FloorHeld seats (closeSeatQuiet seat r s).floor := by
  unfold closeSeatQuiet; split <;> simp [h]

@[simp] theorem closeSeat_held (h : FloorHeld seats s.floor) (seat : Seat) (r : CloseReason) :
    FloorHeld seats (closeSeat seat r s).floor := by
  unfold closeSeat; split <;> simp [h]

@[simp] theorem closeGroup_held (h : FloorHeld seats s.floor) (ns : List SlotNo) (r : CloseReason) :
    FloorHeld seats (closeGroup ns r s).floor := foldl_held (fun _ _ h => closeSlot_held h _ _) ns h

@[simp] theorem dropBindings_held (h : FloorHeld seats s.floor) (seat : Seat) (d : Bool) :
    FloorHeld seats (dropBindings seat d s).floor := by
  unfold dropBindings; dsimp only; (repeat' split) <;> simp [h]

@[simp] theorem enterQueue_held (h : FloorHeld seats s.floor) (e : QueueEntry) (b : Bool) :
    FloorHeld seats (enterQueue e b s).floor := by
  unfold enterQueue; dsimp only; split <;> simp [h]

@[simp] theorem enqueuePress_held (h : FloorHeld seats s.floor) (seat : Seat) (k : EntryKind) (e : SeatEvent) :
    FloorHeld seats (enqueuePress seat k e s).floor := by
  unfold enqueuePress; (repeat' split) <;> simp [h]

/-! ### Chair microphones and the hold -/

@[simp] theorem openChair_held (h : FloorHeld seats s.floor) (seat : Seat) : FloorHeld seats (openChair seat s).floor := by
  simp [openChair, h]

@[simp] theorem closeChair_held (h : FloorHeld seats s.floor) (seat : Seat) : FloorHeld seats (closeChair seat s).floor := by
  simp [closeChair, h]

end Sys2Proof.Machine
end

section
namespace Sys2Proof.Machine
variable {seats : List Seat} {f : Floor} {s : State}

/-! ### The start and the end of a hold (R93, R94) -/

/-- `FloorHeld` with the hold count at `hold` and the slots of `todo` still to be brought in line with it. -/
structure FloorMending (seats : List Seat) (hold : Nat) (todo : List SlotNo) (f : Floor) : Prop where
  listed : ∀ n : SlotNo, (f.slots[n]).isSome = true → n ∈ f.speakers
  count : f.holdCount = hold
  fits : ∀ (n : SlotNo) (a : Slot), f.slots[n] = some a → n ∉ todo → a.condition.Fits hold
  chairs : f.chairs.map (·.seat) = seats

/-- With nothing left to mend the floor is in line. -/
theorem FloorMending.held {hold : Nat} (h : FloorMending seats hold [] f) : FloorHeld seats f :=
  ⟨h.listed, fun n a ha => by rw [h.count]; exact h.fits n a ha (by simp), h.chairs⟩

/-- Whatever the hold count has gone to, the speaker list names every slot to be mended. -/
theorem FloorHeld.mending (h : FloorHeld seats f) {cs : List ChairRecord} (hs : cs.map (·.seat) = seats) :
    FloorMending seats (cs.countP (·.held)) f.speakers { f with chairs := cs } :=
  ⟨h.listed, rfl, fun n a ha hn => absurd (h.listed n (by rw [ha]; rfl)) hn, hs⟩

/-- A pass that mends the slot it comes to mends them all. -/
theorem foldl_mends {hold : Nat} {g : State → SlotNo → State}
    (hg : ∀ (s : State) (n : SlotNo) (todo : List SlotNo), FloorMending seats hold (n :: todo) s.floor →
      FloorMending seats hold todo (g s n).floor) (l : List SlotNo) (s : State) (h : FloorMending seats hold l s.floor) :
    FloorHeld seats (l.foldl g s).floor := by
  induction l generalizing s with
  | nil => exact h.held
  | cons n l ih => exact ih _ (hg s n l h)

/-- A slot changed in place to a condition that fits is mended. -/
theorem mapSlot_mends {hold : Nat} {n : SlotNo} {todo : List SlotNo} (h : FloorMending seats hold (n :: todo) f)
    (g : Slot → Slot) (hg : ∀ a, (g a).condition.Fits hold) : FloorMending seats hold todo (f.mapSlot n g) where
  listed m hm := by
    rw [Floor.mapSlot, put_getElem] at hm
    split at hm
    · next e => subst e; exact h.listed m (by simpa using hm)
    · exact h.listed m hm
  count := h.count
  fits m a ha hm := by
    rw [Floor.mapSlot, put_getElem] at ha
    split at ha
    · obtain ⟨b, -, rfl⟩ := Option.map_eq_some_iff.1 ha
      exact hg b
    · next e => exact h.fits m a ha (by simp [e, hm])
  chairs := h.chairs

theorem muteSlot_mends {hold : Nat} (h0 : 0 < hold) (s : State) (n : SlotNo) (todo : List SlotNo)
    (h : FloorMending seats hold (n :: todo) s.floor) : FloorMending seats hold todo (muteSlot s n).floor := by
  refine mapSlot_mends h _ fun a => ⟨fun _ => ?_, fun e => absurd e (Nat.ne_of_gt h0)⟩
  split
  · simp
  · assumption

theorem closeForHold_mends {hold : Nat} (h0 : 0 < hold) (s : State) (n : SlotNo) (todo : List SlotNo)
    (h : FloorMending seats hold (n :: todo) s.floor) : FloorMending seats hold todo (closeForHold s n).floor := by
  have hc : 0 < holdCount (closeSlot n .priority s) := by rw [closeSlot_holdCount, holdCount, h.count]; exact h0
  rw [closeForHold, advanceCheck_of_hold hc, closeSlot_floor]
  split
  · refine ⟨fun m hm => ?_, h.count, fun m a ha hm => ?_, h.chairs⟩ <;> by_cases e : m = n
    · simp [floorClosing, e] at hm
    · rw [floorClosing, put_getElem_ne _ _ e] at hm
      exact (List.mem_erase_of_ne e).2 (h.listed m hm)
    · simp [floorClosing, e] at ha
    · rw [floorClosing, put_getElem_ne _ _ e] at ha
      exact h.fits m a ha (by simp [e, hm])
  · next hn =>
    refine ⟨h.listed, h.count, fun m a ha hm => h.fits m a ha ?_, h.chairs⟩
    have : m ≠ n := by rintro rfl; simp [ha] at hn
    simp [this, hm]

theorem mapSlot_of_some {n : SlotNo} {sl : Slot} (h : f.slots[n] = some sl) (g : Slot → Slot) :
    f.mapSlot n g = { f with slots := put f.slots n (some (g sl)) } := by
  rw [Floor.mapSlot, h]; rfl

/-- A slot changed to what it is, or a free one, leaves the floor as it was. -/
theorem mapSlot_of_same {n : SlotNo} {g : Slot → Slot} (h : ∀ sl, f.slots[n] = some sl → g sl = sl) : f.mapSlot n g = f := by
  have : (f.slots[n]).map g = f.slots[n] := by
    cases hs : f.slots[n] with
    | none => rfl
    | some sl => rw [Option.map_some, h sl hs]
  rw [Floor.mapSlot, this, put_self]

theorem unmuteSlot_floor (s : State) (n : SlotNo) : (unmuteSlot s n).floor =
    s.floor.mapSlot n fun sl => if sl.condition = .muted then { sl with condition := .open } else sl := by
  unfold unmuteSlot
  split
  · next sl hs =>
    split
    · next hm => simp [mapSlot_of_some hs, hm]
    · next hm => rw [mapSlot_of_same (by simp [hs, hm])]
  · next hs => rw [mapSlot_of_same (by simp [hs])]

theorem unmuteSlot_mends (s : State) (n : SlotNo) (todo : List SlotNo)
    (h : FloorMending seats 0 (n :: todo) s.floor) : FloorMending seats 0 todo (unmuteSlot s n).floor := by
  rw [unmuteSlot_floor]
  refine mapSlot_mends h _ fun a => ⟨fun e => absurd e (Nat.lt_irrefl 0), fun _ => ?_⟩
  split
  · simp
  · assumption

theorem holdChair_held (h : FloorHeld seats s.floor) (seat : Seat) : FloorHeld seats (holdChair s seat).floor := by
  unfold holdChair
  split
  · exact h
  · have kept : FloorHeld seats (setChairs (mapChairs seat (fun c => { c with afterHold := c.micOpen }) s.floor.chairs) s).floor :=
      setChairs_held h (by simp) (by simp)
    dsimp only; split <;> simp [kept]

theorem releaseChair_held (h : FloorHeld seats s.floor) (seat : Seat) : FloorHeld seats (releaseChair s seat).floor := by
  unfold releaseChair; (repeat' split) <;> simp [h]

/-- The start of a hold brings every slot in line with the hold just counted (R93). -/
theorem startHold_held {hold : Nat} (h0 : 0 < hold) (seat : Seat)
    (h : FloorMending seats hold s.floor.speakers s.floor) : FloorHeld seats (startHold seat s).floor := by
  unfold startHold
  dsimp only
  refine foldl_held (fun _ _ h => holdChair_held h _) _ ?_
  split
  · exact foldl_mends (muteSlot_mends h0) _ _ (by simpa using h)
  · exact foldl_mends (closeForHold_mends h0) _ _ (by simpa using h)

/-- The end of a hold brings every slot in line with a hold count of zero (R94). -/
theorem endHold_held (seat : Seat) (h : FloorMending seats 0 s.floor.speakers s.floor) :
    FloorHeld seats (endHold seat s).floor := by
  unfold endHold
  dsimp only
  refine advanceCheck_held (foldl_held (fun _ _ h => releaseChair_held h _) _ ?_)
  exact foldl_mends unmuteSlot_mends _ _ (by simpa using h)

theorem setHeld_floor (seat : Seat) (b : Bool) (s : State) : (setHeld seat b s).floor =
    { s.floor with chairs := mapChairs seat (fun c => { c with held := b }) s.floor.chairs } := by
  simp [setHeld, setChairs_floor]

/-- A hold set or cleared leaves the slots to be brought in line with the count as it then stands. -/
theorem setHeld_mending (h : FloorHeld seats s.floor) (seat : Seat) (b : Bool) :
    FloorMending seats (holdCount (setHeld seat b s)) (setHeld seat b s).floor.speakers (setHeld seat b s).floor := by
  simp only [holdCount, setHeld_floor]
  exact h.mending ((mapChairs_seats seat (by intro _; rfl) _).trans h.chairs)

/-- With a hold on before and after, a hold set or cleared leaves the slots in line. -/
theorem setHeld_held (h : FloorHeld seats s.floor) (seat : Seat) (b : Bool) (before : holdCount s ≠ 0)
    (after : holdCount (setHeld seat b s) ≠ 0) : FloorHeld seats (setHeld seat b s).floor := by
  have m := setHeld_mending h seat b
  refine ⟨m.listed, fun n a ha => ?_, m.chairs⟩
  rw [setHeld_floor] at ha
  exact ⟨fun _ => (h.fits n a ha).1 (Nat.pos_of_ne_zero before), fun e => absurd e after⟩

theorem chairOf_some {seat : Seat} {c : ChairRecord} (h : f.chairOf seat = some c) : c ∈ f.chairs ∧ c.seat = seat :=
  ⟨List.mem_of_find?_eq_some h, by simpa using List.find?_some h⟩

@[simp] theorem raiseHold_held (h : FloorHeld seats s.floor) (seat : Seat) : FloorHeld seats (raiseHold seat s).floor := by
  unfold raiseHold
  split
  · exact h
  · next c hc =>
    obtain ⟨mem, hs⟩ := chairOf_some hc
    have pos : 0 < holdCount (setHeld seat true s) := by
      simp only [holdCount, setHeld_floor, Floor.holdCount]
      refine List.countP_pos_iff.2 ⟨{ c with held := true }, ?_, rfl⟩
      exact List.mem_map.2 ⟨c, mem, by simp [hs]⟩
    dsimp only; split
    · exact startHold_held pos seat (setHeld_mending h seat true)
    · next h0 => exact setHeld_held h seat true h0 (Nat.ne_of_gt pos)

@[simp] theorem lowerHold_held (h : FloorHeld seats s.floor) (seat : Seat) : FloorHeld seats (lowerHold seat s).floor := by
  unfold lowerHold
  split
  · exact h
  · next c hc =>
    dsimp only; split
    · next held =>
      have pos : 0 < holdCount s := List.countP_pos_iff.2 ⟨c, (chairOf_some hc).1, held⟩
      split
      · next h0 => exact endHold_held seat (h0 ▸ setHeld_mending h seat false)
      · next h0 => exact setHeld_held h seat false (Nat.ne_of_gt pos) h0
    · exact h

@[simp] theorem withdrawChair_held (h : FloorHeld seats s.floor) (seat : Seat) : FloorHeld seats (withdrawChair seat s).floor := by
  unfold withdrawChair
  split
  · exact h
  · refine lowerHold_held (setChairs_held ?_ (by simp) (by simp)) seat
    split <;> simp [h]

end Sys2Proof.Machine
end

section
namespace Sys2Proof.Machine
variable {seats : List Seat} {f : Floor} {s : State}

/-! ### Seat events at the allocator -/

@[simp] theorem setLocked_held (h : FloorHeld seats s.floor) (seat : Seat) (b : Bool) :
    FloorHeld seats (setLocked seat b s).floor := ⟨h.listed, h.fits, h.chairs⟩

@[simp] theorem queueOrRefuse_held (h : FloorHeld seats s.floor) (seat : Seat) : FloorHeld seats (queueOrRefuse seat s).floor := by
  unfold queueOrRefuse; split <;> simp [h]

@[simp] theorem requestOpen_held (h : FloorHeld seats s.floor) (seat : Seat) : FloorHeld seats (requestOpen seat s).floor := by
  unfold requestOpen; (repeat' split) <;> simp_all

@[simp] theorem replaceSpeaker_held (h : FloorHeld seats s.floor) (n : SlotNo) (seat : Seat) (h0 : holdCount s = 0) :
    FloorHeld seats (replaceSpeaker n seat s).floor := by
  exact advanceCheck_held (openSlot_held (closeSlot_held h n _) seat _ _ (by simpa using h0))

@[simp] theorem requestOverride_held (h : FloorHeld seats s.floor) (seat : Seat) :
    FloorHeld seats (requestOverride seat s).floor := by
  unfold requestOverride; (repeat' split) <;> simp_all

@[simp] theorem shortPress_held (h : FloorHeld seats s.floor) (seat : Seat) : FloorHeld seats (shortPress seat s).floor := by
  unfold shortPress; (repeat' split) <;> simp [h]

@[simp] theorem longPress_held (h : FloorHeld seats s.floor) (seat : Seat) : FloorHeld seats (longPress seat s).floor := by
  unfold longPress; (repeat' split) <;> simp [h]

@[simp] theorem voiceStartEvent_held (h : FloorHeld seats s.floor) (seat : Seat) :
    FloorHeld seats (voiceStartEvent seat s).floor := by
  unfold voiceStartEvent; split <;> simp_all

@[simp] theorem silenceEvent_held (h : FloorHeld seats s.floor) (seat : Seat) : FloorHeld seats (silenceEvent seat s).floor := by
  unfold silenceEvent; (repeat' split) <;> simp [h]

@[simp] theorem talk_held (h : FloorHeld seats s.floor) (seat : Seat) : FloorHeld seats (talk seat s).floor := by
  unfold talk; (repeat' split) <;> simp [h]

/-- A grant by NEXT is made only while no priority is held (R101). -/
theorem nextRefusal_none (h : nextRefusal s = none) : holdCount s = 0 := by
  unfold nextRefusal at h
  split at h
  · cases h
  · omega

@[simp] theorem chairNext_held (h : FloorHeld seats s.floor) (seat : Seat) : FloorHeld seats (chairNext seat s).floor := by
  unfold chairNext
  split
  · simp [h]
  · next hn => split <;> simp [h, nextRefusal_none hn]

/-- The slot of a seat put in a condition that fits. -/
theorem mapSlot_held (h : FloorHeld seats f) (n : SlotNo) {g : Slot → Slot} {c : SlotCondition} (hg : ∀ a, (g a).condition = c)
    (hc : c.Fits f.holdCount) : FloorHeld seats (f.mapSlot n g) :=
  floorHeld_mapSlot h n g fun a _ => by rw [hg a]; exact hc

@[simp] theorem howlSlot_held (h : FloorHeld seats s.floor) (seat : Seat) : FloorHeld seats (howlSlot seat s).floor := by
  have soft : SlotCondition.softLocked.Fits s.floor.holdCount := ⟨fun _ => by simp, fun _ => by simp⟩
  unfold howlSlot
  (repeat' split) <;> simp [h]
  exact mapSlot_held h _ (by intro _; rfl) soft

@[simp] theorem howlChair_held (h : FloorHeld seats s.floor) (seat : Seat) : FloorHeld seats (howlChair seat s).floor := by
  unfold howlChair; dsimp only
  (repeat' split) <;> simp [h]
  exact setLocked_held (setChairs_held h (by simp) (by simp)) seat true

@[simp] theorem howlEvent_held (h : FloorHeld seats s.floor) (seat : Seat) : FloorHeld seats (howlEvent seat s).floor := by
  unfold howlEvent; split <;> simp [h]

@[simp] theorem howlClearSlot_held (h : FloorHeld seats s.floor) (seat : Seat) :
    FloorHeld seats (howlClearSlot seat s).floor := by
  unfold howlClearSlot
  split
  · exact h
  · split
    · exact h
    · split
      · exact h
      · split
        · next h0 =>
          have fits : SlotCondition.open.Fits s.floor.holdCount := ⟨fun hp => absurd h0 (Nat.ne_of_gt hp), fun _ => by simp⟩
          simpa using mapSlot_held h _ (by intro _; rfl) fits
        · next h0 =>
          have fits : SlotCondition.muted.Fits s.floor.holdCount := ⟨fun _ => by simp, fun e => absurd e h0⟩
          simpa using mapSlot_held h _ (by intro _; rfl) fits

@[simp] theorem howlClearChair_held (h : FloorHeld seats s.floor) (seat : Seat) :
    FloorHeld seats (howlClearChair seat s).floor := by
  unfold howlClearChair; (repeat' split) <;> simp [h]

@[simp] theorem howlClearEvent_held (h : FloorHeld seats s.floor) (seat : Seat) :
    FloorHeld seats (howlClearEvent seat s).floor := by
  unfold howlClearEvent; split <;> simp [h]

/-! ### The seat input unit and speech timing -/

@[simp] theorem takeRequest_held (h : FloorHeld seats s.floor) (seat : Seat) (d : Bool) :
    FloorHeld seats (takeRequest seat d s).floor := by
  unfold takeRequest; dsimp only; (repeat' split) <;> simp [h]

@[simp] theorem takePriority_held (h : FloorHeld seats s.floor) (seat : Seat) (d : Bool) :
    FloorHeld seats (takePriority seat d s).floor := by
  unfold takePriority; dsimp only; (repeat' split) <;> simp [h]

@[simp] theorem takeTalk_held (h : FloorHeld seats s.floor) (seat : Seat) (d : Bool) :
    FloorHeld seats (takeTalk seat d s).floor := by
  unfold takeTalk; dsimp only; (repeat' split) <;> simp [h]

@[simp] theorem takeNext_held (h : FloorHeld seats s.floor) (seat : Seat) (d : Bool) :
    FloorHeld seats (takeNext seat d s).floor := by
  unfold takeNext; dsimp only; (repeat' split) <;> simp [h]

@[simp] theorem takeButtons_held (h : FloorHeld seats s.floor) (seat : Seat) (b : Buttons) :
    FloorHeld seats (takeButtons seat b s).floor := by
  unfold takeButtons
  split
  · exact takeRequest_held h _ _
  · exact takeNext_held (takeTalk_held (takePriority_held h _ _) _ _) _ _

@[simp] theorem becomeVoiced_held (h : FloorHeld seats s.floor) (seat : Seat) :
    FloorHeld seats (becomeVoiced seat s).floor := by
  unfold becomeVoiced; dsimp only; split <;> simp [h]

@[simp] theorem becomeQuiet_held (h : FloorHeld seats s.floor) (seat : Seat) :
    FloorHeld seats (becomeQuiet seat s).floor := by
  unfold becomeQuiet; dsimp only; split <;> simp [h]

@[simp] theorem takeVoice_held (h : FloorHeld seats s.floor) (seat : Seat) (level : Nat) :
    FloorHeld seats (takeVoice seat level s).floor := by
  unfold takeVoice; (repeat' split) <;> simp [h]

@[simp] theorem raiseHowl_held (h : FloorHeld seats s.floor) (seat : Seat) : FloorHeld seats (raiseHowl seat s).floor := by
  unfold raiseHowl; dsimp only; split <;> simp [h]

@[simp] theorem raiseHowlClear_held (h : FloorHeld seats s.floor) (seat : Seat) :
    FloorHeld seats (raiseHowlClear seat s).floor := by
  unfold raiseHowlClear; dsimp only; split <;> simp [h]

@[simp] theorem takeLive_held (h : FloorHeld seats s.floor) (seat : Seat) (r : SeatRecord) (level : Nat) :
    FloorHeld seats (takeLive seat r level s).floor := by
  unfold takeLive; (repeat' split) <;> simp [h]

@[simp] theorem takeLockedSoft_held (h : FloorHeld seats s.floor) (seat : Seat) (r : SeatRecord) (level : Nat) :
    FloorHeld seats (takeLockedSoft seat r level s).floor := by
  unfold takeLockedSoft; (repeat' split) <;> simp [h]

@[simp] theorem takeHowl_held (h : FloorHeld seats s.floor) (seat : Seat) (level : Nat) :
    FloorHeld seats (takeHowl seat level s).floor := by
  unfold takeHowl; dsimp only; (repeat' split) <;> simp [h]

@[simp] theorem takeReport_held (h : FloorHeld seats s.floor) (seat : Seat) (b : Buttons) (level : Nat) :
    FloorHeld seats (takeReport seat b level s).floor :=
  takeHowl_held (takeVoice_held (takeButtons_held (by simpa using h) _ _) _ _) _ _

@[simp] theorem quietSeat_held (h : FloorHeld seats s.floor) (seat : Seat) : FloorHeld seats (quietSeat s seat).floor := by
  unfold quietSeat; (repeat' split) <;> simp [h]

/-- A slot changed in place with its condition kept. -/
@[simp] theorem mapSlot_held_same (h : FloorHeld seats f) (n : SlotNo) {g : Slot → Slot}
    (hg : ∀ a, (g a).condition = a.condition) : FloorHeld seats (f.mapSlot n g) :=
  floorHeld_mapSlot h n g fun a ha => by rw [hg a]; exact ha

@[simp] theorem warnSlot_held (h : FloorHeld seats s.floor) (n : SlotNo) (sl : Slot) :
    FloorHeld seats (warnSlot n sl s).floor := by
  unfold warnSlot; (repeat' split) <;> simp [h]

theorem Slot.count_condition (sl : Slot) : sl.count.condition = sl.condition := by
  unfold Slot.count; split <;> rfl

@[simp] theorem timeSlot_held (h : FloorHeld seats s.floor) (n : SlotNo) : FloorHeld seats (timeSlot s n).floor := by
  have counted : FloorHeld seats (s.setFloor (s.floor.mapSlot n Slot.count)).floor :=
    mapSlot_held_same h n Slot.count_condition
  unfold timeSlot; dsimp only
  split
  · exact h
  · split
    · exact closeSlot_held counted n _
    · exact warnSlot_held counted n _

end Sys2Proof.Machine
end

section
namespace Sys2Proof.Machine
variable {seats : List Seat} {f : Floor} {s : State}

/-! ### Profiles, the queue and the orders of the floor -/

@[simp] theorem reduce_held (h : FloorHeld seats s.floor) (k : Nat) : FloorHeld seats (reduce k s).floor := by
  induction k generalizing s with
  | zero => exact h
  | succ k ih =>
    unfold reduce
    split
    · split
      · exact h
      · exact ih (closeSlot_held h _ _)
    · exact h

@[simp] theorem changeProfile_held (h : FloorHeld seats s.floor) (n : ProfileNo) (c : ChangeCause) :
    FloorHeld seats (changeProfile n c s).floor :=
  advanceCheck_held (reduce_held (by simpa using h) 8)

@[simp] theorem applySelected_held (h : FloorHeld seats s.floor) (c : ChangeCause) :
    FloorHeld seats (applySelected c s).floor := by
  unfold applySelected; split <;> simp [h]

@[simp] theorem qualifyPins_held (h : FloorHeld seats s.floor) : FloorHeld seats (qualifyPins s).floor := by
  unfold qualifyPins; split <;> simp [h]

theorem takeProfilePut_held (h : FloorHeld seats s.floor) (n : Byte) (r : RawProfile) :
    FloorHeld seats (takeProfilePut n r s).state.floor := by
  unfold takeProfilePut; dsimp only
  split
  · dsimp only [answeredOk_state]; split
    · exact changeProfile_held (by simpa using h) _ _
    · exact h
  · exact h

theorem takeProfileSelect_held (h : FloorHeld seats s.floor) (n : Byte) :
    FloorHeld seats (takeProfileSelect n s).state.floor := by
  unfold takeProfileSelect; dsimp only
  split
  · exact h
  · dsimp only [answeredOk_state]; split
    · exact applySelected_held (by simpa using h) _
    · exact h

theorem takeProfileSource_held (h : FloorHeld seats s.floor) (b : Byte) :
    FloorHeld seats (takeProfileSource b s).state.floor := by
  unfold takeProfileSource; dsimp only
  split
  · exact h
  · dsimp only [answeredOk_state]; split
    · exact applySelected_held (by simpa using h) _
    · exact h

theorem takeQueueAdd_held (h : FloorHeld seats s.floor) (x : Half) (k : Byte) (t : Half) :
    FloorHeld seats (takeQueueAdd x k t s).state.floor := by
  unfold takeQueueAdd; dsimp only; (repeat' split) <;> simp [h]

theorem takeQueueDrop_held (h : FloorHeld seats s.floor) (x : Half) : FloorHeld seats (takeQueueDrop x s).state.floor := by
  unfold takeQueueDrop; (repeat' split) <;> simp [h]

theorem takeListClose_held (h : FloorHeld seats s.floor) (n : Half) : FloorHeld seats (takeListClose n s).state.floor := by
  unfold takeListClose; (repeat' split) <;> simp [h]

theorem takeFloorGrant_held (h : FloorHeld seats s.floor) (x : Half) (g : Byte) :
    FloorHeld seats (takeFloorGrant x g s).state.floor := by
  unfold takeFloorGrant; dsimp only; (repeat' split) <;> simp_all

theorem takeFloorNext_held (h : FloorHeld seats s.floor) : FloorHeld seats (takeFloorNext s).state.floor := by
  unfold takeFloorNext
  split
  · exact h
  · next hn => dsimp only; split <;> simp [h, nextRefusal_none hn]

theorem takeFloorRevoke_held (h : FloorHeld seats s.floor) (x : Half) : FloorHeld seats (takeFloorRevoke x s).state.floor := by
  unfold takeFloorRevoke; (repeat' split) <;> simp [h]

theorem takeFloorClear_held (h : FloorHeld seats s.floor) : FloorHeld seats (takeFloorClear s).state.floor := by
  simp [takeFloorClear, h]

theorem takeWingMask_held (h : FloorHeld seats s.floor) (m : Byte) : FloorHeld seats (takeWingMask m s).state.floor := by
  unfold takeWingMask
  split
  · refine advanceCheck_held ?_
    rw [(drainEndTest_keeps _).2.2]
    have masked : FloorHeld seats (s.setFloor { s.floor with mask := m.truncate 4 }).floor := ⟨h.listed, h.fits, h.chairs⟩
    exact closeGroup_held masked _ _
  · exact h

theorem takeUnlock_held (h : FloorHeld seats s.floor) (x : Half) : FloorHeld seats (takeUnlock x s).state.floor := by
  unfold takeUnlock
  split
  · exact h
  · split
    · dsimp only [answeredOk_state]; split <;> simp [h]
    · exact h

/-- A cleared floor has no slot to fit, and the chair records keep their seats (R105). -/
theorem takeFloorReset_held (h : FloorHeld seats s.floor) : FloorHeld seats (takeFloorReset s).state.floor := by
  have cleared : FloorHeld seats s.floor.cleared :=
    ⟨fun n hn => by simp [Floor.cleared] at hn, fun n a ha => by simp [Floor.cleared] at ha,
      by simpa [Floor.cleared, Function.comp_def] using h.chairs⟩
  simpa [takeFloorReset] using cleared

theorem takeFloorExtend_held (h : FloorHeld seats s.floor) (x n : Half) :
    FloorHeld seats (takeFloorExtend x n s).state.floor := by
  unfold takeFloorExtend; dsimp only; (repeat' split) <;> simp [h]

theorem closeSpent_held (h : FloorHeld seats s.floor) (l : List Seat) : FloorHeld seats (closeSpent l s).floor := by
  have closed := foldl_held (g := fun s x => closeSeatQuiet x .allowance s) (fun _ _ h => closeSeatQuiet_held h _ _) l h
  unfold closeSpent; dsimp only; split <;> simp [closed]

theorem expireAccounts_held (h : FloorHeld seats s.floor) (m : AllowanceMode) :
    FloorHeld seats (expireAccounts m s).floor :=
  closeSpent_held (foldl_held (fun _ _ h => by simpa using h) _ h) _

/-! ### The trunks -/

@[simp] theorem leaveSeat_held (h : FloorHeld seats s.floor) (seat : Seat) (c : CloseReason) (l : LeaveReason) :
    FloorHeld seats (leaveSeat seat c l s).floor := by
  have left : FloorHeld seats (leaveQueue seat l (closeSeatQuiet seat c
      (forgetSeat seat (s.setTrunks (s.trunks.bind seat none))))).floor := by
    rw [(leaveQueue_keeps _ _ _).2.2]
    exact closeSeatQuiet_held (by simpa using h) _ _
  have dropped (b : Bool) := dropBindings_held left seat b
  unfold leaveSeat; dsimp only; split
  · exact withdrawChair_held (dropped _) seat
  · exact dropped _

@[simp] theorem deferredAdvance_held (h : FloorHeld seats s.floor) (b : Bool) :
    FloorHeld seats (deferredAdvance b s).floor := by
  unfold deferredAdvance; split <;> simp [h]

@[simp] theorem loseEffects_held (h : FloorHeld seats s.floor) (p : Place) (e : ChainEntry) :
    FloorHeld seats (loseEffects p e s).floor := by
  unfold loseEffects; (repeat' split) <;> simp [h]

@[simp] theorem loseUnit_held (h : FloorHeld seats s.floor) (p : Place) : FloorHeld seats (loseUnit p s).floor := by
  unfold loseUnit; split <;> simp [h]

@[simp] theorem recheckBound_held (h : FloorHeld seats s.floor) (seat : Seat) :
    FloorHeld seats (recheckBound seat s).floor := by
  unfold recheckBound; (repeat' split) <;> simp [h]

@[simp] theorem recheckSeat_held (h : FloorHeld seats s.floor) (seat : Seat) : FloorHeld seats (recheckSeat seat s).floor :=
  foldl_held (fun _ _ h => by simpa using h) _ (recheckBound_held h seat)

@[simp] theorem ordinaryAnswer_held (h : FloorHeld seats s.floor) (p : Place) (e : ChainEntry) (a : TrunkAnswer) :
    FloorHeld seats (ordinaryAnswer p e a s).floor := by
  unfold ordinaryAnswer; dsimp only; (repeat' split) <;> simp [h]

@[simp] theorem releaseForAssignment_held (h : FloorHeld seats s.floor) (p : Place) (e : ChainEntry) (seat : Seat) :
    FloorHeld seats (releaseForAssignment p e seat s).floor := by
  unfold releaseForAssignment; (repeat' split) <;> simp [h]

@[simp] theorem completeAssignment_held (h : FloorHeld seats s.floor) (p : Place) (e : ChainEntry) (a : TrunkAnswer)
    (seat : Seat) : FloorHeld seats (completeAssignment p e a seat s).floor := by
  unfold completeAssignment; dsimp only; split <;> simp [h]

@[simp] theorem takeAnswer_held (h : FloorHeld seats s.floor) (p : Place) (a : TrunkAnswer) :
    FloorHeld seats (takeAnswer p a s).floor := by
  unfold takeAnswer; (repeat' split) <;> simp [h]

@[simp] theorem takeMiss_held (h : FloorHeld seats s.floor) (p : Place) : FloorHeld seats (takeMiss p s).floor := by
  unfold takeMiss; dsimp only; (repeat' split) <;> simp [h]

theorem finishPoll_held (h : FloorHeld seats s.floor) (w : Wing) (take : Place → State → State)
    (ht : ∀ p, FloorHeld seats (take p s).floor) : FloorHeld seats (finishPoll w take s).floor := by
  unfold finishPoll; split <;> simp [h, ht]

theorem takeSeatAssign_held (h : FloorHeld seats s.floor) (w p : Byte) (x : Half) :
    FloorHeld seats (takeSeatAssign w p x s).state.floor := by
  unfold takeSeatAssign; dsimp only; (repeat' split) <;> simp [h]

theorem takeTrunkRestart_held (h : FloorHeld seats s.floor) (w : Byte) :
    FloorHeld seats (takeTrunkRestart w s).state.floor := by
  unfold takeTrunkRestart
  split
  · exact h
  · dsimp only [answeredOk_state]
    rw [(mapTrunk_keeps _ _ _).2.2.2.2]
    refine foldl_held (fun _ _ h => loseUnit_held h _) _ ?_
    split <;> simp [h]

end Sys2Proof.Machine
end

section
namespace Sys2Proof.Machine
variable {seats : List Seat} {f : Floor} {s : State}

/-! ### The chair records through the advance check and the end of a hold -/

@[simp] theorem openSlot_chairs (seat : Seat) (o : Origin) (g : Bool) (s : State) :
    (openSlot seat o g s).floor.chairs = s.floor.chairs := by
  cases h : s.floor.free with
  | nil => rw [openSlot_of_full _ _ _ h]
  | cons n rest => rw [openSlot_floor _ _ _ h]; rfl

@[simp] theorem advance_chairs (k : Nat) (s : State) : (advance k s).floor.chairs = s.floor.chairs := by
  induction k generalizing s with
  | zero => rfl
  | succ k ih => unfold advance; split <;> simp [ih]

@[simp] theorem advanceCheck_chairs (s : State) : (advanceCheck s).floor.chairs = s.floor.chairs := advance_chairs 8 s

/-- The seats of the chair records and which of them hold. -/
def Floor.holders (f : Floor) : List (Seat × Bool) := f.chairs.map fun c => (c.seat, c.held)

theorem mapChairs_holders (seat : Seat) {g : ChairRecord → ChairRecord} (hs : ∀ c, (g c).seat = c.seat)
    (hh : ∀ c, (g c).held = c.held) (cs : List ChairRecord) :
    (mapChairs seat g cs).map (fun c => (c.seat, c.held)) = cs.map fun c => (c.seat, c.held) := by
  simp only [mapChairs, List.map_map]
  refine List.map_congr_left fun c _ => ?_
  simp only [Function.comp]; split <;> simp [hs, hh]

theorem releaseChair_holders (s : State) (seat : Seat) : (releaseChair s seat).floor.holders = s.floor.holders := by
  unfold releaseChair openChair closeChair
  (repeat' split) <;> simp [setChairs_floor, Floor.holders, mapChairs_holders]

theorem unmuteSlot_holders (s : State) (n : SlotNo) : (unmuteSlot s n).floor.holders = s.floor.holders := by
  rw [unmuteSlot_floor]; rfl

theorem endHold_holders (seat : Seat) (s : State) : (endHold seat s).floor.holders = s.floor.holders := by
  have checked (u : State) : (advanceCheck u).floor.holders = u.floor.holders := by simp [Floor.holders]
  simp [endHold, checked, foldl_keeps (fun s : State => s.floor.holders) releaseChair releaseChair_holders,
    foldl_keeps (fun s : State => s.floor.holders) unmuteSlot unmuteSlot_holders]

/-- No chair record of the seat holds. -/
def Floor.Unheld (seat : Seat) (f : Floor) : Prop := ∀ c ∈ f.chairs, c.seat = seat → c.held = false

theorem unheld_of_holders {seat : Seat} {f g : Floor} (h : f.Unheld seat) (e : g.holders = f.holders) : g.Unheld seat := by
  intro c hc hs
  have mem : (c.seat, c.held) ∈ f.holders := e ▸ List.mem_map_of_mem hc
  obtain ⟨d, hd, he⟩ := List.mem_map.1 mem
  obtain ⟨ds, dh⟩ := Prod.mk.inj he
  exact dh ▸ h d hd (ds.trans hs)

theorem setHeld_unheld (seat : Seat) (s : State) : (setHeld seat false s).floor.Unheld seat := by
  rw [setHeld_floor]
  intro c hc hs
  obtain ⟨d, -, rfl⟩ := List.mem_map.1 hc
  split <;> simp_all

/-- After a withdrawal no hold of the chair is counted (R91). -/
theorem lowerHold_unheld (nodup : (s.floor.chairs.map (·.seat)).Nodup) (seat : Seat) :
    (lowerHold seat s).floor.Unheld seat := by
  unfold lowerHold
  split
  · next none =>
    intro c hc hs
    exact absurd hs (by simpa using List.find?_eq_none.1 none c hc)
  · next c found =>
    obtain ⟨mem, hs⟩ := chairOf_some found
    dsimp only; split
    · split
      · exact unheld_of_holders (setHeld_unheld seat s) (endHold_holders _ _)
      · exact setHeld_unheld seat s
    · next free =>
      intro d hd ds
      obtain rfl : d = c := List.inj_on_of_nodup_map nodup hd mem (ds.trans hs.symm)
      simpa using free

theorem withdrawChair_unheld (nodup : (s.floor.chairs.map (·.seat)).Nodup) (seat : Seat) :
    (withdrawChair seat s).floor.Unheld seat := by
  unfold withdrawChair
  split
  · next none =>
    intro c hc hs
    exact absurd hs (by simpa using List.find?_eq_none.1 none c hc)
  · refine lowerHold_unheld ?_ seat
    have closed (b : Bool) : ((if b then closeChair seat s else s).floor.chairs.map (·.seat)) = s.floor.chairs.map (·.seat) := by
      split <;> simp [closeChair, setChairs_floor]
    simpa [setChairs_floor, closed] using nodup

/-! ### The chair records of a change of class -/

theorem removeChairs_count {seat : Seat} (free : f.Unheld seat) :
    (f.chairs.filter fun c => c.seat ≠ seat).countP (·.held) = f.chairs.countP (·.held) := by
  rw [List.countP_filter]
  refine List.countP_congr fun c hc => ?_
  have := free c hc
  simp only [Bool.and_eq_true, decide_eq_true_eq, ne_eq]
  exact ⟨And.left, fun held => ⟨held, fun e => by simp [this e] at held⟩⟩

/-- The chair records of a seat taken off leave the hold count as it was, when none of them holds. -/
theorem removeChairs_held (h : FloorHeld seats s.floor) {seat : Seat} (free : s.floor.Unheld seat) :
    FloorHeld (seats.filter (· ≠ seat)) (setChairs (s.floor.chairs.filter fun c => c.seat ≠ seat) s).floor := by
  rw [setChairs_floor]
  refine floorHeld_setChairs h ?_ (removeChairs_count free)
  rw [← h.chairs, List.filter_map]
  rfl

theorem insertChair_count (seat : Seat) (cs : List ChairRecord) :
    (insertChair (ChairRecord.added seat) cs).countP (·.held) = cs.countP (·.held) := by
  rw [insertChair, List.countP_append, List.countP_cons_of_neg (by simp [ChairRecord.added]), ← List.countP_append,
    List.takeWhile_append_dropWhile]

/-- A chair record that does not hold, added anywhere, leaves the hold count as it was. -/
theorem addChair_held (h : FloorHeld seats s.floor) (seat : Seat) :
    FloorHeld (seats.takeWhile (fun x => decide (x < seat)) ++ seat :: seats.dropWhile (fun x => decide (x < seat)))
      (addChair seat s).floor := by
  rw [addChair, setChairs_floor]
  refine floorHeld_setChairs h ?_ (insertChair_count seat s.floor.chairs)
  rw [← h.chairs, List.takeWhile_map, List.dropWhile_map]
  simp only [insertChair, ChairRecord.added, List.map_append, List.map_cons]
  rfl

theorem leaveDelegate_held (h : FloorHeld seats s.floor) (seat : Seat) (now : SeatClass) :
    FloorHeld seats (leaveDelegate seat now s).floor := by
  have dropped : FloorHeld seats (dropBindings seat false (leaveQueue seat .plan (closeSeat seat .plan s))).floor :=
    dropBindings_held (by simp [h]) _ _
  unfold leaveDelegate; dsimp only; split <;> simp [dropped]

theorem leaveChair_held (h : FloorHeld seats s.floor) (nodup : seats.Nodup) (seat : Seat) (now : SeatClass) :
    FloorHeld (seats.filter (· ≠ seat)) (leaveChair seat now s).floor := by
  have removed := removeChairs_held (withdrawChair_held h seat) (withdrawChair_unheld (h.chairs ▸ nodup) seat)
  unfold leaveChair; dsimp only; split
  · exact setLocked_held removed seat false
  · exact removed

/-- The seats of the chairs after a seat has changed its class. -/
def chairsNow (seat : Seat) (now : SeatClass) (seats : List Seat) : List Seat :=
  if now = .chair then seats.filter (· < seat) ++ seat :: seats.filter (seat < ·) else seats.filter (· ≠ seat)

/-- In a list ascending by `key` the places before a bound are those below it. -/
theorem takeWhile_lt_sorted {α : Type} (key : α → Seat) {l : List α} (h : l.Pairwise fun a b => key a < key b) (x : Seat) :
    l.takeWhile (fun y => decide (key y < x)) = l.filter (fun y => decide (key y < x)) ∧
      l.dropWhile (fun y => decide (key y < x)) = l.filter fun y => decide (x ≤ key y) := by
  induction l with
  | nil => simp
  | cons y l ih =>
    obtain ⟨hy, hl⟩ := List.pairwise_cons.1 h
    by_cases lt : key y < x
    · simp [lt, ih hl, not_le.2 lt]
    · have above : ∀ z ∈ l, x ≤ key z := fun z hz => (not_lt.1 lt).trans (hy z hz).le
      have all : l.filter (fun y => decide (x ≤ key y)) = l := List.filter_eq_self.2 (by simpa using above)
      simp [lt, not_lt.1 lt, all]
      exact above

theorem mem_chairsNow {seat x : Seat} {now : SeatClass} :
    x ∈ chairsNow seat now seats ↔ if x = seat then now = .chair else x ∈ seats := by
  unfold chairsNow
  rcases lt_trichotomy x seat with lt | rfl | gt
  · split <;> simp_all [ne_of_lt lt, not_lt.2 lt.le]
  · split <;> simp_all
  · split <;> simp_all [ne_of_gt gt, not_lt.2 gt.le]

theorem chairsNow_sorted (h : seats.Pairwise (· < ·)) (seat : Seat) (now : SeatClass) :
    (chairsNow seat now seats).Pairwise (· < ·) := by
  unfold chairsNow
  split
  · refine List.pairwise_append.2 ⟨h.filter _, List.pairwise_cons.2 ⟨by simp, h.filter _⟩, fun a ha b hb => ?_⟩
    have lt : a < seat := by simpa using (List.mem_filter.1 ha).2
    rcases List.mem_cons.1 hb with rfl | hb
    · exact lt
    · exact lt.trans (by simpa using (List.mem_filter.1 hb).2)
  · exact h.filter _

theorem sorted_nodup {l : List Seat} (h : l.Pairwise (· < ·)) : l.Nodup := h.imp fun lt => ne_of_lt lt

/-- A list of seats that gains and loses none by the change is the list as it was. -/
theorem chairsNow_same (h : seats.Pairwise (· < ·)) {seat : Seat} {now : SeatClass} (same : seat ∈ seats ↔ now = .chair) :
    chairsNow seat now seats = seats :=
  (chairsNow_sorted h seat now).eq_of_mem_iff h fun x => by
    rw [mem_chairsNow]
    split
    · next e => rw [e, same]
    · rfl

/-- The chair seats after a seat that was none of them is added. -/
theorem chairsNow_added (h : seats.Pairwise (· < ·)) {seat : Seat} :
    seats.takeWhile (fun x => decide (x < seat)) ++ seat :: seats.dropWhile (fun x => decide (x < seat)) =
      if seat ∈ seats then seats.filter (· < seat) ++ seat :: seats.filter (seat ≤ ·) else chairsNow seat .chair seats := by
  rw [(takeWhile_lt_sorted (fun x => x) h seat).1, (takeWhile_lt_sorted (fun x => x) h seat).2]
  split
  · rfl
  · next absent =>
    have : seats.filter (seat ≤ ·) = seats.filter (seat < ·) := List.filter_congr fun x hx => by
      have : seat ≠ x := by rintro rfl; exact absent hx
      simp [le_iff_lt_or_eq, this]
    rw [this, chairsNow, if_pos rfl]

/-- What a change of class makes of the chairs (R13, R14, R91). -/
theorem classRequests_held (h : FloorHeld seats s.floor) (sorted : seats.Pairwise (· < ·)) {seat : Seat}
    {before now : SeatClass} (was : seat ∈ seats ↔ before = .chair) :
    FloorHeld (chairsNow seat now seats) (classRequests seat before now s).floor := by
  unfold classRequests
  split
  · next e => rw [chairsNow_same sorted (e ▸ was)]; exact h
  · next ne =>
    have stays (hb : before ≠ .chair) {u : State} (hu : FloorHeld seats u.floor) :
        FloorHeld (chairsNow seat now seats) (if now = .chair then addChair seat u else u).floor := by
      have absent : seat ∉ seats := fun m => hb (was.1 m)
      split
      · next hn =>
        have added := addChair_held hu seat
        rwa [chairsNow_added sorted, if_neg absent, ← hn] at added
      · next hn =>
        rwa [chairsNow_same sorted (by simp [absent, hn])]
    cases before with
    | chair =>
      have hn : now ≠ .chair := fun e => ne e.symm
      simp only [if_neg hn, chairsNow]
      exact leaveChair_held h (sorted_nodup sorted) seat now
    | delegate => exact stays (by simp) (leaveDelegate_held h seat now)
    | vacant => exact stays (by simp) h
    | listener => exact stays (by simp) h

/-! ### The laws of the chairs, the cursor and the hold, as one -/

/-- The laws that a step keeps together, with the part of the laws of the floor that they rest on. -/
structure HoldLaws (s : State) : Prop where
  floor : FloorHeld (s.floor.chairs.map (·.seat)) s.floor
  chairs : ChairsLaw s
  cursor : CursorLaw s

theorem HoldLaws.of_laws (floor : FloorLaws s) (chairs : ChairsLaw s) (cursor : CursorLaw s) (hold : HoldLaw s) : HoldLaws s :=
  ⟨⟨fun n hn => (floor.2.1.2.2.1 n).2 hn, hold, rfl⟩, chairs, cursor⟩

theorem HoldLaws.hold (h : HoldLaws s) : HoldLaw s := h.floor.fits

/-- The law of the chairs, said of the seats that the chair records stand for. -/
theorem chairsLaw_iff (s : State) : ChairsLaw s ↔ (s.floor.chairs.map (·.seat)).Pairwise (· < ·) ∧
    (∀ x : Seat, (s.plan[x]).cls = .chair ↔ x ∈ s.floor.chairs.map (·.seat)) ∧
    ((List.finRange 512).countP fun x : Seat => s.plan[x].cls == .chair) ≤ 4 := by
  simp only [ChairsLaw, List.pairwise_map, List.mem_map]

/-- What leaves the plan and the seats of the chair records, and the floor and the cursor in line, keeps the laws. -/
theorem HoldLaws.of_plan {t : State} (h : HoldLaws s) (plan : t.plan = s.plan)
    (floor : FloorHeld (s.floor.chairs.map (·.seat)) t.floor) (cursor : CursorLaw t) : HoldLaws t where
  floor := ⟨floor.listed, floor.fits, rfl⟩
  chairs := by
    have := (chairsLaw_iff s).1 h.chairs
    rw [chairsLaw_iff, floor.chairs, plan]
    exact this
  cursor := cursor

theorem HoldLaws.of_keeps {t : State} (h : HoldLaws s) (plan : t.plan = s.plan) (cursor : t.cursor = s.cursor)
    (floor : FloorHeld (s.floor.chairs.map (·.seat)) t.floor) : HoldLaws t :=
  h.of_plan plan floor (by rw [CursorLaw, cursor]; exact h.cursor)

/-! ### The orders of the plan -/

theorem preload_cursorLaw (plan : Vector PlanRecord 512) (i : Fin 513) (s : State) :
    CursorLaw (s.setCursor (preload plan i)) := by
  unfold preload
  split
  · rfl
  · next ge => exact Nat.le_antisymm (Nat.le_of_lt_succ i.isLt) (not_lt.1 ge)

theorem takePlanSeek_cursorLaw (h : CursorLaw s) (i : Half) (d : Byte) : CursorLaw (takePlanSeek i d s).state := by
  unfold takePlanSeek
  split
  · rfl
  · exact preload_cursorLaw _ _ _
  · exact h

theorem takePlanGet_cursorLaw (h : CursorLaw s) : CursorLaw (takePlanGet s).state := by
  unfold takePlanGet
  split
  · exact h
  · exact h
  · exact preload_cursorLaw _ _ _

/-- The chair seats of a plan with one record rewritten: the others, and that seat when it is written as one (R5). -/
theorem count_chairs_put (plan : Vector PlanRecord 512) (seat : Seat) (r : PlanRecord) :
    ((List.finRange 512).countP fun x : Seat => (put plan seat r)[x].cls == .chair) =
      otherChairs plan seat + if r.cls = .chair then 1 else 0 := by
  have written : (List.finRange 512).filter (fun x : Seat => !decide (x ≠ seat)) = [seat] := by
    have one : (List.finRange 512).count seat = 1 :=
      List.count_eq_one_of_mem (List.nodup_finRange 512) (List.mem_finRange seat)
    have here := List.filter_eq (l := List.finRange 512) seat
    rw [one] at here
    simpa [eq_comm] using here
  rw [List.countP_eq_countP_filter_add _ _ (fun x => decide (x ≠ seat)), List.countP_filter, written, otherChairs]
  refine congrArg₂ (· + ·) (List.countP_congr fun x _ => ?_) ?_
  · by_cases e : x = seat
    · simp [e]
    · simp [e, put_getElem_ne plan r e]
  · simp [List.countP_cons]

/-- The other chair seats are chair seats. -/
theorem otherChairs_le (plan : Vector PlanRecord 512) (seat : Seat) :
    otherChairs plan seat ≤ (List.finRange 512).countP fun x : Seat => plan[x].cls == .chair := by
  unfold otherChairs
  exact List.countP_mono_left fun x _ hx => (Bool.and_eq_true_iff.1 hx).2

/-- A PLAN PUT that the limit of four lets through keeps the laws (R5, R6, R9, R14). -/
theorem writePlan_laws (h : HoldLaws s) (write : s.cursor.direction = .write) (seat : Seat) (r : PlanRecord)
    (limit : r.cls = .chair → otherChairs s.plan seat < 4) : HoldLaws (writePlan seat r s) := by
  obtain ⟨sorted, records, four⟩ := (chairsLaw_iff s).1 h.chairs
  have floor : FloorHeld (chairsNow seat r.cls (s.floor.chairs.map (·.seat))) (writePlan seat r s).floor :=
    classRequests_held (recheckSeat_held (by simpa using h.floor) seat) sorted (records seat).symm
  refine ⟨⟨floor.listed, floor.fits, rfl⟩, (chairsLaw_iff _).2 ?_, ?_⟩
  · rw [floor.chairs, (writePlan_keeps seat r s).2.2.2.1]
    refine ⟨chairsNow_sorted sorted seat _, fun x => ?_, ?_⟩
    · rw [mem_chairsNow, put_getElem]
      split
      · rfl
      · exact records x
    · have others := (otherChairs_le s.plan seat).trans four
      rw [count_chairs_put]
      generalize otherChairs s.plan seat = n at limit others ⊢
      split
      · next hc => have := limit hc; omega
      · exact others
  · have buffer := h.cursor
    simp only [CursorLaw, write] at buffer
    simp [CursorLaw, write, buffer]

theorem takePlanPut_laws (h : HoldLaws s) (cls wing position delegation voice : Byte) :
    HoldLaws (takePlanPut cls wing position delegation voice s).state := by
  unfold takePlanPut
  split
  · exact h
  · next write =>
    have write : s.cursor.direction = .write := by
      cases hd : s.cursor.direction with
      | write => rfl
      | read => exact absurd hd write
    split
    · dsimp only; split
      · exact h
      · split
        · exact h
        · next limit => exact writePlan_laws h write _ _ fun hc => not_le.1 fun four => limit ⟨hc, four⟩
    · exact h

/-! ### Every order and every event -/

theorem setLink_laws (h : HoldLaws s) (l : Link) : HoldLaws (s.setLink l) := h.of_keeps rfl rfl h.floor

/-- An order that leaves the plan and the cursor, and the floor in line. -/
theorem HoldLaws.of_order {i : Instr} (h : HoldLaws s)
    (floor : FloorHeld (s.floor.chairs.map (·.seat)) (deliver i s).state.floor)
    (plan : (deliver i s).state.plan = s.plan := by unfold deliver; simp)
    (cursor : (deliver i s).state.cursor = s.cursor := by unfold deliver; simp) : HoldLaws (deliver i s).state :=
  h.of_keeps plan cursor floor

/-- Every order keeps the laws. -/
theorem deliver_laws (i : Instr) (h : HoldLaws s) : HoldLaws (deliver i s).state := by
  have hf := h.floor
  cases i with
  | planSeek i d =>
    exact h.of_plan (by unfold deliver; simp) (by unfold deliver; simpa using hf) (takePlanSeek_cursorLaw h.cursor i d)
  | planGet =>
    exact h.of_plan (by unfold deliver; simp) (by unfold deliver; simpa using hf) (takePlanGet_cursorLaw h.cursor)
  | planPut a b c d e => exact takePlanPut_laws h a b c d e
  | seatAssign w p x => exact h.of_order (takeSeatAssign_held hf w p x)
  | trunkRestart w => exact h.of_order (takeTrunkRestart_held hf w)
  | queueAdd x k t => exact h.of_order (takeQueueAdd_held hf x k t)
  | queueDrop x => exact h.of_order (takeQueueDrop_held hf x)
  | floorGrant x g => exact h.of_order (takeFloorGrant_held hf x g)
  | floorNext => exact h.of_order (takeFloorNext_held hf)
  | floorRevoke x => exact h.of_order (takeFloorRevoke_held hf x)
  | floorClear => exact h.of_order (takeFloorClear_held hf)
  | wingMask m => exact h.of_order (takeWingMask_held hf m)
  | unlock x => exact h.of_order (takeUnlock_held hf x)
  | floorReset => exact h.of_order (takeFloorReset_held hf)
  | floorExtend x n => exact h.of_order (takeFloorExtend_held hf x n)
  | profilePut n r => exact h.of_order (takeProfilePut_held hf n r)
  | profileSelect n => exact h.of_order (takeProfileSelect_held hf n)
  | profileSource b => exact h.of_order (takeProfileSource_held hf b)
  | listClose n => exact h.of_order (takeListClose_held hf n)
  | _ => exact h.of_order (by unfold deliver; simpa using hf)

end Sys2Proof.Machine
end

section
namespace Sys2Proof.Machine
variable {seats : List Seat} {f : Floor} {s : State}

/-! ### What every order keeps, every frame keeps

For a law that does not speak of the order unit's own state. -/

section Frames
variable {P : State → Prop} (hl : ∀ (s : State) (l : Link), P s → P (s.setLink l))
  (hd : ∀ (i : Instr) (s : State), P s → P (deliver i s).state)
include hl hd

theorem takeOrder_inv (i : Instr) (s : State) (h : P s) : P (takeOrder i s) := hl _ _ (hd i _ (hl _ _ h))

theorem takeFrame_inv (frame : List Byte) (s : State) (h : P s) : P (takeFrame frame s) := by
  unfold takeFrame
  split
  · exact hl _ _ h
  · exact hl _ _ h
  · exact hl _ _ h
  · exact takeOrder_inv hl hd _ s h

theorem chooseFrame_inv (s : State) (h : P s) : P (chooseFrame s) := by
  unfold chooseFrame
  split
  · split
    · unfold beginAnswer
      split
      · exact hl _ _ h
      · exact takeFrame_inv hl hd _ _ (hl _ _ h)
    · exact hl _ _ h
  · exact h

omit hd in
theorem holdFrame_inv (frame : List Byte) (s : State) (h : P s) : P (holdFrame frame s) := by
  unfold holdFrame; split <;> exact hl _ _ h

theorem submitOrder_inv (i : Instr) (s : State) (h : P s) : P (submitOrder i s) := by
  unfold submitOrder
  split
  · exact chooseFrame_inv hl hd _ (takeOrder_inv hl hd i s h)
  · exact holdFrame_inv hl _ s h

theorem handOn_inv (frame : List Byte) (s : State) (h : P s) : P (handOn frame s) := by
  unfold handOn
  split
  · exact chooseFrame_inv hl hd _ (takeFrame_inv hl hd frame s h)
  · exact holdFrame_inv hl _ s h

theorem receive_inv (b : Byte) (s : State) (h : P s) : P (receive b s) := by
  have stage (x : ReceiveStage) : P (setStage x s) := hl _ _ h
  unfold receive
  split
  · split
    · exact stage _
    · exact h
  · split <;> exact stage _
  · split
    · exact handOn_inv hl hd _ _ (stage _)
    · exact stage _

omit hd in
theorem reportSent_inv (a : Answer) (s : State) (h : P s) : P (reportSent a s) := by
  have cleared (c : Bool) (u : State) (l : Link) (hu : P u) : P (if c then u.setLink l else u) := by
    split
    · exact hl _ _ hu
    · exact hu
  unfold reportSent
  split
  · exact cleared _ _ _ (cleared _ _ _ h)
  · exact h

theorem finishFrame_inv (s : State) (h : P s) : P (finishFrame s) := by
  unfold finishFrame
  split
  · exact h
  · exact chooseFrame_inv hl hd _ (hl _ _ (reportSent_inv hl _ s h))
  · exact chooseFrame_inv hl hd _ (hl _ _ h)

end Frames

/-- What the effect of an event keeps, the event keeps, RESET held or not. -/
theorem whileRunning_inv {P : State → Prop} {g : State → State} {t : State} (h : P s) (hg : P (g s))
    (e : whileRunning s g = .next t) : P t := by
  unfold whileRunning at e
  split at e
  · cases e; exact h
  · cases e; exact hg

/-! ### Every command -/

/-- The state after a power reset is lawful: there is no slot, no chair record, no CHAIR seat, and the cursor writes. -/
theorem powerUp_laws (s : State) : HoldLaws (powerUp s) where
  floor := ⟨fun n hn => by simp [powerUp, State.reset, Floor.reset] at hn,
    fun n a ha => by simp [powerUp, State.reset, Floor.reset] at ha, rfl⟩
  chairs := by
    refine ⟨List.Pairwise.nil, fun seat => ?_, ?_⟩
    · simp [powerUp, State.reset, Floor.reset, PlanRecord.vacant]
    · rw [List.countP_eq_zero.2 fun x _ => by simp [powerUp, State.reset, PlanRecord.vacant]]
      exact Nat.zero_le 4
  cursor := rfl

/-- The effect of an event that leaves the plan and the cursor, and the floor in line. -/
theorem event_laws (h : HoldLaws s) {g : State → State} {t : State} (e : whileRunning s g = .next t)
    (kept : (g s).plan = s.plan ∧ (g s).cursor = s.cursor ∧ FloorHeld (s.floor.chairs.map (·.seat)) (g s).floor) :
    HoldLaws t :=
  whileRunning_inv h (h.of_keeps kept.1 kept.2.1 kept.2.2) e

theorem submit_laws (h : HoldLaws s) {i : Instr} {t : State} (e : submit i s = .next t) : HoldLaws t :=
  whileRunning_inv h (submitOrder_inv (P := HoldLaws) (fun _ l h => setLink_laws h l) (fun i _ h => deliver_laws i h) i s h) e

/-- The end of a poll, by what is made of its answer or its miss. -/
theorem finishPoll_kept (h : FloorHeld seats s.floor) (w : Wing) {take : Place → State → State}
    (plan : ∀ p u, (take p u).plan = u.plan) (cursor : ∀ p u, (take p u).cursor = u.cursor)
    (floor : ∀ p, FloorHeld seats (take p s).floor) : (finishPoll w take s).plan = s.plan ∧
      (finishPoll w take s).cursor = s.cursor ∧ FloorHeld seats (finishPoll w take s).floor :=
  ⟨finishPoll_keeps State.plan w take plan (by simp) (by simp) s,
    finishPoll_keeps State.cursor w take cursor (by simp) (by simp) s, finishPoll_held h w take floor⟩

/-- Every command keeps the laws. -/
theorem exec_laws (h : HoldLaws s) (c : Instr) {t : State} (e : exec c s = .next t) : HoldLaws t := by
  have hf := h.floor
  have hl := fun (s : State) (l : Link) (h : HoldLaws s) => setLink_laws h l
  have hd := fun (i : Instr) (s : State) (h : HoldLaws s) => deliver_laws i h
  cases c with
  | powerReset => cases e; exact powerUp_laws s
  | resetHeldLow => cases e; exact (powerUp_laws s).of_keeps rfl rfl (powerUp_laws s).floor
  | resetPin ns =>
    have drawn : HoldLaws (s.setDraws (s.draws + 1)) := h.of_keeps rfl rfl hf
    simp only [exec, execResetPin] at e
    (repeat' split at e) <;> cases e
    · exact (powerUp_laws s).of_keeps rfl rfl (powerUp_laws s).floor
    · exact powerUp_laws _
    · exact powerUp_laws _
    · exact drawn
    · exact h
  | refclkReturns => cases e; exact h
  | receiveByte b => exact whileRunning_inv h (receive_inv hl hd b s h) e
  | receiveGapTimeout => exact whileRunning_inv h (hl _ _ h) e
  | transmitFrameEnd => exact whileRunning_inv h (finishFrame_inv hl hd s h) e
  | deciExpiry => exact event_laws h e (by simp [hf])
  | restarted =>
    simp only [exec, execRestarted] at e
    refine event_laws h e ?_
    split <;> simp [hf]
  | speechTimingExpiry =>
    simp only [exec, execSpeechTimingExpiry] at e
    have timed := foldl_held (g := timeSlot) (fun _ _ h => timeSlot_held h _) s.floor.speakers hf
    refine event_laws h e ?_
    split <;> simp [timed, foldl_keeps State.plan timeSlot (by simp), foldl_keeps State.cursor timeSlot (by simp)]
  | timeLimitClose slot =>
    simp only [exec, execTimeLimitClose] at e
    refine event_laws h e ?_
    (repeat' split) <;> simp [hf]
  | allowanceExpiry =>
    simp only [exec, execAllowanceExpiry] at e
    refine event_laws h e ?_
    split <;> simp [hf, expireAccounts_held]
  | seatInputExpiry =>
    simp only [exec, execSeatInputExpiry] at e
    have quiet := foldl_held (g := quietSeat) (fun _ _ h => quietSeat_held h _) (List.finRange 512) hf
    refine event_laws h e ?_
    simp [quiet, foldl_keeps State.plan quietSeat (by simp), foldl_keeps State.cursor quietSeat (by simp)]
  | silence seat =>
    simp only [exec, execSilence] at e
    refine event_laws h e ?_
    (repeat' split) <;> simp [hf]
  | voiceStart seat =>
    simp only [exec, execVoiceStart] at e
    refine event_laws h e ?_
    (repeat' split) <;> simp [hf]
  | howl seat =>
    simp only [exec, execHowl] at e
    refine event_laws h e ?_
    split <;> simp [hf]
  | howlClear seat =>
    simp only [exec, execHowlClear] at e
    refine event_laws h e ?_
    split <;> simp [hf]
  | pselSample pins =>
    simp only [exec, execPselSample] at e
    exact event_laws h e ⟨by simp, by simp, qualifyPins_held (by simpa using hf)⟩
  | profilePinsQualify => exact event_laws h e ⟨by simp, by simp, qualifyPins_held hf⟩
  | refusalCountExpiry w =>
    simp only [exec, execRefusalCountExpiry] at e
    have counted := foldl_held (g := refusalAt w) (fun _ _ h => by simpa using h) (List.finRange 128) hf
    refine event_laws h e ?_
    simp [counted, foldl_keeps State.plan (refusalAt w) (by simp), foldl_keeps State.cursor (refusalAt w) (by simp)]
  | pollSent w => exact event_laws h e (by simp [hf])
  | pollGoodAnswer w answer =>
    simp only [exec, execPollGoodAnswer] at e
    refine event_laws h e ?_
    split
    · exact finishPoll_kept hf w (by simp) (by simp) fun p => takeAnswer_held hf p _
    · exact finishPoll_kept hf w (by simp) (by simp) fun p => takeMiss_held hf p
  | pollMissedAnswer w => exact event_laws h e (finishPoll_kept hf w (by simp) (by simp) fun p => takeMiss_held hf p)
  | settleComplete w position =>
    simp only [exec, execSettleComplete] at e
    refine event_laws h e ?_
    (repeat' split) <;> simp [hf]
  | unitLost w position =>
    simp only [exec, execUnitLost] at e
    refine event_laws h e ?_
    (repeat' split) <;> simp [hf]
  | assignTimeout w =>
    simp only [exec, execAssignTimeout] at e
    refine event_laws h e ?_
    split <;> simp [hf]
  | _ => exact submit_laws h e

theorem step_laws (h : HoldLaws s) {t : State} (e : step s = .next t) : HoldLaws t := by
  have front (q : List Instr) : HoldLaws (s.setPending q) := h.of_keeps rfl rfl h.floor
  unfold step at e
  split at e
  · cases e; exact h
  · exact exec_laws (front _) _ e

/-- Settles O57: the three laws and the listing of every occupied slot are kept by every command, the hold's own start and end
bringing the slots back in line with the count. -/
theorem stepsKeepTheHold : Obligations.StepsKeepTheHold := by
  intro s t floor chairs cursor hold e
  have h := step_laws (HoldLaws.of_laws floor chairs cursor hold) e
  exact ⟨h.chairs, h.cursor, h.hold⟩

end Sys2Proof.Machine
end

section
namespace Sys2Proof.Machine
variable {s : State}

/-! ### What an order that is taken answers -/

/-- An order answered OK that reaches the link by notices and changes of the summary alone (R156, R162). -/
theorem submit_answered {i : Instr} {k : Byte} (hk : orderKind i = some k) (hi : i ≠ .status)
    (hm : ∀ m, i ≠ .noticeMask m) (hfr : i ≠ .floorReset) (h : TakesOrders s) {u : State} {d : List Byte}
    (hd : deliver i (oweAnswer s) = answeredOk u d) :
    submit i s = .next (answered k .ok d u) ∧ Answers s (answered k .ok d u) k .ok d ∧
      LinkFrame s (answered k .ok d u) := by
  obtain ⟨taken, path⟩ := submit_path hk hi hm hfr h
  rw [hd] at taken path
  exact ⟨taken, answers_of_path h.2.1 path⟩

/-! ### The fields of a plan record -/

theorem seatClassOf_none (b : Byte) : seatClassOf b = none ↔ 3 < b.toNat := by
  unfold seatClassOf
  (repeat' split) <;> simp_all
  bv_omega

theorem locationOf_none (w p : Byte) : locationOf w p = none ↔
    ¬(w = 0xFF ∧ p = 0) ∧ (3 < w.toNat ∨ p.toNat = 0 ∨ 128 < p.toNat) := by
  unfold locationOf
  split
  · next nowhere => simp [nowhere]
  · next somewhere =>
    have wing : wingOf w = none ↔ 3 < w.toNat := by unfold wingOf; split <;> simp <;> omega
    have pos : posOf p.toNat = none ↔ p.toNat = 0 ∨ 128 < p.toNat := by
      unfold posOf; split <;> simp only [reduceCtorEq, true_iff, false_iff] <;> omega
    rw [and_iff_right somewhere, ← wing, ← pos]
    cases wingOf w <;> cases posOf p.toNat <;> simp

theorem delegationOf_none (b : Byte) : delegationOf b = none ↔ 64 < b.toNat := by
  unfold delegationOf
  split <;> simp_all <;> omega

theorem yesNoOf_none (b : Byte) : yesNoOf b = none ↔ 1 < b.toNat := by
  unfold yesNoOf
  (repeat' split) <;> simp_all
  bv_omega

theorem planRecordOf_some {c w p d v : Byte} {r : PlanRecord} : planRecordOf c w p d v = some r ↔
    seatClassOf c = some r.cls ∧ locationOf w p = some r.location ∧ delegationOf d = some r.delegation ∧
      yesNoOf v = some r.voice := by
  unfold planRecordOf
  split
  · next hc hl hd hv => cases r; simp [hc, hl, hd, hv]
  · next no =>
    refine ⟨fun e => (by cases e), fun ⟨hc, hl, hd, hv⟩ => ?_⟩
    exact (no _ _ _ _ hc hl hd hv).elim

/-- A record has no reading exactly when one of its fields has none. -/
theorem planRecordOf_none (c w p d v : Byte) : planRecordOf c w p d v = none ↔
    seatClassOf c = none ∨ locationOf w p = none ∨ delegationOf d = none ∨ yesNoOf v = none := by
  rw [← not_iff_not, ← ne_eq, Option.ne_none_iff_exists']
  simp only [not_or, ← ne_eq, Option.ne_none_iff_exists', planRecordOf_some]
  exact ⟨fun ⟨_, hc, hl, hd, hv⟩ => ⟨⟨_, hc⟩, ⟨_, hl⟩, ⟨_, hd⟩, ⟨_, hv⟩⟩,
    fun ⟨⟨c, hc⟩, ⟨l, hl⟩, ⟨d, hd⟩, ⟨v, hv⟩⟩ => ⟨⟨c, l, d, v⟩, hc, hl, hd, hv⟩⟩

theorem seatClassOf_chair (b : Byte) : seatClassOf b = some .chair ↔ b = 2 := by
  unfold seatClassOf
  (repeat' split) <;> simp_all

theorem seatClassOf_code (c : SeatClass) : seatClassOf c.code = some c := by cases c <;> decide

/-- The bytes that carry a record are read as that record (R8, section 11.2). -/
theorem planRecordOf_carried {c w p d v : Byte} {r : PlanRecord} (h : CarriesRecord c w p d v r) :
    planRecordOf c w p d v = some r := by
  obtain ⟨cls, nowhere, somewhere, delegation, yes, no⟩ := h
  refine planRecordOf_some.2 ⟨cls ▸ seatClassOf_code _, ?_, ?_, ?_⟩
  · cases hl : r.location with
    | none => obtain ⟨rfl, rfl⟩ := nowhere hl; rfl
    | some q =>
      obtain ⟨hw, hp⟩ := somewhere q hl
      have wing : ¬(w = 0xFF ∧ p = 0) := by rintro ⟨-, rfl⟩; simp at hp
      rw [locationOf, if_neg wing]
      simp [wingOf, posOf, hw, hp, q.wing.isLt, Nat.succ_le_of_lt q.pos.isLt]
  · simp [delegationOf, delegation]
  · cases hv : r.voice
    · rw [no hv]; rfl
    · rw [yes hv]; rfl

/-! ### PLAN PUT (R8) -/

section PlanPut
variable {cls wing position delegation voice : Byte} {seat : Seat} {r : PlanRecord}

theorem takePlanPut_read (hd : s.cursor.direction = .read) :
    takePlanPut cls wing position delegation voice s = refusedWith .wrongDirection s := by
  simp [takePlanPut, hd]

theorem takePlanPut_atEnd (hd : s.cursor.direction = .write) (hi : s.cursor.index.val = 512) :
    takePlanPut cls wing position delegation voice s = refusedWith .atEnd s := by
  simp [takePlanPut, hd, hi]

theorem takePlanPut_badValue (hd : s.cursor.direction = .write) (hi : s.cursor.index.val = seat.val)
    (hr : planRecordOf cls wing position delegation voice = none) :
    takePlanPut cls wing position delegation voice s = refusedWith .badValue s := by
  simp [takePlanPut, hd, hi, hr]

theorem takePlanPut_limit (hd : s.cursor.direction = .write) (hi : s.cursor.index.val = seat.val)
    (hr : planRecordOf cls wing position delegation voice = some r) (chair : r.cls = .chair)
    (four : 4 ≤ otherChairs s.plan seat) :
    takePlanPut cls wing position delegation voice s = refusedWith .limit s := by
  simp [takePlanPut, hd, hi, hr, chair, Config.chairLimit, four]

theorem takePlanPut_ok (hd : s.cursor.direction = .write) (hi : s.cursor.index.val = seat.val)
    (hr : planRecordOf cls wing position delegation voice = some r)
    (limit : r.cls = .chair → otherChairs s.plan seat < 4) :
    takePlanPut cls wing position delegation voice s = answeredOk (writePlan seat r s) (seatBytes seat) := by
  have few : ¬(r.cls = .chair ∧ Config.chairLimit ≤ otherChairs s.plan seat) := fun ⟨c, four⟩ =>
    absurd (limit c) (not_lt.2 four)
  simp [takePlanPut, hd, hi, hr, few]

/-- A PLAN PUT that one of the tests refuses. -/
theorem planPut_refused (h : TakesOrders s) {c : ResultCode}
    (hd : ∀ u : State, u.cursor = s.cursor → u.plan = s.plan →
      takePlanPut cls wing position delegation voice u = refusedWith c u) :
    exec (.planPut cls wing position delegation voice) s = .next (answered 0x09 c [] s) :=
  submit_refused rfl (by simp) h (hd (oweAnswer s) rfl rfl)

/-- A PLAN PUT that is taken: its answer, and the state that writing the record comes to (R9). -/
theorem planPut_taken (h : TakesOrders s) (hd : s.cursor.direction = .write) (hi : s.cursor.index.val = seat.val)
    (hr : planRecordOf cls wing position delegation voice = some r)
    (limit : r.cls = .chair → otherChairs s.plan seat < 4) :
    let t := answered 0x09 .ok (seatBytes seat) (writePlan seat r (oweAnswer s))
    exec (.planPut cls wing position delegation voice) s = .next t ∧ Answers s t 0x09 .ok (seatBytes seat) ∧
      LinkFrame s t :=
  submit_answered rfl (by simp) (by simp) (by simp) h (takePlanPut_ok (s := oweAnswer s) hd hi hr limit)

end PlanPut

/-- Settles O17: the tests of `takePlanPut` one after the other, each refused order leaving the state. -/
theorem planPutTests : Obligations.PlanPutTests := by
  intro cls wing position delegation voice s h
  refine ⟨fun hd => planPut_refused h fun u hc _ => takePlanPut_read (hc ▸ hd),
    fun hd hi => planPut_refused h fun u hc _ => takePlanPut_atEnd (hc ▸ hd) (hc ▸ hi), fun seat hd hi => ?_⟩
  intro out others
  have refused : planRecordOf cls wing position delegation voice = none ↔ out := by
    rw [planRecordOf_none, seatClassOf_none, locationOf_none, delegationOf_none, yesNoOf_none]
  have read (no : ¬out) : ∃ r, planRecordOf cls wing position delegation voice = some r ∧ (r.cls = .chair ↔ cls = 2) := by
    obtain ⟨r, hr⟩ := Option.ne_none_iff_exists'.1 (mt refused.1 no)
    exact ⟨r, hr, by rw [← seatClassOf_chair, (planRecordOf_some.1 hr).1, Option.some.injEq]⟩
  refine ⟨fun ho => planPut_refused h fun u hc _ => takePlanPut_badValue (hc ▸ hd) (hc ▸ hi) (refused.2 ho),
    fun no two four => ?_, fun no few => ?_⟩
  · obtain ⟨r, hr, chair⟩ := read no
    exact planPut_refused h fun u hc hp => takePlanPut_limit (hc ▸ hd) (hc ▸ hi) hr (chair.2 two) (hp ▸ four)
  · obtain ⟨r, hr, chair⟩ := read no
    obtain ⟨taken, answer, -⟩ := planPut_taken h hd hi hr fun c => few.resolve_left (not_not.2 (chair.1 c))
    exact ⟨_, taken, answer⟩

end Sys2Proof.Machine
end

section
namespace Sys2Proof.Machine
variable {s : State}

/-! ### The plan cursor (R7, R10) -/

theorem preload_seat (plan : Vector PlanRecord 512) (seat : Seat) :
    preload plan seat.castSucc = ⟨seat.succ, .read, some (seat, plan[seat])⟩ := by
  simp [preload]
  rfl

theorem preload_end (plan : Vector PlanRecord 512) {i : Fin 513} (h : i.val = 512) : preload plan i = ⟨512, .read, none⟩ := by
  obtain rfl : i = 512 := Fin.ext h
  simp [preload]

theorem seatOf_val {h : Half} {seat : Seat} (e : h.toNat = seat.val) : seatOf h = some seat := by
  simp [seatOf, e]

theorem takePlanSeek_refused {i : Half} {d : Byte} (h : 511 < i.toNat ∨ (d ≠ 0 ∧ d ≠ 1)) (s : State) :
    takePlanSeek i d s = refusedWith .badValue s := by
  unfold takePlanSeek
  rcases h with high | ⟨no, yes⟩
  · simp [seatOf, not_lt.2 (Nat.succ_le_of_lt high)]
  · have none : directionOf d = none := by rw [directionOf, if_neg no, if_neg yes]
    cases seatOf i <;> simp [none]

theorem takePlanSeek_write {i : Half} {seat : Seat} (h : i.toNat = seat.val) (s : State) :
    takePlanSeek i 0 s = answeredOk (s.setCursor ⟨seat.castSucc, .write, none⟩) [] := by
  simp [takePlanSeek, seatOf_val h, directionOf]

theorem takePlanSeek_read {i : Half} {seat : Seat} (h : i.toNat = seat.val) (s : State) :
    takePlanSeek i 1 s = answeredOk (s.setCursor ⟨seat.succ, .read, some (seat, s.plan[seat])⟩) [] := by
  simp [takePlanSeek, seatOf_val h, directionOf, preload_seat]

theorem takePlanGet_write (h : s.cursor.direction = .write) : takePlanGet s = refusedWith .wrongDirection s := by
  simp [takePlanGet, h]

theorem takePlanGet_empty (hd : s.cursor.direction = .read) (hb : s.cursor.buffer = none) :
    takePlanGet s = refusedWith .atEnd s := by
  simp [takePlanGet, hd, hb]

theorem takePlanGet_full (hd : s.cursor.direction = .read) {seat : Seat} {r : PlanRecord}
    (hb : s.cursor.buffer = some (seat, r)) :
    takePlanGet s = answeredOk (s.setCursor (preload s.plan s.cursor.index)) (seatBytes seat ++ r.bytes) := by
  simp [takePlanGet, hd, hb]

/-- Settles O16: the tests of PLAN SEEK and PLAN GET, and where each leaves the cursor. -/
theorem planSeekAndGetMoveTheCursor : Obligations.PlanSeekAndGetMoveTheCursor := by
  refine ⟨fun i d s h => ⟨fun bad => ?_, fun seat hi hd => ?_, fun seat hi hd => ?_⟩, fun s h => ⟨fun hd => ?_, fun hd hb => ?_,
    fun seat next r hd hb hi => ?_, fun seat r hd hb hi => ?_⟩⟩
  · exact submit_refused rfl (by simp) h (takePlanSeek_refused bad _)
  · exact submit_ok rfl (by simp) h (hd ▸ takePlanSeek_write hi (oweAnswer s)) rfl
  · exact submit_ok rfl (by simp) h (hd ▸ takePlanSeek_read hi (oweAnswer s)) rfl
  · exact submit_refused rfl (by simp) h (takePlanGet_write (s := oweAnswer s) hd)
  · exact submit_refused rfl (by simp) h (takePlanGet_empty (s := oweAnswer s) hd hb)
  · have full := takePlanGet_full (s := oweAnswer s) hd hb
    rw [show (oweAnswer s).cursor.index = next.castSucc from Fin.ext hi, preload_seat] at full
    exact submit_ok rfl (by simp) h full rfl
  · have full := takePlanGet_full (s := oweAnswer s) hd hb
    rw [preload_end (i := (oweAnswer s).cursor.index) _ hi] at full
    exact submit_ok rfl (by simp) h full rfl

/-! ### The power-reset state -/

/-- Every place of every chain is ABSENT after a power reset (R18). -/
theorem reset_entryAt (p : Place) : Trunks.reset.entryAt p = none := by
  simp [Trunks.entryAt, Trunks.reset, Trunk.reset]

theorem highestEntry_absent (k : Nat) : highestEntry (Vector.replicate 128 none) k = 0 := by
  induction k with
  | zero => rfl
  | succ k ih =>
    have absent : (Vector.replicate 128 (none : Option ChainEntry))[k]?.join = none := by
      rw [Vector.getElem?_replicate]
      split <;> rfl
    rw [highestEntry, absent, ih]
    rfl

/-- A round after a power reset begins with the end probe to position 1 (R18, R19). -/
theorem reset_nextTarget : Trunk.reset.nextTarget = some (0, true) := by
  rw [Trunk.nextTarget, Trunk.chainLength, Trunk.reset, highestEntry_absent]
  rfl

/-- Settles O3: unit by unit; the tables hold one reset value at every place. -/
theorem powerResetValues : Obligations.PowerResetValues := by
  intro s
  have unit (w : Wing) : (powerUp s).trunks.units[w] = Trunk.reset := by simp [powerUp, State.reset, Trunks.reset]
  refine ⟨powerUp s, rfl, rfl, rfl, fun seat => ?plan, rfl, fun w p => reset_entryAt ⟨w, p⟩, fun w => ?units, fun seat => ?binding,
    rfl, fun seat => ?seats, rfl, fun n => ?slots, rfl, rfl, rfl, rfl, fun seat => ?locked, fun a => ?accounts, rfl, rfl,
    fun n => ?records, rfl, rfl, rfl, rfl, rfl, rfl⟩
  case plan => simp [powerUp, State.reset, PlanRecord.vacant]
  case units => rw [unit]; exact ⟨rfl, rfl, reset_nextTarget⟩
  case binding => simp [powerUp, State.reset, Trunks.reset]
  case seats => simp [powerUp, State.reset]
  case slots => simp [powerUp, State.reset, Floor.reset]
  case locked => simp [powerUp, State.reset, Floor.reset]
  case accounts => simp [powerUp, State.reset, Allowance.reset, Account.reset]
  case records => simp [powerUp, State.reset, Profiles.reset, Profile.default]

/-- With no unit on any chain, none bound and an empty blocked-unit table, the laws of the trunks hold. -/
theorem reset_trunkLaws : TrunkLaws State.reset := by
  have entryAt (p : Place) : State.reset.trunks.entryAt p = none := reset_entryAt p
  have binding (seat : Seat) : State.reset.trunks.binding[seat] = none := by simp [State.reset, Trunks.reset]
  have blocked : State.reset.trunks.blocked = [] := rfl
  refine ⟨⟨fun seat p => ?_, fun p e h => ?_⟩, ⟨by simp [blocked], fun b => ?_⟩, fun p e seat h => ?_, fun seat h => ?_⟩
  · simp [entryAt, binding]
  · simp [entryAt] at h
  · simp [entryAt, blocked]
  · simp [entryAt] at h
  · simp [State.reset] at h

/-- Settles O54: no slot, no entry, no unit and no chair record, every account at its reset value. -/
theorem resetMeetsTheLaws : Obligations.ResetMeetsTheLaws := by
  have account : Account.reset.lawful := by unfold Account.lawful; decide
  have hold := powerUp_laws State.reset
  have free (n : SlotNo) : State.reset.floor.slots[n] = none := by simp [State.reset, Floor.reset]
  refine ⟨fun a => ?accounts, ?lists, ⟨?queue, ?slotLists, ?oneSlot⟩, ⟨rfl, rfl⟩, fun n a h => ?ranges, hold.hold, hold.cursor,
    hold.chairs, reset_trunkLaws, ⟨fun n a h => ?slotSeats, ?count⟩, ?link, trivial, ?profiles⟩
  case accounts => simpa [State.reset, Allowance.reset] using account
  case lists => simp [ListsLaw, State.reset, Allowance.reset]
  case queue => simp [QueueLaw, State.reset, RequestQueue.reset]
  case slotLists => unfold SlotListsLaw; decide
  case oneSlot => simp [OneSlotLaw, free]
  case ranges => simp [free] at h
  case slotSeats => simp [free] at h
  case count => decide
  case link => unfold LinkLaw; decide
  case profiles => unfold ProfileLaw; decide

end Sys2Proof.Machine
end

section
namespace Sys2Proof.Machine
variable {s t u : State}

/-! ### Notices on a link that queues them -/

/-- A path of notices and changes of the summary, on a link that queues what is posted, leaves the order unit's own stores. -/
theorem linkFrame_of_path (q : Queues s) (p : LinkPath s.link t.link) : LinkFrame s t :=
  ⟨p.stage, p.heldFrame, p.clock, p.mask, p.restart, p.dropped, p.droppedMark, (p.quiet q).2⟩

theorem queues_of_path (q : Queues s) (p : LinkPath s.link t.link) : Queues t := by
  unfold Queues
  rw [p.answer, (p.quiet q).1]
  exact q

/-- A change of the summary posts no notice (R160). -/
theorem noteOwners_notices (q : Queues s) (o : OwnerBits) : (noteOwners o s).link.notices = s.link.notices := by
  unfold noteOwners
  split
  · rfl
  · rw [State.setLink_link, Link.raise_quiet _ q]
    split <;> rfl

@[simp] theorem setBlocked_trunks (b : List BlockedEntry) (s : State) :
    (setBlocked b s).trunks = { s.trunks with blocked := b } := by simp [setBlocked]

theorem setBlocked_notices (q : Queues s) (b : List BlockedEntry) : (setBlocked b s).link.notices = s.link.notices :=
  noteOwners_notices (s := s.setTrunks { s.trunks with blocked := b }) q _

/-- One notice posted after changes that post none. -/
theorem post_posts (q : Queues s) (p : LinkPath s.link u.link) (silent : u.link.notices = s.link.notices) (b : NoticeBody) :
    Posts s (post b u) [b] := by
  intro room
  have room : u.link.notices.length < 32 := by rw [silent]; exact room
  rw [post, State.setLink_link, Link.post_quiet _ _ (queues_of_path q p) room, p.mask, silent, p.clock]
  split <;> simp_all

/-! ### The chain tables and the blocked-unit table -/

theorem units_putEntry (t : Trunks) (p : Place) (e : Option ChainEntry) (w : Wing) : (t.putEntry p e).units[w] =
    if w = p.wing then { t.units[p.wing] with chain := put t.units[p.wing].chain p.pos e } else t.units[w] :=
  put_getElem _ _ _ _

/-- The place of a chain that was rewritten reads as written, every other as before. -/
theorem entryAt_putEntry (t : Trunks) (p q : Place) (e : Option ChainEntry) :
    (t.putEntry p e).entryAt q = if q = p then e else t.entryAt q := by
  have same : q = p ↔ q.wing = p.wing ∧ q.pos = p.pos := by cases q; cases p; simp
  rw [Trunks.entryAt, units_putEntry]
  by_cases hw : q.wing = p.wing
  · rw [if_pos hw]
    exact (put_getElem _ _ _ _).trans (by simp [same, Trunks.entryAt, hw])
  · rw [if_neg hw, if_neg fun e => hw (same.1 e).1]
    rfl

/-- A rewritten place of a chain leaves all else of its trunk. -/
theorem putEntry_chain_only (t : Trunks) (p : Place) (e : Option ChainEntry) (w : Wing) :
    (t.putEntry p e).units[w] = { t.units[w] with chain := (t.putEntry p e).units[w].chain } := by
  rw [units_putEntry]
  split
  · next hw => rw [hw]
  · rfl

@[simp] theorem putEntry_binding (t : Trunks) (p : Place) (e : Option ChainEntry) : (t.putEntry p e).binding = t.binding := rfl
@[simp] theorem putEntry_blocked (t : Trunks) (p : Place) (e : Option ChainEntry) : (t.putEntry p e).blocked = t.blocked := rfl

@[simp] theorem setEntry_trunks (p : Place) (e : Option ChainEntry) (s : State) :
    (setEntry p e s).trunks = s.trunks.putEntry p e := rfl

/-- A state that differs in its link and its trunks alone. -/
theorem eq_with_link_trunks (keeps : Keeps s t) (seats : t.seats = s.seats) (queue : t.queue = s.queue)
    (floor : t.floor = s.floor) : t = { s with link := t.link, trunks := t.trunks } := by
  obtain ⟨pending, held, draws, plan, cursor, allowance, profiles⟩ := keeps
  cases s; cases t
  simp_all

/-! ### A unit becomes BLOCKED (R23, R31) -/

section Blocked
variable (p : Place) (e : ChainEntry) (k : BlockKind)

theorem becomeBlocked_trunks (s : State) : (becomeBlocked p e k s).trunks =
    { s.trunks.putEntry p (some { e with presence := .blocked k }) with
      blocked := s.trunks.blocked ++ [⟨p, e.addr, k⟩] } := by
  simp [becomeBlocked]

theorem becomeBlocked_frame (s : State) : becomeBlocked p e k s =
    { s with link := (becomeBlocked p e k s).link, trunks := (becomeBlocked p e k s).trunks } := by
  obtain ⟨keeps, seats, queue, floor⟩ := becomeBlocked_keeps p e k s
  exact eq_with_link_trunks keeps seats queue floor

theorem becomeBlocked_posts (q : Queues s) : Posts s (becomeBlocked p e k s) [.seatBlocked p e.addr k] := by
  have path : LinkPath s.link (setEntry p (some { e with presence := .blocked k }) s).link := .refl
  unfold becomeBlocked
  exact post_posts q (setBlocked_path _ _ path) (setBlocked_notices (s := setEntry p _ s) q _) _

end Blocked

/-! ### The checks (R23) -/

section Checks
variable {p : Place} {e : ChainEntry} {seat : Seat}

theorem typeFails_iff (c : SeatClass) (unit : UnitType) :
    typeFails c unit = true ↔ (c = .chair ∧ unit = .delegateUnit) ∨ (c = .delegate ∧ unit = .chairUnit) := by
  cases c <;> cases unit <;> decide

/-- The checks of a unit that reports a seat, by the first that fails. -/
theorem checkUnit_eq (addr : e.addr = some seat) : checkUnit s p e =
    (failedCheck s p e.buttons.unitType seat).elim (.ready seat) .blocked := by
  have place (o : Option Place) : (o.any fun l => decide (l ≠ p)) = true ↔ o ≠ none ∧ o ≠ some p := by cases o <;> simp
  simp only [checkUnit, addr, place, typeFails_iff, failedCheck, classOf, placeOf]
  (repeat' split) <;> rfl

theorem checkUnit_ready (addr : e.addr = some seat) (h : failedCheck s p e.buttons.unitType seat = none) :
    checkUnit s p e = .ready seat := by rw [checkUnit_eq addr, h]; rfl

theorem checkUnit_blocked (addr : e.addr = some seat) {k : BlockKind}
    (h : failedCheck s p e.buttons.unitType seat = some k) : checkUnit s p e = .blocked k := by
  rw [checkUnit_eq addr, h]; rfl

end Checks

/-! ### The re-check of the units of a seat (R12, R28) -/

section Recheck
variable {p : Place} {e : ChainEntry} {seat : Seat}

theorem heldSlot_eq (s : State) (seat : Seat) : heldSlot s seat = holdsSlot s seat := by
  rw [Bool.eq_iff_iff, heldSlot, holdsSlot, Floor.slotOf, List.find?_isSome, List.any_eq_true]

/-- A seat that is left has its binding taken off, and of the trunks nothing else (R26, R29). -/
theorem leaveSeat_trunks (seat : Seat) (c : CloseReason) (l : LeaveReason) (s : State) :
    (leaveSeat seat c l s).trunks = s.trunks.bind seat none := by
  unfold leaveSeat; dsimp only; split <;> simp

theorem recheckBound_unbound (h : s.trunks.binding[seat] = none) : recheckBound seat s = s := by
  simp only [recheckBound, placeOf, h]

theorem recheckBound_passes (bound : s.trunks.binding[seat] = some p) (unit : s.trunks.entryAt p = some e)
    (addr : e.addr = some seat) (h : failedCheck s p e.buttons.unitType seat = none) : recheckBound seat s = s := by
  simp only [recheckBound, placeOf, bound, unit, checkUnit_ready addr h]

/-- A bound unit that fails a check leaves its seat and becomes BLOCKED, the advance check of its close coming last (R28, R29). -/
theorem recheckBound_fails (bound : s.trunks.binding[seat] = some p) (unit : s.trunks.entryAt p = some e)
    (addr : e.addr = some seat) {k : BlockKind} (h : failedCheck s p e.buttons.unitType seat = some k) :
    recheckBound seat s = deferredAdvance (heldSlot s seat) (becomeBlocked p e k (leaveSeat seat .plan .plan s)) := by
  have kept : (leaveSeat seat .plan .plan s).trunks.entryAt p = some e := by rw [leaveSeat_trunks]; exact unit
  simp only [recheckBound, placeOf, bound, unit, checkUnit_blocked addr h, kept, heldSlot_eq, Option.getD_some]

end Recheck

section RecheckBlocked
variable {b : BlockedEntry} {e : ChainEntry} {seat : Seat}

/-- A blocked unit that passes becomes READY and bound and leaves the table (R28). -/
theorem recheckBlocked_passes (unit : s.trunks.entryAt b.place = some e) (addr : e.addr = some seat)
    (h : failedCheck s b.place e.buttons.unitType seat = none) :
    recheckBlocked s b = post (.seatReady b.place seat e.buttons.unitType) (leaveBlocked b.place (s.setTrunks
      ((s.trunks.putEntry b.place (some { e with presence := .ready, refusal := 0 })).bind seat (some b.place)))) := by
  simp only [recheckBlocked, unit, checkUnit_ready addr h]

/-- A blocked unit that fails as before stays as it is (R28). -/
theorem recheckBlocked_same (unit : s.trunks.entryAt b.place = some e) (addr : e.addr = some seat)
    (was : e.presence = .blocked b.kind) (h : failedCheck s b.place e.buttons.unitType seat = some b.kind) :
    recheckBlocked s b = s := by
  simp only [recheckBlocked, unit, checkUnit_blocked addr h, was, if_true]

/-- A blocked unit that fails another check takes its kind, in the table too (R28). -/
theorem recheckBlocked_other (unit : s.trunks.entryAt b.place = some e) (addr : e.addr = some seat)
    (was : e.presence = .blocked b.kind) {k : BlockKind} (h : failedCheck s b.place e.buttons.unitType seat = some k)
    (other : k ≠ b.kind) :
    recheckBlocked s b = post (.seatBlocked b.place e.addr k)
      (setBlocked (s.trunks.blocked.map fun x => if x.place = b.place then { x with kind := k } else x)
        (setEntry b.place (some { e with presence := .blocked k }) s)) := by
  have ne : e.presence ≠ .blocked k := by rw [was]; exact fun same => other (Presence.blocked.inj same).symm
  simp only [recheckBlocked, unit, checkUnit_blocked addr h, if_neg ne]
  rfl

theorem recheckBlocked_frame (s : State) (b : BlockedEntry) : recheckBlocked s b =
    { s with link := (recheckBlocked s b).link, trunks := (recheckBlocked s b).trunks } := by
  obtain ⟨keeps, seats, queue, floor⟩ := recheckBlocked_keeps s b
  exact eq_with_link_trunks keeps seats queue floor

end RecheckBlocked

end Sys2Proof.Machine
end

section
namespace Sys2Proof.Machine
variable {s t u : State}

/-- A re-check with no bound unit and no blocked unit to take changes nothing (R12). -/
theorem recheckSeat_nobody {seat : Seat} (unbound : s.trunks.binding[seat] = none)
    (nobody : ∀ b ∈ s.trunks.blocked, b.addr ≠ some seat) : recheckSeat seat s = s := by
  have none : (s.trunks.blocked.filter fun b => b.addr == some seat) = [] :=
    List.filter_eq_nil_iff.2 fun b hb => by simpa using nobody b hb
  rw [recheckSeat, none, recheckBound_unbound unbound]
  rfl

/-- With the class kept, nothing is asked (R13, R14). -/
theorem classRequests_same (seat : Seat) (c : SeatClass) (s : State) : classRequests seat c c s = s := by
  unfold classRequests
  rw [if_pos rfl]

/-- Written with its class kept and no unit to re-check, a record asks nothing of the other units (R12 to R14). -/
theorem writePlan_nobody {seat : Seat} {r : PlanRecord} (same : r.cls = classOf s seat)
    (unbound : s.trunks.binding[seat] = none) (nobody : ∀ b ∈ s.trunks.blocked, b.addr ≠ some seat) :
    writePlan seat r s = (s.setPlan (put s.plan seat r)).setCursor { s.cursor with index := seat.succ } := by
  have silent := recheckSeat_nobody (s := (s.setPlan (put s.plan seat r)).setCursor { s.cursor with index := seat.succ })
    unbound nobody
  rw [writePlan, silent, same, classRequests_same]

/-- What the re-check makes of a blocked unit that takes another presence `r`: the trunks as `trunks`, one notice. -/
theorem recheckBlocked_becomes {b : BlockedEntry} {r : ChainEntry} {body : NoticeBody} {v : State}
    (eq : recheckBlocked s b = post body v) (q : Queues s) (path : LinkPath s.link v.link)
    (silent : v.link.notices = s.link.notices)
    (place : ∃ binding blocked, v.trunks =
      { s.trunks.putEntry b.place (some r) with binding := binding, blocked := blocked }) :
    (recheckBlocked s b = { s with link := (recheckBlocked s b).link, trunks := (recheckBlocked s b).trunks } ∧
      LinkFrame s (recheckBlocked s b) ∧
      (∀ p : Place, (recheckBlocked s b).trunks.entryAt p = if p = b.place then some r else s.trunks.entryAt p) ∧
      ∀ w : Wing, (recheckBlocked s b).trunks.units[w] =
        { s.trunks.units[w] with chain := (recheckBlocked s b).trunks.units[w].chain }) ∧
      Posts s (recheckBlocked s b) [body] := by
  have trunks : (recheckBlocked s b).trunks = v.trunks := by rw [eq]; simp
  obtain ⟨binding, blocked, hv⟩ := place
  refine ⟨⟨recheckBlocked_frame s b, ?_, fun p => ?_, fun w => ?_⟩, ?_⟩
  · rw [eq]; exact linkFrame_of_path q (post_path _ _ path)
  · rw [trunks, hv]; exact entryAt_putEntry s.trunks b.place p (some r)
  · rw [trunks, hv]; exact putEntry_chain_only s.trunks b.place (some r) w
  · rw [eq]; exact post_posts q path silent body

/-- Settles O18: the write with its answer, then the re-check of the bound unit and of each blocked unit by its first failing
check. -/
theorem planPutWritesTheRecord : Obligations.PlanPutWritesTheRecord := by
  refine ⟨fun cls w p d v seat r s h hd hi carries limit => ?put, fun seat s => ⟨?order, recheckBound_unbound,
    fun p e bound unit addr => ⟨recheckBound_passes bound unit addr, fun k fails => ?fails⟩⟩,
    fun b e seat s q unit addr reports was => ?blocked⟩
  case put =>
    have hr := planRecordOf_carried carries
    obtain ⟨taken, answer, frame⟩ := planPut_taken h hd hi hr limit
    have plan : (answered 0x09 .ok (seatBytes seat) (writePlan seat r (oweAnswer s))).plan = put s.plan seat r := by
      simp [answered]
    refine ⟨⟨_, taken, answer, ?_, fun i other => ?_, ?_, ?_, ?_, ?_, frame⟩, taken, fun same unbound nobody => ?_⟩
    · rw [plan, put_getElem_self]
    · rw [plan, put_getElem_ne _ _ other]
    · simp [answered]
    · simp [answered]
    · simp [answered]
    · simp [answered]
    · have ok := takePlanPut_ok (s := oweAnswer s) hd hi hr limit
      rw [writePlan_nobody (s := oweAnswer s) same unbound nobody] at ok
      exact submit_ok rfl (by simp) h ok rfl
  case order => simp [recheckSeat, beq_eq_decide]
  case fails =>
    intro left shut
    have trunks : left.trunks = s.trunks.bind seat none := leaveSeat_trunks seat .plan .plan s
    refine ⟨recheckBound_fails bound unit addr fails, trunks, fun q => ?_⟩
    have path : LinkPath left.link shut.link := becomeBlocked_path p e k left .refl
    have ql : Queues left := queues_of_path q (leaveSeat_path seat .plan .plan s .refl)
    have shutTrunks := becomeBlocked_trunks p e k left
    refine ⟨becomeBlocked_frame p e k left, linkFrame_of_path ql path, ?_, ?_, fun p' => ?_, ?_⟩
    · rw [shutTrunks]; rfl
    · rw [shutTrunks, trunks, addr]; rfl
    · rw [shutTrunks, trunks]; exact entryAt_putEntry (s.trunks.bind seat none) p p' _
    · rw [← addr]; exact becomeBlocked_posts p e k ql
  case blocked =>
    intro t check becomes
    refine ⟨fun passes => ?_, fun same => recheckBlocked_same unit addr was same, fun k fails other => ?_⟩
    · have queues (x : Trunks) : Queues (s.setTrunks x) := q
      have eq := recheckBlocked_passes unit addr passes
      obtain ⟨becomes, posts⟩ := recheckBlocked_becomes eq q (leaveBlocked_path _ (s.setTrunks _) .refl)
        (setBlocked_notices (queues _) _) ⟨_, _, setBlocked_trunks _ _⟩
      have trunks := congrArg State.trunks eq
      exact ⟨becomes, by simp [t, trunks, leaveBlocked, Trunks.bind], by simp [t, trunks, leaveBlocked, Trunks.bind], posts⟩
    · have eq := recheckBlocked_other unit addr was fails other
      obtain ⟨becomes, posts⟩ := recheckBlocked_becomes eq q (setBlocked_path _ (setEntry _ _ s) .refl)
        (setBlocked_notices (s := setEntry _ _ s) q _) ⟨_, _, setBlocked_trunks _ _⟩
      have trunks := congrArg State.trunks eq
      exact ⟨becomes, by simp [t, trunks], by simp [t, trunks], addr ▸ posts⟩

end Sys2Proof.Machine
end

section
namespace Sys2Proof.Machine
variable {s t : State}

/-! ### The queue as entries leave it -/

@[simp] theorem takeOut_entries (seat : Seat) (r : LeaveReason) (s : State) :
    (takeOut seat r s).queue.entries = dropEntry seat s.queue.entries := by
  unfold takeOut
  split
  · next none => exact (List.eraseP_of_forall_not fun e he => List.find?_eq_none.1 none e he).symm
  · simp [setEntries]

theorem dropEntry_sublist (seat : Seat) (es : List QueueEntry) : (dropEntry seat es).Sublist es := List.eraseP_sublist

theorem endDrain_entries (s : State) : (endDrain s).queue.entries.Sublist s.queue.entries := by
  have skipped := foldl_inv (fun u => u.queue.entries.Sublist s.queue.entries) skipEntry
    (fun u e h => by simpa [skipEntry] using (dropEntry_sublist _ _).trans h) s.queue.entries s (.refl _)
  simpa [endDrain, setList] using skipped

/-- A drain end test only takes entries off the queue (R150, R151). -/
theorem drainEndTest_entries (s : State) : (drainEndTest s).queue.entries.Sublist s.queue.entries := by
  unfold drainEndTest
  split
  · exact endDrain_entries s
  · exact .refl _

theorem leaveQueue_entries (seat : Seat) (r : LeaveReason) (s : State) :
    (leaveQueue seat r s).queue.entries.Sublist (dropEntry seat s.queue.entries) := by
  unfold leaveQueue
  split
  · exact (drainEndTest_entries _).trans (by simp)
  · next none =>
    rw [dropEntry, List.eraseP_of_forall_not]
    intro e he hs
    exact none (List.find?_isSome.2 ⟨e, he, hs⟩)

theorem openSlot_entries (seat : Seat) (o : Origin) (g : Bool) (s : State) :
    (openSlot seat o g s).queue.entries.Sublist s.queue.entries := by
  unfold openSlot
  split
  · exact .refl _
  · split
    · exact (drainEndTest_entries _).trans (by simpa using dropEntry_sublist seat _)
    · simp

/-! ### What a seat that is not a DELEGATE still has -/

/-- What a seat of a class other than DELEGATE may still have on the floor and in the queue: the slot `slot` and no other, at
most `most` entries, and reply bindings to it only if `bound`. No request of a PLAN PUT gives the seat more. -/
structure SeatBounds (seat : Seat) (slot : Option SlotNo) (most : Nat) (bound : Prop) (s : State) : Prop where
  cls : classOf s seat ≠ .delegate
  slots : ∀ (n : SlotNo) (a : Slot), s.floor.slots[n] = some a → a.seat = seat → slot = some n
  entries : (s.queue.entries.countP fun e => e.seat == seat) ≤ most
  targets : ∀ e ∈ s.queue.entries, e.target = some seat → bound

variable {seat : Seat} {slot : Option SlotNo} {most : Nat} {bound : Prop}

/-- The bounds stay where the plan stays, no slot of the seat is added, and entries at most leave. -/
theorem SeatBounds.of_less (h : SeatBounds seat slot most bound s) (plan : t.plan = s.plan)
    (slots : ∀ (n : SlotNo) (a : Slot), t.floor.slots[n] = some a → a.seat = seat → slot = some n)
    (less : t.queue.entries.Sublist s.queue.entries) : SeatBounds seat slot most bound t where
  cls := by rw [classOf, plan]; exact h.cls
  slots := slots
  entries := (less.countP_le).trans h.entries
  targets e he := h.targets e (less.subset he)

/-- The bounds speak of nothing but the plan, the slots and the queue. -/
theorem SeatBounds.of_same (h : SeatBounds seat slot most bound s) (plan : t.plan = s.plan)
    (slots : t.floor.slots = s.floor.slots) (queue : t.queue = s.queue) : SeatBounds seat slot most bound t :=
  h.of_less plan (by rw [slots]; exact h.slots) (by rw [queue])

/-- Entries changed in place keep their seats, and none comes to be bound to the seat. -/
theorem SeatBounds.of_mapped (h : SeatBounds seat slot most bound s) {g : QueueEntry → QueueEntry}
    (seats : ∀ e, (g e).seat = e.seat) {now : Prop} (targets : ∀ e ∈ s.queue.entries, (g e).target = some seat → now) :
    SeatBounds seat slot most now (s.setQueue { s.queue with entries := s.queue.entries.map g }) where
  cls := h.cls
  slots := h.slots
  entries := by
    have count : ((s.queue.entries.map g).countP fun e => e.seat == seat) = s.queue.entries.countP fun e => e.seat == seat := by
      simp [List.countP_map, Function.comp_def, seats]
    exact count ▸ h.entries
  targets e he := by
    obtain ⟨d, hd, rfl⟩ := List.mem_map.1 he
    exact targets d hd

theorem drainEndTest_bounds (h : SeatBounds seat slot most bound s) : SeatBounds seat slot most bound (drainEndTest s) :=
  h.of_less (by simp) (by simpa using h.slots) (drainEndTest_entries s)

theorem leaveQueue_bounds (h : SeatBounds seat slot most bound s) (x : Seat) (r : LeaveReason) :
    SeatBounds seat slot most bound (leaveQueue x r s) :=
  h.of_less (by simp) (by simpa using h.slots) ((leaveQueue_entries x r s).trans (dropEntry_sublist x _))

/-- The opening path gives its slot to its own seat (R81). -/
theorem openSlot_bounds (h : SeatBounds seat slot most bound s) {x : Seat} (other : x ≠ seat) (o : Origin) (g : Bool) :
    SeatBounds seat slot most bound (openSlot x o g s) := by
  refine h.of_less (by simp) (fun n a ha hs => ?_) (openSlot_entries x o g s)
  cases hf : s.floor.free with
  | nil => rw [openSlot_of_full _ _ _ hf] at ha; exact h.slots n a ha hs
  | cons m rest =>
    rw [openSlot_floor _ _ _ hf, floorOpening, put_getElem] at ha
    split at ha
    · obtain rfl := Option.some.inj ha
      exact absurd hs other
    · exact h.slots n a ha hs

/-- What the advance check grants is the entry of a DELEGATE seat (R61, R90). -/
theorem nextToAdvance_delegate {e : QueueEntry} (h : nextToAdvance s = some e) : classOf s e.seat = .delegate := by
  have eligible : isEligible s e = true := List.find?_some (nextToAdvance_some h).2.2
  by_contra other
  simp [isEligible, eligibility, other] at eligible

theorem advance_bounds (h : SeatBounds seat slot most bound s) (k : Nat) : SeatBounds seat slot most bound (advance k s) := by
  induction k generalizing s with
  | zero => exact h
  | succ k ih =>
    unfold advance
    split
    · exact h
    · next e granted =>
      have other : e.seat ≠ seat := by
        rintro rfl
        exact h.cls (nextToAdvance_delegate granted)
      exact ih (openSlot_bounds h other _ _)

theorem advanceCheck_bounds (h : SeatBounds seat slot most bound s) : SeatBounds seat slot most bound (advanceCheck s) :=
  advance_bounds h 8

theorem tellClose_bounds (h : SeatBounds seat slot most bound s) (x : Seat) :
    SeatBounds seat slot most bound (tellClose x s) := by
  refine drainEndTest_bounds (h.of_mapped (fun e => ?_) fun e he ht => h.targets e he ?_)
  · unfold hearEntry; split <;> rfl
  · unfold hearEntry at ht; split at ht <;> exact ht

theorem closeSlot_bounds (h : SeatBounds seat slot most bound s) (n : SlotNo) (r : CloseReason) :
    SeatBounds seat slot most bound (closeSlot n r s) := by
  unfold closeSlot
  split
  · exact h
  · refine tellClose_bounds (h.of_less (by simp) (fun m a ha hs => ?_) (by simp)) _
    simp only [post_keeps, State.setFloor_floor, put_getElem] at ha
    split at ha
    · cases ha
    · exact h.slots m a ha hs

theorem closeSeatQuiet_bounds (h : SeatBounds seat slot most bound s) (x : Seat) (r : CloseReason) :
    SeatBounds seat slot most bound (closeSeatQuiet x r s) := by
  unfold closeSeatQuiet
  split
  · exact h
  · exact closeSlot_bounds h _ _

/-- A drop request, by what it leaves of the bindings to the seat (R69). -/
theorem dropBindings_of (h : SeatBounds seat slot most bound s) (x : Seat) (d : Bool) {now : Prop}
    (targets : ∀ e ∈ s.queue.entries, (unbindEntry x e).target = some seat → now) :
    SeatBounds seat slot most now (dropBindings x d s) := by
  have unbound : SeatBounds seat slot most now
      (drainEndTest (s.setQueue { s.queue with entries := s.queue.entries.map (unbindEntry x) })) :=
    drainEndTest_bounds (h.of_mapped (fun e => by unfold unbindEntry; split <;> rfl) targets)
  unfold dropBindings; dsimp only
  split
  · next nobody =>
    refine ⟨h.cls, h.slots, h.entries, fun e he ht => targets e he ?_⟩
    have other : e.target ≠ some x := by simpa using List.filter_eq_nil_iff.1 (List.isEmpty_iff.1 nobody) e he
    rwa [unbindEntry, if_neg other]
  · split
    · exact advanceCheck_bounds unbound
    · exact unbound

theorem dropBindings_bounds (h : SeatBounds seat slot most bound s) (x : Seat) (d : Bool) :
    SeatBounds seat slot most bound (dropBindings x d s) :=
  dropBindings_of h x d fun e he ht => h.targets e he (by
    unfold unbindEntry at ht
    split at ht
    · cases ht
    · exact ht)

/-! ### The three requests of a seat that leaves class DELEGATE (R13) -/

theorem slotOf_some {f : Floor} {n : SlotNo} (h : f.slotOf seat = some n) : ∃ a, f.slots[n] = some a ∧ a.seat = seat := by
  simpa [Option.any_eq_true] using List.find?_some h

theorem slotOf_none {f : Floor} (h : f.slotOf seat = none) {n : SlotNo} {a : Slot} (ha : f.slots[n] = some a) :
    a.seat ≠ seat := fun hs =>
  List.find?_eq_none.1 h n (List.mem_finRange n) (by simp [ha, hs])

/-- With its one slot closed the seat has none (R82, R83). -/
theorem closeSeat_none (h : SeatBounds seat slot most bound s) (r : CloseReason) :
    SeatBounds seat none most bound (closeSeat seat r s) := by
  unfold closeSeat
  split
  · next none =>
    exact ⟨h.cls, fun n a ha hs => absurd hs (slotOf_none none ha), h.entries, h.targets⟩
  · next n found =>
    have closed := closeSlot_bounds h n r
    refine advanceCheck_bounds ⟨closed.cls, fun m a ha hs => ?_, closed.entries, closed.targets⟩
    obtain ⟨b, hb, hbs⟩ := slotOf_some found
    obtain rfl : n = m := Option.some.inj ((h.slots n b hb hbs).symm.trans (closed.slots m a ha hs))
    simp [closeSlot_floor, hb, floorClosing] at ha

theorem dropEntry_count {es : List QueueEntry} (one : (es.countP fun e => e.seat == seat) ≤ 1) :
    ((dropEntry seat es).countP fun e => e.seat == seat) = 0 := by
  by_cases has : ∃ e ∈ es, (e.seat == seat) = true
  · obtain ⟨e, he, hs⟩ := has
    obtain ⟨a, front, back, -, ha, eq, dropped⟩ := List.exists_of_eraseP (p := fun e => e.seat == seat) he hs
    rw [eq, List.countP_append, List.countP_cons_of_pos (p := fun e : QueueEntry => e.seat == seat) ha] at one
    rw [dropEntry, dropped, List.countP_append]
    omega
  · exact List.countP_eq_zero.2 fun e he hs => has ⟨e, (dropEntry_sublist seat es).subset he, hs⟩

/-- With its one entry taken out the seat has none (R58, R70). -/
theorem leaveQueue_none (h : SeatBounds seat slot 1 bound s) (r : LeaveReason) :
    SeatBounds seat slot 0 bound (leaveQueue seat r s) :=
  have kept := leaveQueue_bounds h seat r
  ⟨kept.cls, kept.slots, (leaveQueue_entries seat r s).countP_le.trans (dropEntry_count h.entries).le, kept.targets⟩

/-- After a drop request no entry is bound to the seat (R69). -/
theorem dropBindings_none (h : SeatBounds seat slot most bound s) (d : Bool) :
    SeatBounds seat slot most False (dropBindings seat d s) :=
  dropBindings_of h seat d fun e _ ht => by
    unfold unbindEntry at ht
    split at ht
    · cases ht
    · contradiction

end Sys2Proof.Machine
end

section
namespace Sys2Proof.Machine
variable {s t : State} {seat : Seat} {slot : Option SlotNo} {most : Nat} {bound : Prop}

/-! ### The withdrawal of a chair and the re-check, within the bounds of a seat -/

theorem setChairs_bounds (h : SeatBounds seat slot most bound s) (cs : List ChairRecord) :
    SeatBounds seat slot most bound (setChairs cs s) := h.of_same (by simp) (by rw [setChairs_floor]) (by simp)

theorem post_bounds (h : SeatBounds seat slot most bound s) (b : NoticeBody) :
    SeatBounds seat slot most bound (post b s) := h.of_same (by simp) (by simp) (by simp)

theorem openChair_bounds (h : SeatBounds seat slot most bound s) (x : Seat) :
    SeatBounds seat slot most bound (openChair x s) :=
  have opened := setChairs_bounds h
    (mapChairs x (fun c => { c with micOpen := true, softMuted := false, strikes := 0 }) s.floor.chairs)
  post_bounds (opened.of_same (by simp) (by simp) (by simp)) _

theorem closeChair_bounds (h : SeatBounds seat slot most bound s) (x : Seat) :
    SeatBounds seat slot most bound (closeChair x s) := post_bounds (setChairs_bounds h _) _

theorem releaseChair_bounds (h : SeatBounds seat slot most bound s) (x : Seat) :
    SeatBounds seat slot most bound (releaseChair s x) := by
  unfold releaseChair
  (repeat' split) <;> simp only [h, openChair_bounds, closeChair_bounds]

theorem unmuteSlot_bounds (h : SeatBounds seat slot most bound s) (n : SlotNo) :
    SeatBounds seat slot most bound (unmuteSlot s n) := by
  refine h.of_less (by simp) (fun m a ha hs => ?_) (by simp)
  rw [unmuteSlot_floor, Floor.mapSlot, put_getElem] at ha
  split at ha
  · next same =>
    subst same
    obtain ⟨b, hb, rfl⟩ := Option.map_eq_some_iff.1 ha
    refine h.slots m b hb ?_
    split at hs <;> exact hs
  · exact h.slots m a ha hs

/-- What each step of a fold keeps within the bounds, the fold keeps within them. -/
theorem foldl_bounds {α : Type} {g : State → α → State}
    (hg : ∀ (s : State) (a : α), SeatBounds seat slot most bound s → SeatBounds seat slot most bound (g s a)) (l : List α)
    (h : SeatBounds seat slot most bound s) : SeatBounds seat slot most bound (l.foldl g s) :=
  foldl_inv (SeatBounds seat slot most bound) g hg l s h

theorem endHold_bounds (h : SeatBounds seat slot most bound s) (x : Seat) :
    SeatBounds seat slot most bound (endHold x s) :=
  advanceCheck_bounds (foldl_bounds (fun _ _ h => releaseChair_bounds h _) _
    (foldl_bounds (fun _ _ h => unmuteSlot_bounds h _) _ (post_bounds h _)))

theorem lowerHold_bounds (h : SeatBounds seat slot most bound s) (x : Seat) :
    SeatBounds seat slot most bound (lowerHold x s) := by
  have lowered : SeatBounds seat slot most bound (setHeld x false s) := setChairs_bounds h _
  unfold lowerHold; dsimp only
  (repeat' split) <;> simp only [h, lowered, endHold_bounds]

theorem withdrawChair_bounds (h : SeatBounds seat slot most bound s) (x : Seat) :
    SeatBounds seat slot most bound (withdrawChair x s) := by
  unfold withdrawChair
  split
  · exact h
  · refine lowerHold_bounds (setChairs_bounds ?_ _) _
    split
    · exact closeChair_bounds h x
    · exact h

theorem leaveSeat_bounds (h : SeatBounds seat slot most bound s) (x : Seat) (c : CloseReason) (l : LeaveReason) :
    SeatBounds seat slot most bound (leaveSeat x c l s) := by
  have forgotten : SeatBounds seat slot most bound (forgetSeat x (s.setTrunks (s.trunks.bind x none))) :=
    h.of_same (by simp) (by simp) (by simp)
  have dropped (b : Bool) := dropBindings_bounds (leaveQueue_bounds (closeSeatQuiet_bounds forgotten x c) x l) x b
  unfold leaveSeat; dsimp only
  split
  · exact withdrawChair_bounds (dropped _) x
  · exact dropped _

theorem recheckBound_bounds (h : SeatBounds seat slot most bound s) (x : Seat) :
    SeatBounds seat slot most bound (recheckBound x s) := by
  have blocked (p : Place) (e : ChainEntry) (k : BlockKind) :
      SeatBounds seat slot most bound (becomeBlocked p e k (leaveSeat x .plan .plan s)) :=
    (leaveSeat_bounds h x .plan .plan).of_same (by simp) (by simp) (by simp)
  unfold recheckBound deferredAdvance; dsimp only
  (repeat' split) <;> simp only [h, blocked, advanceCheck_bounds]

theorem recheckSeat_bounds (h : SeatBounds seat slot most bound s) (x : Seat) :
    SeatBounds seat slot most bound (recheckSeat x s) :=
  foldl_bounds (fun _ _ h => h.of_same (by simp) (by simp) (by simp)) _ (recheckBound_bounds h x)

/-! ### A seat that leaves class DELEGATE (R13) -/

/-- Where a written class other than DELEGATE leaves the laws of the queue and the slots, the seat has one slot and one entry. -/
theorem bounds_of_laws (cls : classOf s seat ≠ .delegate) (queue : QueueLaw s) (slots : OneSlotLaw s) :
    SeatBounds seat (s.floor.slotOf seat) 1 True s where
  cls := cls
  slots n a ha hs := by
    cases held : s.floor.slotOf seat with
    | none => exact absurd hs (slotOf_none held ha)
    | some m =>
      obtain ⟨b, hb, hbs⟩ := slotOf_some held
      rw [slots.1 m n b a hb ha (hbs.trans hs.symm)]
  entries := by
    have one := List.nodup_iff_count_le_one.1 queue.2.1 seat
    rwa [List.count_eq_countP, List.countP_map] at one
  targets _ _ _ := trivial

/-- What is left of a seat after the requests of R13: nothing. -/
abbrev GivenUp (seat : Seat) (s : State) : Prop := SeatBounds seat none 0 False s

theorem GivenUp.noSlot (h : GivenUp seat s) (n : SlotNo) (a : Slot) (ha : s.floor.slots[n] = some a) : a.seat ≠ seat :=
  fun hs => by cases h.slots n a ha hs

theorem GivenUp.noEntry (h : GivenUp seat s) : ∀ e ∈ s.queue.entries, e.seat ≠ seat ∧ e.target ≠ some seat := fun e he =>
  ⟨by simpa using List.countP_eq_zero.1 (Nat.le_zero.1 h.entries) e he, h.targets e he⟩

theorem dropped_givenUp (h : SeatBounds seat slot 1 True s) :
    GivenUp seat (dropBindings seat false (leaveQueue seat .plan (closeSeat seat .plan s))) :=
  dropBindings_none (leaveQueue_none (closeSeat_none h _) _) _

theorem leaveDelegate_givenUp (h : SeatBounds seat slot 1 True s) (now : SeatClass) : GivenUp seat (leaveDelegate seat now s) := by
  have dropped := dropped_givenUp h
  unfold leaveDelegate; dsimp only
  split
  · exact dropped.of_same (by simp) (by simp [setLocked]) (by simp)
  · exact dropped

end Sys2Proof.Machine
end

section
namespace Sys2Proof.Machine
variable {s t : State} {seat : Seat} {slot : Option SlotNo} {most : Nat} {bound : Prop}

/-! ### The chair records through the closes, the re-check and a change of class -/

@[simp] theorem closeSlot_chairs (n : SlotNo) (r : CloseReason) (s : State) :
    (closeSlot n r s).floor.chairs = s.floor.chairs := by
  rw [closeSlot_floor]
  split <;> rfl

@[simp] theorem closeSeatQuiet_chairs (x : Seat) (r : CloseReason) (s : State) :
    (closeSeatQuiet x r s).floor.chairs = s.floor.chairs := by
  unfold closeSeatQuiet; split <;> simp

@[simp] theorem closeSeat_chairs (x : Seat) (r : CloseReason) (s : State) :
    (closeSeat x r s).floor.chairs = s.floor.chairs := by
  unfold closeSeat; split <;> simp

@[simp] theorem dropBindings_chairs (x : Seat) (d : Bool) (s : State) :
    (dropBindings x d s).floor.chairs = s.floor.chairs := by
  unfold dropBindings; dsimp only; (repeat' split) <;> simp

/-- The unit of a seat that is no CHAIR leaves the chair records as they were (R29). -/
theorem leaveSeat_chairs (cls : classOf s seat ≠ .chair) (c : CloseReason) (l : LeaveReason) :
    (leaveSeat seat c l s).floor.chairs = s.floor.chairs := by
  unfold leaveSeat; dsimp only
  rw [if_neg]
  · simp
  · simpa [classOf] using cls

theorem recheckBound_chairs (cls : classOf s seat ≠ .chair) : (recheckBound seat s).floor.chairs = s.floor.chairs := by
  unfold recheckBound deferredAdvance; dsimp only
  (repeat' split) <;> simp [leaveSeat_chairs cls]

theorem recheckSeat_chairs (cls : classOf s seat ≠ .chair) : (recheckSeat seat s).floor.chairs = s.floor.chairs :=
  (foldl_keeps (fun s => s.floor.chairs) recheckBlocked (by simp) _ _).trans (recheckBound_chairs cls)

/-- Chair records rewritten with the hold count kept change nothing beside themselves (R92). -/
theorem setChairs_eq {cs : List ChairRecord} (count : cs.countP (·.held) = s.floor.chairs.countP (·.held)) :
    setChairs cs s = s.setFloor { s.floor with chairs := cs } := by
  have hold : holdCount (s.setFloor { s.floor with chairs := cs }) = holdCount s := count
  rw [setChairs, noteOwners, if_pos]
  simp [ownerBits, hold]

/-- A chair record added among chairs in order of seat goes to its place (R91). -/
theorem insertChair_sorted {cs : List ChairRecord} (sorted : cs.Pairwise fun a b => a.seat < b.seat)
    (absent : ∀ c ∈ cs, c.seat ≠ seat) : insertChair (ChairRecord.added seat) cs =
      (cs.filter fun c => c.seat < seat) ++ ChairRecord.added seat :: cs.filter fun c => seat < c.seat := by
  have above : cs.filter (fun c => decide (seat ≤ c.seat)) = cs.filter fun c => decide (seat < c.seat) :=
    List.filter_congr fun c hc => by simp [lt_iff_le_and_ne, (absent c hc).symm]
  obtain ⟨before, after⟩ := takeWhile_lt_sorted ChairRecord.seat sorted seat
  rw [insertChair, ← above, ← before, ← after]
  rfl

theorem addChair_eq (sorted : s.floor.chairs.Pairwise fun a b => a.seat < b.seat)
    (absent : ∀ c ∈ s.floor.chairs, c.seat ≠ seat) : addChair seat s = s.setFloor { s.floor with
      chairs := (s.floor.chairs.filter fun c => c.seat < seat) ++ ChairRecord.added seat ::
        s.floor.chairs.filter fun c => seat < c.seat } := by
  rw [addChair, setChairs_eq (insertChair_count seat _), insertChair_sorted sorted absent]

/-! ### What a change of class asks (R13, R14) -/

theorem classRequests_idle {before now : SeatClass} (idle : before = .vacant ∨ before = .listener) :
    classRequests seat before now s = if now = .chair then addChair seat s else s := by
  unfold classRequests
  split
  · next same =>
    subst same
    rcases idle with rfl | rfl <;> simp
  · rcases idle with rfl | rfl <;> rfl

theorem leaveDelegate_chair (seat : Seat) (s : State) : leaveDelegate seat .chair s =
    dropBindings seat false (leaveQueue seat .plan (closeSeat seat .plan s)) := by simp [leaveDelegate]

theorem leaveDelegate_idle {now : SeatClass} (idle : now = .vacant ∨ now = .listener) : leaveDelegate seat now s =
    setLocked seat false (dropBindings seat false (leaveQueue seat .plan (closeSeat seat .plan s))) := by
  simp [leaveDelegate, idle]

theorem classRequests_delegate_chair (seat : Seat) (s : State) :
    classRequests seat .delegate .chair s = addChair seat (leaveDelegate seat .chair s) := by simp [classRequests]

theorem classRequests_delegate_idle {now : SeatClass} (idle : now = .vacant ∨ now = .listener) :
    classRequests seat .delegate now s = leaveDelegate seat now s := by
  rcases idle with rfl | rfl <;> simp [classRequests]

theorem classRequests_chair {now : SeatClass} (h : now ≠ .chair) :
    classRequests seat .chair now s = leaveChair seat now s := by simp [classRequests, h, h.symm]

/-- A withdrawn chair leaves no hold behind, so its record goes without a further change (R14, R91). -/
theorem leaveChair_eq (nodup : (s.floor.chairs.map (·.seat)).Nodup) {now : SeatClass} (h : now ≠ .chair) :
    leaveChair seat now s = (withdrawChair seat s).setFloor { (withdrawChair seat s).floor with
      chairs := (withdrawChair seat s).floor.chairs.filter fun c => c.seat ≠ seat
      locked := if now = .delegate then (withdrawChair seat s).floor.locked
        else put (withdrawChair seat s).floor.locked seat false } := by
  unfold leaveChair; dsimp only
  rw [setChairs_eq (removeChairs_count (withdrawChair_unheld nodup seat))]
  cases now with
  | chair => exact absurd rfl h
  | vacant => rfl
  | listener => rfl
  | delegate => rfl

/-- A class that is none of the other two of VACANT and LISTENER, DELEGATE and CHAIR is the third. -/
theorem SeatClass.idle_of_ne {c : SeatClass} (delegate : c ≠ .delegate) (chair : c ≠ .chair) : c = .vacant ∨ c = .listener := by
  cases c <;> simp_all

/-- A seat that leaves class DELEGATE has given up the floor once the requests are made, is unlocked unless it becomes CHAIR, and
has a closed chair microphone if it does (R13, R14). -/
theorem classRequests_givesUp (h : SeatBounds seat slot 1 True s) {now : SeatClass} (leaves : now ≠ .delegate) :
    GivenUp seat (classRequests seat .delegate now s) ∧
      (now ≠ .chair → (classRequests seat .delegate now s).floor.locked[seat] = false) ∧
      (now = .chair → ChairRecord.added seat ∈ (classRequests seat .delegate now s).floor.chairs) := by
  by_cases chair : now = .chair
  · subst chair
    rw [classRequests_delegate_chair]
    refine ⟨setChairs_bounds (leaveDelegate_givenUp h _) _, fun no => absurd rfl no, fun _ => ?_⟩
    simp [addChair, setChairs_floor, insertChair]
  · have idle := SeatClass.idle_of_ne leaves chair
    rw [classRequests_delegate_idle idle]
    refine ⟨leaveDelegate_givenUp h _, fun _ => ?_, fun yes => absurd yes chair⟩
    simp [leaveDelegate_idle idle, setLocked]

theorem writePlan_givesUp (queue : QueueLaw s) (slots : OneSlotLaw s) (was : classOf s seat = .delegate) {r : PlanRecord}
    (leaves : r.cls ≠ .delegate) : GivenUp seat (writePlan seat r s) ∧
      (r.cls ≠ .chair → (writePlan seat r s).floor.locked[seat] = false) ∧
      (r.cls = .chair → ChairRecord.added seat ∈ (writePlan seat r s).floor.chairs) := by
  have cls : classOf ((s.setPlan (put s.plan seat r)).setCursor { s.cursor with index := seat.succ }) seat ≠ .delegate := by
    simpa [classOf] using leaves
  rw [writePlan, was]
  exact classRequests_givesUp (recheckSeat_bounds (bounds_of_laws cls queue slots) seat) leaves

/-- Settles O19: the bounds of the seat carried through the re-check and the three requests of R13; then each change of class by
its equation. -/
theorem leavingDelegateGivesUpTheFloor : Obligations.LeavingDelegateGivesUpTheFloor := by
  refine ⟨fun cls w p d v seat r s h queue lists slots hd hi carries was leaves limit => ?delegate,
    fun seat before now s => ?requests, fun cls w p d v seat r s h hd hi carries was leaves chairs => ?chair⟩
  case delegate =>
    have hr := planRecordOf_carried carries
    obtain ⟨taken, -, -⟩ := planPut_taken h hd hi hr limit
    obtain ⟨given, unlocked, added⟩ := writePlan_givesUp (s := oweAnswer s) queue slots was leaves
    exact ⟨_, taken, by simp [answered], given.noSlot, given.noEntry, unlocked, added⟩
  case requests =>
    intro idle sorted added dropped
    have chairs : dropped.floor.chairs = s.floor.chairs := by simp [dropped]
    refine ⟨?_, fun hb hn hs => ?_, fun hb hn hs => ?_, fun hb hn => ?_⟩
    · rintro (rfl | ⟨hb, hn⟩)
      · exact classRequests_same seat _ s
      · rw [classRequests_idle hb, if_neg hn]
    · rw [classRequests_idle hb, if_pos hn]
      exact addChair_eq hs.1 hs.2
    · subst hb hn
      rw [classRequests_delegate_chair, leaveDelegate_chair, addChair_eq (chairs ▸ hs.1) (chairs ▸ hs.2), chairs]
      rfl
    · subst hb
      rw [classRequests_delegate_idle hn, leaveDelegate_idle hn]
      rfl
  case chair =>
    intro written withdrawn removed
    have hr := planRecordOf_carried carries
    obtain ⟨taken, -, -⟩ := planPut_taken h hd hi hr fun chair => absurd chair leaves
    have kept : (recheckSeat seat written).floor.chairs = s.floor.chairs :=
      recheckSeat_chairs (by simpa [classOf, written] using leaves)
    have nodup : ((recheckSeat seat written).floor.chairs.map (·.seat)).Nodup := by
      rw [kept]
      exact sorted_nodup (List.pairwise_map.2 chairs.1)
    have write : writePlan seat r (oweAnswer s) = classRequests seat .chair r.cls (recheckSeat seat written) := by
      rw [← was]; rfl
    rw [taken, write, classRequests_chair leaves, leaveChair_eq nodup leaves]

end Sys2Proof.Machine
end

section
namespace Sys2Proof.Machine
variable {s t u : State}

/-! ### The seats that have a record (R41, R54) -/

/-- The same seats have a record. -/
abbrev KeepsRecords (s t : State) : Prop := t.seats.map Option.isSome = s.seats.map Option.isSome

theorem KeepsRecords.iff (h : KeepsRecords s t) (seat : Seat) : t.seats[seat] ≠ none ↔ s.seats[seat] ≠ none := by
  have := congrArg (·[seat]) h
  rw [← Option.isSome_iff_ne_none, ← Option.isSome_iff_ne_none]
  simpa using this

/-- A record rewritten in place leaves the seats that have one. -/
theorem put_isSome (v : Vector (Option SeatRecord) 512) (seat : Seat) {r : Option SeatRecord}
    (h : r.isSome = (v[seat]).isSome) : (put v seat r).map Option.isSome = v.map Option.isSome := by
  have here : ∀ i : Seat, ((put v seat r)[i]).isSome = (v[i]).isSome := fun i => by
    rw [put_getElem]
    split
    · next e => rw [e, h]
    · rfl
  exact Vector.ext fun i hi => by simpa using here ⟨i, hi⟩

@[simp] theorem restartBlanking_records (seat : Seat) (s : State) : KeepsRecords s (restartBlanking seat s) := by
  unfold restartBlanking
  split
  · rfl
  · next r hr => exact put_isSome _ _ (by rw [hr]; rfl)

@[simp] theorem mapSeat_records (seat : Seat) (g : SeatRecord → SeatRecord) (s : State) :
    KeepsRecords s (mapSeat seat g s) := put_isSome _ _ (by simp)

/-! #### The opening path, the close path and the queue -/

@[simp] theorem openSlot_records (seat : Seat) (o : Origin) (g : Bool) (s : State) :
    KeepsRecords s (openSlot seat o g s) := by
  unfold openSlot occupy; (repeat' split) <;> simp [KeepsRecords]

@[simp] theorem advance_records (k : Nat) (s : State) : KeepsRecords s (advance k s) := by
  induction k generalizing s with
  | zero => rfl
  | succ k ih => unfold advance; split <;> simp [KeepsRecords, ih]

@[simp] theorem advanceCheck_records (s : State) : KeepsRecords s (advanceCheck s) := advance_records 8 s

@[simp] theorem closeSeat_records (seat : Seat) (r : CloseReason) (s : State) : KeepsRecords s (closeSeat seat r s) := by
  unfold closeSeat; split <;> simp [KeepsRecords]

@[simp] theorem dropBindings_records (seat : Seat) (d : Bool) (s : State) :
    KeepsRecords s (dropBindings seat d s) := by
  unfold dropBindings; dsimp only; (repeat' split) <;> simp [KeepsRecords]

@[simp] theorem enterQueue_records (e : QueueEntry) (b : Bool) (s : State) : KeepsRecords s (enterQueue e b s) := by
  unfold enterQueue; dsimp only; split <;> simp [KeepsRecords]

@[simp] theorem replaceSpeaker_records (n : SlotNo) (seat : Seat) (s : State) :
    KeepsRecords s (replaceSpeaker n seat s) := by simp [replaceSpeaker, KeepsRecords]

@[simp] theorem reduceFloor_records (s : State) : KeepsRecords s (reduceFloor s) := by simp [reduceFloor, KeepsRecords]

@[simp] theorem changeProfile_records (n : ProfileNo) (c : ChangeCause) (s : State) :
    KeepsRecords s (changeProfile n c s) := by simp [changeProfile, KeepsRecords]

/-! #### The chairs and the hold -/

@[simp] theorem openChair_records (seat : Seat) (s : State) : KeepsRecords s (openChair seat s) := by
  simp [openChair, KeepsRecords]

@[simp] theorem holdChair_records (s : State) (seat : Seat) : KeepsRecords s (holdChair s seat) := by
  unfold holdChair; dsimp only; (repeat' split) <;> simp [KeepsRecords]

@[simp] theorem releaseChair_records (s : State) (seat : Seat) : KeepsRecords s (releaseChair s seat) := by
  unfold releaseChair; (repeat' split) <;> simp [KeepsRecords]

@[simp] theorem unmuteSlot_records (s : State) (n : SlotNo) : KeepsRecords s (unmuteSlot s n) := by
  unfold unmuteSlot; (repeat' split) <;> simp [KeepsRecords]

/-- What each step of a fold leaves of the seats that have a record, the fold leaves. -/
theorem foldl_records {α : Type} {g : State → α → State} (hg : ∀ s a, KeepsRecords s (g s a)) (l : List α) (s : State) :
    KeepsRecords s (l.foldl g s) := foldl_keeps (fun s => s.seats.map Option.isSome) g hg l s

@[simp] theorem startHold_records (seat : Seat) (s : State) : KeepsRecords s (startHold seat s) := by
  have muted := foldl_records (g := muteSlot) (fun _ _ => by simp [KeepsRecords])
  have closed := foldl_records (g := closeForHold) (fun _ _ => by simp [closeForHold, KeepsRecords])
  unfold startHold; dsimp only
  refine (foldl_records holdChair_records _ _).trans ?_
  split
  · exact (muted _ _).trans (by simp)
  · exact (closed _ _).trans (by simp)

@[simp] theorem endHold_records (seat : Seat) (s : State) : KeepsRecords s (endHold seat s) := by
  unfold endHold; dsimp only
  refine (advanceCheck_records _).trans ((foldl_records releaseChair_records _ _).trans ?_)
  exact (foldl_records unmuteSlot_records _ _).trans (by simp)

@[simp] theorem lowerHold_records (seat : Seat) (s : State) : KeepsRecords s (lowerHold seat s) := by
  unfold lowerHold; dsimp only; (repeat' split) <;> simp [KeepsRecords]

@[simp] theorem raiseHold_records (seat : Seat) (s : State) : KeepsRecords s (raiseHold seat s) := by
  unfold raiseHold; dsimp only; (repeat' split) <;> simp [KeepsRecords]

@[simp] theorem withdrawChair_records (seat : Seat) (s : State) : KeepsRecords s (withdrawChair seat s) := by
  unfold withdrawChair; dsimp only; (repeat' split) <;> simp [KeepsRecords]

/-! #### Seat events, the seat input unit and speech timing -/

@[simp] theorem voiceStartEvent_records (seat : Seat) (s : State) : KeepsRecords s (voiceStartEvent seat s) := by
  unfold voiceStartEvent; split <;> simp [KeepsRecords]

@[simp] theorem silenceEvent_records (seat : Seat) (s : State) : KeepsRecords s (silenceEvent seat s) := by
  unfold silenceEvent; (repeat' split) <;> simp [KeepsRecords]

@[simp] theorem howlEvent_records (seat : Seat) (s : State) : KeepsRecords s (howlEvent seat s) := by
  unfold howlEvent howlChair howlSlot; dsimp only; (repeat' split) <;> simp [KeepsRecords]

@[simp] theorem howlClearEvent_records (seat : Seat) (s : State) : KeepsRecords s (howlClearEvent seat s) := by
  unfold howlClearEvent howlClearChair howlClearSlot; (repeat' split) <;> simp [KeepsRecords]

@[simp] theorem becomeVoiced_records (seat : Seat) (s : State) : KeepsRecords s (becomeVoiced seat s) := by
  unfold becomeVoiced; dsimp only; split <;> simp [KeepsRecords]

@[simp] theorem becomeQuiet_records (seat : Seat) (s : State) : KeepsRecords s (becomeQuiet seat s) := by
  unfold becomeQuiet; dsimp only; split <;> simp [KeepsRecords]

@[simp] theorem takeVoice_records (seat : Seat) (level : Nat) (s : State) : KeepsRecords s (takeVoice seat level s) := by
  unfold takeVoice; (repeat' split) <;> simp [KeepsRecords]

@[simp] theorem raiseHowl_records (seat : Seat) (s : State) : KeepsRecords s (raiseHowl seat s) := by
  unfold raiseHowl; dsimp only; split <;> simp [KeepsRecords]

@[simp] theorem raiseHowlClear_records (seat : Seat) (s : State) : KeepsRecords s (raiseHowlClear seat s) := by
  unfold raiseHowlClear; dsimp only; split <;> simp [KeepsRecords]

@[simp] theorem takeLive_records (seat : Seat) (r : SeatRecord) (level : Nat) (s : State) :
    KeepsRecords s (takeLive seat r level s) := by
  unfold takeLive; (repeat' split) <;> simp [KeepsRecords]

@[simp] theorem takeLockedSoft_records (seat : Seat) (r : SeatRecord) (level : Nat) (s : State) :
    KeepsRecords s (takeLockedSoft seat r level s) := by
  unfold takeLockedSoft; (repeat' split) <;> simp [KeepsRecords]

@[simp] theorem takeHowl_records (seat : Seat) (level : Nat) (s : State) : KeepsRecords s (takeHowl seat level s) := by
  unfold takeHowl; dsimp only; (repeat' split) <;> simp [KeepsRecords]

@[simp] theorem quietSeat_records (s : State) (seat : Seat) : KeepsRecords s (quietSeat s seat) := by
  unfold quietSeat; (repeat' split) <;> simp [KeepsRecords]

@[simp] theorem expireAccounts_records (m : AllowanceMode) (s : State) : KeepsRecords s (expireAccounts m s) := by
  have closed := foldl_records (g := fun s x => closeSeatQuiet x .allowance s) (fun _ _ => by simp [KeepsRecords])
  have charged := foldl_records (g := expireAccount s m) (fun _ _ => by simp [KeepsRecords])
  unfold expireAccounts closeSpent; dsimp only
  split
  · exact (advanceCheck_records _).trans ((closed _ _).trans (charged _ _))
  · exact (closed _ _).trans (charged _ _)

@[simp] theorem timeSlot_records (s : State) (n : SlotNo) : KeepsRecords s (timeSlot s n) := by simp [KeepsRecords]

/-! #### Orders -/

@[simp] theorem applySelected_records (c : ChangeCause) (s : State) : KeepsRecords s (applySelected c s) := by
  unfold applySelected; split <;> simp [KeepsRecords]

@[simp] theorem qualifyPins_records (s : State) : KeepsRecords s (qualifyPins s) := by
  unfold qualifyPins; split <;> simp [KeepsRecords]

theorem takeQueueAdd_records (x : Half) (k : Byte) (t : Half) (s : State) :
    KeepsRecords s (takeQueueAdd x k t s).state := by
  unfold takeQueueAdd; dsimp only; (repeat' split) <;> simp [KeepsRecords]

theorem takeQueueDrop_records (x : Half) (s : State) : KeepsRecords s (takeQueueDrop x s).state := by
  unfold takeQueueDrop; (repeat' split) <;> simp [KeepsRecords]

theorem takeListClose_records (n : Half) (s : State) : KeepsRecords s (takeListClose n s).state := by
  unfold takeListClose; (repeat' split) <;> simp [KeepsRecords]

theorem takeFloorGrant_records (x : Half) (g : Byte) (s : State) : KeepsRecords s (takeFloorGrant x g s).state := by
  unfold takeFloorGrant; dsimp only; (repeat' split) <;> simp [KeepsRecords]

theorem takeFloorNext_records (s : State) : KeepsRecords s (takeFloorNext s).state := by
  unfold takeFloorNext; dsimp only; (repeat' split) <;> simp [KeepsRecords]

theorem takeFloorRevoke_records (x : Half) (s : State) : KeepsRecords s (takeFloorRevoke x s).state := by
  unfold takeFloorRevoke; (repeat' split) <;> simp [KeepsRecords]

theorem takeFloorClear_records (s : State) : KeepsRecords s (takeFloorClear s).state := by
  simp [takeFloorClear, KeepsRecords]

theorem takeWingMask_records (m : Byte) (s : State) : KeepsRecords s (takeWingMask m s).state := by
  unfold takeWingMask; dsimp only; split <;> simp [KeepsRecords]

theorem takeUnlock_records (x : Half) (s : State) : KeepsRecords s (takeUnlock x s).state := by
  unfold takeUnlock
  split
  · rfl
  · split
    · dsimp only [answeredOk_state]; split <;> simp [KeepsRecords]
    · rfl

theorem takeProfilePut_records (n : Byte) (r : RawProfile) (s : State) :
    KeepsRecords s (takeProfilePut n r s).state := by
  unfold takeProfilePut; dsimp only
  split
  · dsimp only [answeredOk_state]; split <;> simp [KeepsRecords]
  · rfl

theorem takeProfileSelect_records (n : Byte) (s : State) : KeepsRecords s (takeProfileSelect n s).state := by
  unfold takeProfileSelect; dsimp only
  split
  · rfl
  · dsimp only [answeredOk_state]; split <;> simp [KeepsRecords]

theorem takeProfileSource_records (b : Byte) (s : State) : KeepsRecords s (takeProfileSource b s).state := by
  unfold takeProfileSource; dsimp only
  split
  · rfl
  · dsimp only [answeredOk_state]; split <;> simp [KeepsRecords]

end Sys2Proof.Machine
end

section
namespace Sys2Proof.Machine
variable {s t u : State}

/-! ### The standing of a unit (R18, R23) -/

/-- What the laws of the trunks read of a unit that is READY or BLOCKED. -/
structure Standing where
  addr : Option Seat
  presence : Presence
  unit : UnitType

/-- The standing of a chain entry; a SETTLING unit has none. -/
def ChainEntry.standing (e : ChainEntry) : Option Standing :=
  if e.presence = .settling then none else some ⟨e.addr, e.presence, e.buttons.unitType⟩

/-- The standing of the unit at a place; none for no unit and for a SETTLING one. -/
def Trunks.standing (t : Trunks) (p : Place) : Option Standing := (t.entryAt p).bind ChainEntry.standing

theorem standing_iff (t : Trunks) (p : Place) (x : Standing) : t.standing p = some x ↔
    ∃ e, t.entryAt p = some e ∧ e.presence ≠ .settling ∧ e.addr = x.addr ∧ e.presence = x.presence ∧
      e.buttons.unitType = x.unit := by
  obtain ⟨addr, presence, unit⟩ := x
  simp [Trunks.standing, Option.bind_eq_some_iff, ChainEntry.standing]

theorem standing_ready (t : Trunks) (p : Place) (addr : Option Seat) (unit : UnitType) :
    t.standing p = some ⟨addr, .ready, unit⟩ ↔
      ∃ e, t.entryAt p = some e ∧ e.presence = .ready ∧ e.addr = addr ∧ e.buttons.unitType = unit := by
  rw [standing_iff]
  exact exists_congr fun e => by aesop

theorem standing_blocked (t : Trunks) (p : Place) (addr : Option Seat) (k : BlockKind) (unit : UnitType) :
    t.standing p = some ⟨addr, .blocked k, unit⟩ ↔
      ∃ e, t.entryAt p = some e ∧ e.presence = .blocked k ∧ e.addr = addr ∧ e.buttons.unitType = unit := by
  rw [standing_iff]
  exact exists_congr fun e => by aesop

theorem standing_of_entry {p : Place} {e : ChainEntry} (h : s.trunks.entryAt p = some e) (settled : e.presence ≠ .settling) :
    s.trunks.standing p = some ⟨e.addr, e.presence, e.buttons.unitType⟩ :=
  (standing_iff _ _ _).2 ⟨e, h, settled, rfl, rfl, rfl⟩

theorem standing_settling {p : Place} {e : ChainEntry} (h : s.trunks.entryAt p = some e) (settling : e.presence = .settling) :
    s.trunks.standing p = none := by simp [Trunks.standing, h, ChainEntry.standing, settling]

theorem standing_absent {p : Place} (h : s.trunks.entryAt p = none) : s.trunks.standing p = none := by
  simp [Trunks.standing, h]

theorem standing_putEntry (t : Trunks) (p : Place) (e : Option ChainEntry) :
    (t.putEntry p e).standing = Function.update t.standing p (e.bind ChainEntry.standing) := by
  funext q
  rw [Trunks.standing, entryAt_putEntry]
  by_cases h : q = p
  · subst h; simp
  · simp [h, Trunks.standing]

/-! ### The laws of the trunks, of any standings -/

/-- The laws of the trunks as `s` meets them with the units standing as `unit` says. -/
structure StandingLaws (unit : Place → Option Standing) (s : State) : Prop where
  bound : ∀ (seat : Seat) (p : Place), s.trunks.binding[seat] = some p ↔ ∃ type, unit p = some ⟨some seat, .ready, type⟩
  named : ∀ (p : Place) (type : UnitType), unit p ≠ some ⟨none, .ready, type⟩
  nodup : (s.trunks.blocked.map (·.place)).Nodup
  listed : ∀ b : BlockedEntry, b ∈ s.trunks.blocked ↔ ∃ type, unit b.place = some ⟨b.addr, .blocked b.kind, type⟩
  fits : ∀ (p : Place) (seat : Seat) (type : UnitType), unit p = some ⟨some seat, .ready, type⟩ →
    (s.plan[seat].location = none ∨ s.plan[seat].location = some p) ∧ typeFails s.plan[seat].cls type = false
  records : ∀ seat : Seat, s.seats[seat] ≠ none → s.trunks.binding[seat] ≠ none

theorem trunkLaws_iff (s : State) : TrunkLaws s ↔ StandingLaws s.trunks.standing s := by
  constructor
  · rintro ⟨⟨bound, named⟩, ⟨nodup, listed⟩, fits, records⟩
    refine ⟨fun seat p => ?_, fun p type h => ?_, nodup, fun b => ?_, fun p seat type h => ?_, records⟩
    · rw [bound]
      simp only [standing_ready]
      exact ⟨fun ⟨e, he, hp, ha⟩ => ⟨_, e, he, hp, ha, rfl⟩, fun ⟨_, e, he, hp, ha, _⟩ => ⟨e, he, hp, ha⟩⟩
    · obtain ⟨e, he, hp, ha, -⟩ := (standing_ready _ _ _ _).1 h
      exact named p e he hp ha
    · rw [listed]
      simp only [standing_blocked]
      exact ⟨fun ⟨e, he, hp, ha⟩ => ⟨_, e, he, hp, ha, rfl⟩, fun ⟨_, e, he, hp, ha, _⟩ => ⟨e, he, hp, ha⟩⟩
    · obtain ⟨e, he, hp, ha, rfl⟩ := (standing_ready _ _ _ _).1 h
      exact fits p e seat he hp ha
  · rintro ⟨bound, named, nodup, listed, fits, records⟩
    refine ⟨⟨fun seat p => ?_, fun p e he hp ha => ?_⟩, ⟨nodup, fun b => ?_⟩, fun p e seat he hp ha => ?_, records⟩
    · rw [bound]
      simp only [standing_ready]
      exact ⟨fun ⟨_, e, he, hp, ha, _⟩ => ⟨e, he, hp, ha⟩, fun ⟨e, he, hp, ha⟩ => ⟨_, e, he, hp, ha, rfl⟩⟩
    · exact named p _ ((standing_ready _ _ _ _).2 ⟨e, he, hp, ha, rfl⟩)
    · rw [listed]
      simp only [standing_blocked]
      exact ⟨fun ⟨_, e, he, hp, ha, _⟩ => ⟨e, he, hp, ha⟩, fun ⟨e, he, hp, ha⟩ => ⟨_, e, he, hp, ha, rfl⟩⟩
    · exact fits p seat _ ((standing_ready _ _ _ _).2 ⟨e, he, hp, ha, rfl⟩)

namespace StandingLaws
variable {unit : Place → Option Standing} {p : Place} {seat : Seat} {type : UnitType} {addr : Option Seat} {k : BlockKind}

/-- The laws stay where the plan, the binding map and the blocked-unit table stay and no seat gains a record. -/
theorem of_same (h : StandingLaws unit s) (plan : t.plan = s.plan) (binding : t.trunks.binding = s.trunks.binding)
    (blocked : t.trunks.blocked = s.trunks.blocked) (records : ∀ seat : Seat, t.seats[seat] ≠ none → s.seats[seat] ≠ none) :
    StandingLaws unit t where
  bound seat p := by rw [binding]; exact h.bound seat p
  named := h.named
  nodup := by rw [blocked]; exact h.nodup
  listed b := by rw [blocked]; exact h.listed b
  fits := by rw [plan]; exact h.fits
  records seat has := by rw [binding]; exact h.records seat (records seat has)

/-- A seat's one READY unit is gone, and with it its binding and its record; the plan record of that seat may be another. -/
theorem ready_leaves (h : StandingLaws unit s) (was : unit p = some ⟨some seat, .ready, type⟩)
    (plan : ∀ x : Seat, x ≠ seat → t.plan[x] = s.plan[x]) (binding : t.trunks.binding = put s.trunks.binding seat none)
    (blocked : t.trunks.blocked = s.trunks.blocked)
    (records : ∀ x : Seat, t.seats[x] ≠ none → x ≠ seat ∧ s.seats[x] ≠ none) :
    StandingLaws (Function.update unit p none) t := by
  have elsewhere {q : Place} {x : Seat} {ty : UnitType} (hq : unit q = some ⟨some x, .ready, ty⟩) : q = p ↔ x = seat := by
    constructor
    · rintro rfl
      rw [was] at hq
      cases hq; rfl
    · rintro rfl
      have here := (h.bound x p).2 ⟨type, was⟩
      rw [(h.bound x q).2 ⟨ty, hq⟩] at here
      exact Option.some.inj here
  constructor
  case bound =>
    intro x q
    rw [binding, put_getElem, Function.update_apply]
    by_cases hq : q = p
    · subst hq
      simp only [if_true, reduceCtorEq, exists_false, iff_false]
      split
      · simp
      · next other =>
        rw [h.bound]
        rintro ⟨ty, hy⟩
        exact other ((elsewhere hy).1 rfl)
    · rw [if_neg hq, ← h.bound]
      split
      · next same =>
        simp only [reduceCtorEq, false_iff]
        intro hb
        obtain ⟨ty, hy⟩ := (h.bound x q).1 hb
        exact hq ((elsewhere hy).2 same)
      · rfl
  case named =>
    intro q ty
    rw [Function.update_apply]
    split
    · simp
    · exact h.named q ty
  case nodup => rw [blocked]; exact h.nodup
  case listed =>
    intro b
    rw [blocked, h.listed, Function.update_apply]
    split
    · next hb => rw [hb, was]; simp
    · rfl
  case fits =>
    intro q x ty hq
    rw [Function.update_apply] at hq
    split at hq
    · cases hq
    · next hp =>
      have other : x ≠ seat := fun e => hp ((elsewhere hq).2 e)
      rw [plan x other]
      exact h.fits q x ty hq
  case records =>
    intro x has
    obtain ⟨other, had⟩ := records x has
    rw [binding, put_getElem_ne _ _ other]
    exact h.records x had

/-- A BLOCKED unit is gone, and with it its entry of the blocked-unit table. -/
theorem blocked_leaves (h : StandingLaws unit s) (was : unit p = some ⟨addr, .blocked k, type⟩)
    (plan : t.plan = s.plan) (binding : t.trunks.binding = s.trunks.binding)
    (blocked : t.trunks.blocked = s.trunks.blocked.filter fun b => b.place ≠ p)
    (records : ∀ x : Seat, t.seats[x] ≠ none → s.seats[x] ≠ none) :
    StandingLaws (Function.update unit p none) t := by
  constructor
  case bound =>
    intro x q
    rw [binding, h.bound, Function.update_apply]
    split
    · next hq => rw [hq, was]; simp
    · rfl
  case named =>
    intro q ty
    rw [Function.update_apply]
    split
    · simp
    · exact h.named q ty
  case nodup =>
    rw [blocked]
    exact h.nodup.sublist (List.filter_sublist.map _)
  case listed =>
    intro b
    rw [blocked, List.mem_filter, h.listed, Function.update_apply]
    split <;> simp_all
  case fits =>
    intro q x ty hq
    rw [Function.update_apply] at hq
    split at hq
    · cases hq
    · rw [plan]; exact h.fits q x ty hq
  case records =>
    intro x has
    rw [binding]
    exact h.records x (records x has)

/-- A unit becomes READY and bound to a seat that no other is bound to and whose plan record it fits. -/
theorem ready_joins (h : StandingLaws unit s) (free : unit p = none) (unbound : s.trunks.binding[seat] = none)
    (location : s.plan[seat].location = none ∨ s.plan[seat].location = some p)
    (fits : typeFails s.plan[seat].cls type = false) (plan : t.plan = s.plan)
    (binding : t.trunks.binding = put s.trunks.binding seat (some p)) (blocked : t.trunks.blocked = s.trunks.blocked)
    (records : ∀ x : Seat, t.seats[x] ≠ none → s.seats[x] ≠ none) :
    StandingLaws (Function.update unit p (some ⟨some seat, .ready, type⟩)) t := by
  constructor
  case bound =>
    intro x q
    rw [binding, put_getElem, Function.update_apply]
    by_cases hq : q = p
    · subst hq
      rw [if_pos rfl]
      split
      · next same => subst same; simp
      · next other =>
        rw [h.bound, free]
        simp [Ne.symm other]
    · rw [if_neg hq, ← h.bound]
      split
      · next same => subst same; simp [unbound, Ne.symm hq]
      · rfl
  case named =>
    intro q ty
    rw [Function.update_apply]
    split
    · simp
    · exact h.named q ty
  case nodup => rw [blocked]; exact h.nodup
  case listed =>
    intro b
    rw [blocked, h.listed, Function.update_apply]
    split
    · next hb => rw [hb, free]; simp
    · rfl
  case fits =>
    intro q x ty hq
    rw [plan]
    rw [Function.update_apply] at hq
    split at hq
    · next hp => cases hq; rw [hp]; exact ⟨location, fits⟩
    · exact h.fits q x ty hq
  case records =>
    intro x has
    rw [binding, put_getElem]
    split
    · simp
    · exact h.records x (records x has)

/-- A unit becomes BLOCKED and joins the tail of the blocked-unit table. -/
theorem blocked_joins (h : StandingLaws unit s) (free : unit p = none) (plan : t.plan = s.plan)
    (binding : t.trunks.binding = s.trunks.binding) (blocked : t.trunks.blocked = s.trunks.blocked ++ [⟨p, addr, k⟩])
    (records : ∀ x : Seat, t.seats[x] ≠ none → s.seats[x] ≠ none) :
    StandingLaws (Function.update unit p (some ⟨addr, .blocked k, type⟩)) t := by
  constructor
  case bound =>
    intro x q
    rw [binding, h.bound, Function.update_apply]
    split
    · next hq => rw [hq, free]; simp
    · rfl
  case named =>
    intro q ty
    rw [Function.update_apply]
    split
    · simp
    · exact h.named q ty
  case nodup =>
    rw [blocked, List.map_append, List.nodup_append]
    refine ⟨h.nodup, by simp, ?_⟩
    rintro q hq r hr rfl
    obtain ⟨b, hb, rfl⟩ := List.mem_map.1 hq
    obtain ⟨ty, hy⟩ := (h.listed b).1 hb
    rw [show b.place = p by simpa using hr, free] at hy
    cases hy
  case listed =>
    intro b
    rw [blocked, List.mem_append, h.listed, Function.update_apply]
    by_cases hb : b.place = p
    · rw [if_pos hb, hb, free]
      obtain ⟨place, a, kind⟩ := b
      subst hb
      simp [eq_comm]
    · rw [if_neg hb]
      have other : b ≠ ⟨p, addr, k⟩ := by rintro rfl; exact hb rfl
      simp [other]
  case fits =>
    intro q x ty hq
    rw [Function.update_apply] at hq
    split at hq
    · cases hq
    · rw [plan]; exact h.fits q x ty hq
  case records =>
    intro x has
    rw [binding]
    exact h.records x (records x has)

/-- A BLOCKED unit takes another block kind, in the table too. -/
theorem blocked_changes (h : StandingLaws unit s) {k' : BlockKind} (was : unit p = some ⟨addr, .blocked k', type⟩)
    (plan : t.plan = s.plan) (binding : t.trunks.binding = s.trunks.binding)
    (blocked : t.trunks.blocked = s.trunks.blocked.map fun x => if x.place = p then { x with kind := k } else x)
    (records : ∀ x : Seat, t.seats[x] ≠ none → s.seats[x] ≠ none) :
    StandingLaws (Function.update unit p (some ⟨addr, .blocked k, type⟩)) t := by
  have places : (fun x : BlockedEntry => (if x.place = p then { x with kind := k } else x).place) = (·.place) := by
    funext x; split <;> rfl
  constructor
  case bound =>
    intro x q
    rw [binding, h.bound, Function.update_apply]
    split
    · next hq => rw [hq, was]; simp
    · rfl
  case named =>
    intro q ty
    rw [Function.update_apply]
    split
    · simp
    · exact h.named q ty
  case nodup =>
    rw [blocked, List.map_map]
    simpa only [Function.comp_def, places] using h.nodup
  case listed =>
    intro b
    rw [blocked, List.mem_map, Function.update_apply]
    split
    · next hb =>
      constructor
      · rintro ⟨x, hx, rfl⟩
        have hp : x.place = p := by rw [← hb]; split <;> rfl
        obtain ⟨ty, hy⟩ := (h.listed x).1 hx
        rw [hp, was] at hy
        cases hy
        exact ⟨type, by simp [hp]⟩
      · rintro ⟨ty, hy⟩
        cases hy
        exact ⟨⟨p, b.addr, k'⟩, (h.listed _).2 ⟨type, was⟩, by rw [if_pos rfl, ← hb]⟩
    · next hb =>
      rw [← h.listed]
      constructor
      · rintro ⟨x, hx, rfl⟩
        split at hb
        · next hp => exact absurd hp hb
        · next hp => rwa [if_neg hp]
      · exact fun hx => ⟨b, hx, if_neg hb⟩
  case fits =>
    intro q x ty hq
    rw [Function.update_apply] at hq
    split at hq
    · cases hq
    · rw [plan]; exact h.fits q x ty hq
  case records =>
    intro x has
    rw [binding]
    exact h.records x (records x has)

end StandingLaws

end Sys2Proof.Machine
end

section
namespace Sys2Proof.Machine
variable {s t u : State} {p : Place} {e r : ChainEntry} {seat : Seat}

/-! ### What keeps the laws of the trunks -/

theorem TrunkLaws.of_same (h : TrunkLaws s) (plan : t.plan = s.plan) (standing : t.trunks.standing = s.trunks.standing)
    (binding : t.trunks.binding = s.trunks.binding) (blocked : t.trunks.blocked = s.trunks.blocked)
    (records : ∀ x : Seat, t.seats[x] ≠ none → s.seats[x] ≠ none) : TrunkLaws t := by
  rw [trunkLaws_iff, standing]
  exact ((trunkLaws_iff s).1 h).of_same plan binding blocked records

/-- What leaves the plan, the trunks and the seats that have a record keeps the laws. -/
theorem TrunkLaws.of_kept (h : TrunkLaws s) (plan : t.plan = s.plan := by simp) (trunks : t.trunks = s.trunks := by simp)
    (records : KeepsRecords s t := by simp [KeepsRecords]) : TrunkLaws t :=
  h.of_same plan (by rw [trunks]) (by rw [trunks]) (by rw [trunks]) fun x => (records.iff x).1

/-- The place of a chain rewritten with an entry of the same standing. -/
theorem standing_putEntry_same {t : Trunks} (h : t.entryAt p = some e) (same : r.standing = e.standing) :
    (t.putEntry p (some r)).standing = t.standing := by
  rw [standing_putEntry, Option.bind_some, same, Function.update_eq_self_iff, Trunks.standing, h]
  rfl

theorem setEntry_trunkLaws (h : TrunkLaws s) (unit : s.trunks.entryAt p = some e) (same : r.standing = e.standing) :
    TrunkLaws (setEntry p (some r) s) :=
  h.of_same rfl (standing_putEntry_same unit same) rfl rfl fun _ => id

/-- A place without a READY or BLOCKED unit, rewritten to hold none. -/
theorem setEntry_none_trunkLaws (h : TrunkLaws s) {r : Option ChainEntry} (before : s.trunks.standing p = none)
    (after : r.bind ChainEntry.standing = none) : TrunkLaws (setEntry p r s) := by
  refine h.of_same rfl ?_ rfl rfl fun _ => id
  rw [setEntry_trunks, standing_putEntry, after, ← before, Function.update_eq_self]

/-! #### Seat events that a unit may show REFUSED for (R39, R89) -/

@[simp] theorem showRefused_trunkLaws (h : TrunkLaws s) (seat : Seat) : TrunkLaws (showRefused seat s) := by
  unfold showRefused
  split
  · exact h
  · split
    · exact h
    · next unit => exact setEntry_trunkLaws h unit rfl

@[simp] theorem post_trunkLaws (h : TrunkLaws s) (b : NoticeBody) : TrunkLaws (post b s) := h.of_kept

@[simp] theorem refuse_trunkLaws (h : TrunkLaws s) (seat : Seat) (v : SeatEvent) (c : RefusalCause) :
    TrunkLaws (refuse seat v c s) := showRefused_trunkLaws (post_trunkLaws h _) seat

@[simp] theorem openSlot_trunkLaws (h : TrunkLaws s) (seat : Seat) (o : Origin) (g : Bool) :
    TrunkLaws (openSlot seat o g s) := h.of_kept

@[simp] theorem enqueuePress_trunkLaws (h : TrunkLaws s) (seat : Seat) (k : EntryKind) (v : SeatEvent) :
    TrunkLaws (enqueuePress seat k v s) := by
  have entered (q : QueueEntry) : TrunkLaws (enterQueue q false s) := h.of_kept
  unfold enqueuePress; dsimp only; (repeat' split) <;> simp [h, entered]

theorem queueOrRefuse_trunkLaws (h : TrunkLaws s) (seat : Seat) : TrunkLaws (queueOrRefuse seat s) := by
  unfold queueOrRefuse; split <;> simp [h]

theorem requestOpen_trunkLaws (h : TrunkLaws s) (seat : Seat) : TrunkLaws (requestOpen seat s) := by
  unfold requestOpen; (repeat' split) <;> simp [h, queueOrRefuse_trunkLaws]

theorem requestOverride_trunkLaws (h : TrunkLaws s) (seat : Seat) : TrunkLaws (requestOverride seat s) := by
  have replaced (n : SlotNo) : TrunkLaws (replaceSpeaker n seat s) := h.of_kept
  unfold requestOverride; (repeat' split) <;> simp [h, replaced, queueOrRefuse_trunkLaws]

theorem shortPress_trunkLaws (h : TrunkLaws s) (seat : Seat) : TrunkLaws (shortPress seat s) := by
  have closed : TrunkLaws (closeSeat seat .seat s) := h.of_kept
  have left : TrunkLaws (leaveQueue seat .seat s) := h.of_kept
  unfold shortPress
  (repeat' split) <;> simp [h, closed, left, requestOpen_trunkLaws, requestOverride_trunkLaws]

theorem longPress_trunkLaws (h : TrunkLaws s) (seat : Seat) : TrunkLaws (longPress seat s) := by
  have promoted : TrunkLaws (promote seat s) := h.of_kept
  unfold longPress; (repeat' split) <;> simp [h, promoted]

theorem talk_trunkLaws (h : TrunkLaws s) (seat : Seat) : TrunkLaws (talk seat s) := by
  have shut : TrunkLaws (closeChair seat s) := h.of_kept
  have opened : TrunkLaws (openChair seat s) := h.of_kept
  unfold talk; (repeat' split) <;> simp [h, shut, opened]

theorem chairNext_trunkLaws (h : TrunkLaws s) (seat : Seat) : TrunkLaws (chairNext seat s) := by
  unfold chairNext; (repeat' split) <;> simp [h]

/-! #### A report (R42) -/

@[simp] theorem mapSeat_trunkLaws (h : TrunkLaws s) (seat : Seat) (g : SeatRecord → SeatRecord) :
    TrunkLaws (mapSeat seat g s) := h.of_kept

theorem takeRequest_trunkLaws (h : TrunkLaws s) (seat : Seat) (d : Bool) : TrunkLaws (takeRequest seat d s) := by
  unfold takeRequest; dsimp only; (repeat' split) <;> simp [h, shortPress_trunkLaws, longPress_trunkLaws]

theorem takePriority_trunkLaws (h : TrunkLaws s) (seat : Seat) (d : Bool) : TrunkLaws (takePriority seat d s) := by
  have records : KeepsRecords s (takePriority seat d s) := by
    unfold takePriority; dsimp only; (repeat' split) <;> simp [KeepsRecords]
  exact h.of_kept (records := records)

theorem takeTalk_trunkLaws (h : TrunkLaws s) (seat : Seat) (d : Bool) : TrunkLaws (takeTalk seat d s) := by
  unfold takeTalk; dsimp only; (repeat' split) <;> simp [h, talk_trunkLaws]

theorem takeNext_trunkLaws (h : TrunkLaws s) (seat : Seat) (d : Bool) : TrunkLaws (takeNext seat d s) := by
  unfold takeNext; dsimp only; (repeat' split) <;> simp [h, chairNext_trunkLaws]

theorem takeButtons_trunkLaws (h : TrunkLaws s) (seat : Seat) (b : Buttons) : TrunkLaws (takeButtons seat b s) := by
  unfold takeButtons
  split
  · exact takeRequest_trunkLaws h seat _
  · exact takeNext_trunkLaws (takeTalk_trunkLaws (takePriority_trunkLaws h seat _) seat _) seat _

/-- The first report of a seat makes its record; the seat has a bound unit (R41). -/
theorem beginSeat_trunkLaws (h : TrunkLaws s) (seat : Seat) (b : Buttons) (bound : s.trunks.binding[seat] ≠ none) :
    TrunkLaws (beginSeat seat b s) := by
  obtain ⟨binding, blocked, fits, records⟩ := h
  refine ⟨by simpa [BindingLaw] using binding, by simpa [BlockedLaw] using blocked, ?_, fun x has => ?_⟩
  · simpa [MatchLaw, classOf] using fits
  · rw [(beginSeat_keeps seat b s).1.2]
    by_cases same : x = seat
    · rw [same]; exact bound
    · refine records x ?_
      unfold beginSeat at has
      split at has
      · exact has
      · rwa [State.setSeats_seats, put_getElem_ne _ _ same] at has

theorem takeReport_trunkLaws (h : TrunkLaws s) (seat : Seat) (b : Buttons) (level : Nat)
    (bound : s.trunks.binding[seat] ≠ none) : TrunkLaws (takeReport seat b level s) := by
  have pressed := takeButtons_trunkLaws (beginSeat_trunkLaws h seat b bound) seat b
  have heard : TrunkLaws (takeVoice seat level (takeButtons seat b (beginSeat seat b s))) :=
    pressed.of_kept
  exact TrunkLaws.of_kept (t := takeHowl seat level _) heard

end Sys2Proof.Machine
end

section
namespace Sys2Proof.Machine
variable {s t u : State} {p : Place} {e r : ChainEntry} {seat : Seat}

/-! ### The checks, and a unit that takes a standing by them (R23) -/

/-- A unit that passes the checks: the seat it reports, which it fits and to which no other unit is bound. -/
theorem checkUnit_passes (h : checkUnit s p e = .ready seat) : e.addr = some seat ∧
    (s.plan[seat].location = none ∨ s.plan[seat].location = some p) ∧
    typeFails s.plan[seat].cls e.buttons.unitType = false ∧
    (s.trunks.binding[seat] = none ∨ s.trunks.binding[seat] = some p) := by
  have within (o : Option Place) : ¬(o.any fun l => decide (l ≠ p)) = true ↔ o = none ∨ o = some p := by
    cases o <;> simp
  unfold checkUnit at h
  split at h
  · cases h
  · next x addr =>
    split at h
    · cases h
    · next location =>
      split at h
      · cases h
      · next type =>
        split at h
        · cases h
        · next unbound =>
          cases h
          exact ⟨addr, (within _).1 location, by simpa [classOf] using type, (within _).1 unbound⟩

/-- The laws of the trunks with the unit at a place taken away. -/
abbrev LawsWithout (p : Place) (s : State) : Prop := StandingLaws (Function.update s.trunks.standing p none) s

theorem TrunkLaws.without (h : TrunkLaws s) (before : s.trunks.standing p = none) : LawsWithout p s := by
  rw [LawsWithout, ← before, Function.update_eq_self]
  exact (trunkLaws_iff s).1 h

/-- What leaves the plan, the trunks and the seats that have a record keeps the laws without the unit at a place. -/
theorem LawsWithout.of_kept (h : LawsWithout p s) (plan : t.plan = s.plan := by simp)
    (trunks : t.trunks = s.trunks := by simp) (records : KeepsRecords s t := by simp [KeepsRecords]) : LawsWithout p t := by
  rw [LawsWithout, trunks]
  exact h.of_same plan (by rw [trunks]) (by rw [trunks]) fun x => (records.iff x).1

/-- The place emptied, or given to a unit that has no standing yet. -/
theorem LawsWithout.setEntry (h : LawsWithout p s) {r : Option ChainEntry} (after : r.bind ChainEntry.standing = none) :
    TrunkLaws (setEntry p r s) := by
  rw [trunkLaws_iff, setEntry_trunks, standing_putEntry, after]
  exact h.of_same rfl rfl rfl fun _ => id

theorem becomeReady_trunks (p : Place) (e : ChainEntry) (seat : Seat) (s : State) : (becomeReady p e seat s).trunks =
    (s.trunks.putEntry p (some { e with presence := .ready })).bind seat (some p) := by simp [becomeReady]

theorem becomeReady_standing (p : Place) (e : ChainEntry) (seat : Seat) (s : State) :
    (becomeReady p e seat s).trunks.standing =
      Function.update s.trunks.standing p (some ⟨e.addr, .ready, e.buttons.unitType⟩) := by
  rw [becomeReady_trunks]
  exact standing_putEntry _ _ _

theorem becomeBlocked_standing (p : Place) (e : ChainEntry) (k : BlockKind) (s : State) :
    (becomeBlocked p e k s).trunks.standing =
      Function.update s.trunks.standing p (some ⟨e.addr, .blocked k, e.buttons.unitType⟩) := by
  rw [becomeBlocked_trunks]
  exact standing_putEntry _ _ _

/-- A unit that no other stands against becomes READY and bound. -/
theorem becomeReady_trunkLaws (h : LawsWithout p s) (check : checkUnit s p e = .ready seat) :
    TrunkLaws (becomeReady p e seat s) := by
  obtain ⟨addr, location, type, unbound⟩ := checkUnit_passes check
  have free : s.trunks.binding[seat] = none := unbound.resolve_right fun bound => by
    obtain ⟨ty, hy⟩ := (h.bound seat p).1 bound
    simp at hy
  have trunks := becomeReady_trunks p e seat s
  have joined := h.ready_joins (t := becomeReady p e seat s) (by simp) free location type (by simp) (by rw [trunks]; rfl)
    (by rw [trunks]; rfl) fun x => by simp
  rwa [Function.update_idem, ← addr, ← becomeReady_standing, ← trunkLaws_iff] at joined

theorem becomeBlocked_trunkLaws (h : LawsWithout p s) (e : ChainEntry) (k : BlockKind) :
    TrunkLaws (becomeBlocked p e k s) := by
  have trunks := becomeBlocked_trunks p e k s
  have joined := h.blocked_joins (t := becomeBlocked p e k s) (p := p)
    (type := e.buttons.unitType) (by simp) (by simp)
    (by rw [trunks]; rfl) (by rw [trunks]) fun x => by simp
  rwa [Function.update_idem, ← becomeBlocked_standing, ← trunkLaws_iff] at joined

/-- A unit bound to the seat it reports that passes its checks stays as it stands (R34, step 4). -/
theorem becomeReady_stays (h : TrunkLaws s) (bound : s.trunks.standing p = some ⟨some seat, .ready, e.buttons.unitType⟩)
    (addr : e.addr = some seat) : TrunkLaws (becomeReady p e seat s) := by
  have laws := (trunkLaws_iff s).1 h
  have place := (laws.bound seat p).2 ⟨_, bound⟩
  refine h.of_same (by simp) ?_ ?_ ?_ fun x => by simp
  · rw [becomeReady_standing, addr, ← bound, Function.update_eq_self]
  · rw [becomeReady_trunks, ← place]; exact put_self _ _
  · rw [becomeReady_trunks]; rfl

theorem settleUnit_trunkLaws (h : LawsWithout p s) (e : ChainEntry) : TrunkLaws (settleUnit p e s) := by
  unfold settleUnit
  split
  · next check => exact becomeReady_trunkLaws (e := { e with refusal := 0 }) h check
  · exact becomeBlocked_trunkLaws h e _

/-! ### Units that leave (R26, R29, R31) -/

/-- A seat that is left has no record, and every other seat has one if it had. -/
theorem leaveSeat_records (seat : Seat) (c : CloseReason) (l : LeaveReason) (s : State) :
    KeepsRecords (forgetSeat seat s) (leaveSeat seat c l s) := by
  unfold leaveSeat; dsimp only; split <;> simp [KeepsRecords, forgetSeat]

theorem leaveSeat_has (c : CloseReason) (l : LeaveReason) {x : Seat} (h : (leaveSeat seat c l s).seats[x] ≠ none) :
    x ≠ seat ∧ s.seats[x] ≠ none := by
  have has := ((leaveSeat_records seat c l s).iff x).1 h
  rw [forgetSeat, State.setSeats_seats, put_getElem] at has
  split at has
  · exact absurd rfl has
  · next other => exact ⟨other, has⟩

/-- A seat whose READY unit leaves it: the laws without that unit, whatever became of the plan record of the seat. -/
theorem leaveSeat_laws (h : TrunkLaws s) (unit : s.trunks.entryAt p = some e) (ready : e.presence = .ready)
    (addr : e.addr = some seat) (same : u.trunks = s.trunks) (seats : u.seats = s.seats)
    (plan : ∀ x : Seat, x ≠ seat → u.plan[x] = s.plan[x]) (c : CloseReason) (l : LeaveReason) :
    LawsWithout p (leaveSeat seat c l u) := by
  have was := standing_of_entry unit (by simp [ready])
  rw [ready, addr] at was
  have standing : (leaveSeat seat c l u).trunks.standing = s.trunks.standing := by
    rw [leaveSeat_trunks, same]; rfl
  rw [LawsWithout, standing]
  refine ((trunkLaws_iff s).1 h).ready_leaves was (fun x other => ?_) ?_ ?_ fun x has => ?_
  · rw [(leaveSeat_keeps seat c l u).2.2.2.1]; exact plan x other
  · rw [leaveSeat_trunks, same]; rfl
  · rw [leaveSeat_trunks, same]; rfl
  · rw [← seats]; exact leaveSeat_has c l has

theorem deferredAdvance_laws (h : LawsWithout p s) (b : Bool) : LawsWithout p (deferredAdvance b s) := by
  unfold deferredAdvance
  split
  · exact h.of_kept
  · exact h

theorem leaveBlocked_trunks (p : Place) (s : State) : (leaveBlocked p s).trunks =
    { s.trunks with blocked := s.trunks.blocked.filter fun b => b.place ≠ p } := by simp [leaveBlocked]

theorem leaveBlocked_laws (h : TrunkLaws s) (unit : s.trunks.entryAt p = some e) {k : BlockKind}
    (blocked : e.presence = .blocked k) : LawsWithout p (leaveBlocked p s) := by
  have was := standing_of_entry unit (by simp [blocked])
  rw [blocked] at was
  have standing : (leaveBlocked p s).trunks.standing = s.trunks.standing := by rw [leaveBlocked_trunks]; rfl
  rw [LawsWithout, standing]
  refine ((trunkLaws_iff s).1 h).blocked_leaves was (by simp) ?_ ?_ fun x => by simp
  · rw [leaveBlocked_trunks]
  · rw [leaveBlocked_trunks]

/-- A READY unit reports a seat (R18). -/
theorem TrunkLaws.ready_addr (h : TrunkLaws s) (unit : s.trunks.entryAt p = some e) (ready : e.presence = .ready) :
    e.addr ≠ none := h.1.2 p e unit ready

theorem loseEffects_laws (h : TrunkLaws s) (unit : s.trunks.entryAt p = some e) : LawsWithout p (loseEffects p e s) := by
  unfold loseEffects
  split
  · next settling => exact h.without (standing_settling unit settling)
  · next blocked => exact (leaveBlocked_laws h unit blocked).of_kept
  · next ready addr =>
    exact deferredAdvance_laws (leaveSeat_laws h unit ready addr rfl rfl (fun _ _ => rfl) .lost .lost).of_kept _
  · next ready addr => exact absurd addr (h.ready_addr unit ready)

/-! ### A trunk changed in place, and assignments -/

theorem mapTrunk_units (w : Wing) (g : Trunk → Trunk) (s : State) (w' : Wing) : (mapTrunk w g s).trunks.units[w'] =
    if w' = w then g s.trunks.units[w] else s.trunks.units[w'] := put_getElem _ _ _ _

@[simp] theorem mapTrunk_binding (w : Wing) (g : Trunk → Trunk) (s : State) :
    (mapTrunk w g s).trunks.binding = s.trunks.binding := rfl
@[simp] theorem mapTrunk_blocked (w : Wing) (g : Trunk → Trunk) (s : State) :
    (mapTrunk w g s).trunks.blocked = s.trunks.blocked := rfl

/-- A trunk changed in place but for its chain leaves every place of the chains. -/
theorem mapTrunk_entryAt (w : Wing) {g : Trunk → Trunk} (hg : ∀ x, (g x).chain = x.chain) (s : State) (q : Place) :
    (mapTrunk w g s).trunks.entryAt q = s.trunks.entryAt q := by
  have same : (mapTrunk w g s).trunks.units[q.wing].chain = s.trunks.units[q.wing].chain := by
    rw [mapTrunk_units]
    split
    · next hw => subst hw; exact hg _
    · rfl
  exact congrArg (·[q.pos]) same

theorem mapTrunk_trunkLaws (h : TrunkLaws s) (w : Wing) {g : Trunk → Trunk} (hg : ∀ x, (g x).chain = x.chain) :
    TrunkLaws (mapTrunk w g s) := by
  refine h.of_same rfl ?_ rfl rfl fun _ => id
  funext q
  rw [Trunks.standing, mapTrunk_entryAt w hg, Trunks.standing]

@[simp] theorem failAssignment_trunkLaws (h : TrunkLaws s) (p : Place) (c : AssignFailure) :
    TrunkLaws (failAssignment p c s) := by
  unfold failAssignment
  (repeat' split)
  · exact post_trunkLaws (mapTrunk_trunkLaws h _ (by intro _; rfl)) _
  · exact h
  · exact h

theorem Trunk.endPoll_chain (t : Trunk) : t.endPoll.chain = t.chain := by
  unfold Trunk.endPoll; (repeat' split) <;> rfl

@[simp] theorem endPoll_trunkLaws (h : TrunkLaws s) (w : Wing) : TrunkLaws (endPoll w s) :=
  mapTrunk_trunkLaws h w Trunk.endPoll_chain

@[simp] theorem endPollAt_trunkLaws (h : TrunkLaws s) (p : Place) : TrunkLaws (endPollAt p s) := by
  unfold endPollAt; split <;> simp [h]

theorem sendPoll_trunkLaws (h : TrunkLaws s) (w : Wing) : TrunkLaws (sendPoll w s) := by
  unfold sendPoll; dsimp only
  split
  · exact mapTrunk_trunkLaws h w (by intro _; rfl)
  · exact h

theorem loseUnit_trunkLaws (h : TrunkLaws s) (p : Place) : TrunkLaws (loseUnit p s) := by
  unfold loseUnit
  split
  · exact h
  · next unit => exact failAssignment_trunkLaws ((loseEffects_laws h unit).setEntry rfl) _ _

theorem failAssignment_entryAt (p : Place) (c : AssignFailure) (s : State) (q : Place) :
    (failAssignment p c s).trunks.entryAt q = s.trunks.entryAt q := by
  unfold failAssignment
  (repeat' split)
  · rw [(post_keeps _ _).1.2, mapTrunk_entryAt _ (by intro _; rfl)]
  · rfl
  · rfl

theorem loseUnit_absent (p : Place) (s : State) : (loseUnit p s).trunks.entryAt p = none := by
  unfold loseUnit
  split
  · assumption
  · rw [failAssignment_entryAt, setEntry_trunks, entryAt_putEntry, if_pos rfl]

end Sys2Proof.Machine
end

section
namespace Sys2Proof.Machine
variable {s t u : State} {p : Place} {e r : ChainEntry} {seat : Seat}

/-! ### The re-check of a PLAN PUT (R12, R28) -/

/-- A plan rewritten where every READY unit still fits. -/
theorem TrunkLaws.replan (h : TrunkLaws s) (trunks : u.trunks = s.trunks) (seats : u.seats = s.seats)
    (fits : ∀ (p : Place) (x : Seat) (type : UnitType), s.trunks.standing p = some ⟨some x, .ready, type⟩ →
      (u.plan[x].location = none ∨ u.plan[x].location = some p) ∧ typeFails u.plan[x].cls type = false) : TrunkLaws u := by
  have laws := (trunkLaws_iff s).1 h
  rw [trunkLaws_iff]
  rw [← trunks] at fits
  constructor
  case fits => exact fits
  all_goals simp only [trunks, seats]
  · exact laws.bound
  · exact laws.named
  · exact laws.nodup
  · exact laws.listed
  · exact laws.records

theorem failedCheck_none (h : failedCheck s p e.buttons.unitType seat = none) :
    (s.plan[seat].location = none ∨ s.plan[seat].location = some p) ∧
      typeFails s.plan[seat].cls e.buttons.unitType = false := by
  obtain ⟨-, location, type, -⟩ := checkUnit_passes (checkUnit_ready (e := { e with addr := some seat }) rfl h)
  exact ⟨location, type⟩

theorem deferredAdvance_trunkLaws (h : TrunkLaws s) (b : Bool) : TrunkLaws (deferredAdvance b s) := by
  unfold deferredAdvance
  split
  · exact h.of_kept
  · exact h

/-- With the record of a seat rewritten in `u`, the re-check of its bound unit brings the laws back (R28, R29). -/
theorem recheckBound_trunkLaws (h : TrunkLaws s) (trunks : u.trunks = s.trunks) (seats : u.seats = s.seats)
    (plan : ∀ x : Seat, x ≠ seat → u.plan[x] = s.plan[x]) : TrunkLaws (recheckBound seat u) := by
  have laws := (trunkLaws_iff s).1 h
  have others {q : Place} {x : Seat} {type : UnitType} (hq : s.trunks.standing q = some ⟨some x, .ready, type⟩)
      (other : x ≠ seat) := plan x other ▸ laws.fits q x type hq
  cases bound : s.trunks.binding[seat] with
  | none =>
    rw [recheckBound_unbound (by rw [trunks]; exact bound)]
    refine h.replan trunks seats fun q x type hq => others hq ?_
    rintro rfl
    rw [(laws.bound x q).2 ⟨type, hq⟩] at bound
    cases bound
  | some p =>
    obtain ⟨e, unit, ready, addr⟩ := (h.1.1 seat p).1 bound
    have boundU : u.trunks.binding[seat] = some p := by rw [trunks]; exact bound
    have unitU : u.trunks.entryAt p = some e := by rw [trunks]; exact unit
    cases check : failedCheck u p e.buttons.unitType seat with
    | none =>
      rw [recheckBound_passes boundU unitU addr check]
      refine h.replan trunks seats fun q x type hq => ?_
      by_cases same : x = seat
      · subst same
        have place := (laws.bound x q).2 ⟨type, hq⟩
        obtain rfl : p = q := Option.some.inj (bound.symm.trans place)
        obtain rfl : e.buttons.unitType = type := by
          rw [standing_of_entry unit (by simp [ready])] at hq
          exact congrArg Standing.unit (Option.some.inj hq)
        exact failedCheck_none check
      · exact others hq same
    | some k =>
      rw [recheckBound_fails boundU unitU addr check]
      exact deferredAdvance_trunkLaws
        (becomeBlocked_trunkLaws (leaveSeat_laws h unit ready addr trunks seats plan .plan .plan) e k) _

/-- The re-check of the bound unit rewrites no place but that of the unit (R28). -/
theorem recheckBound_entryAt {q : Place} (other : s.trunks.binding[seat] ≠ some q) :
    (recheckBound seat s).trunks.entryAt q = s.trunks.entryAt q := by
  unfold recheckBound
  split
  · rfl
  · next p bound =>
    have ne : q ≠ p := by rintro rfl; exact other bound
    split
    · rfl
    · split
      · rfl
      · dsimp only
        rw [(deferredAdvance_keeps _ _).2, becomeBlocked_trunks, leaveSeat_trunks]
        exact (entryAt_putEntry _ _ _ _).trans (if_neg ne)

theorem recheckBlocked_trunkLaws (h : TrunkLaws s) {b : BlockedEntry} {k : BlockKind}
    (unit : s.trunks.entryAt b.place = some e) (blocked : e.presence = .blocked k) : TrunkLaws (recheckBlocked s b) := by
  have was := standing_of_entry unit (by simp [blocked])
  unfold recheckBlocked
  rw [unit]
  dsimp only
  split
  · next seat check =>
    obtain ⟨addr, location, type, unbound⟩ := checkUnit_passes check
    have left := leaveBlocked_laws h unit blocked
    have free : s.trunks.binding[seat] = none := unbound.resolve_right fun bound => by
      obtain ⟨ty, hy⟩ := (((trunkLaws_iff s).1 h).bound seat b.place).1 bound
      simp [was, blocked] at hy
    refine post_trunkLaws ?_ _
    rw [trunkLaws_iff, leaveBlocked_trunks]
    have joined := left.ready_joins (p := b.place) (seat := seat) (type := e.buttons.unitType)
      (t := leaveBlocked b.place (s.setTrunks
        ((s.trunks.putEntry b.place (some { e with presence := .ready, refusal := 0 })).bind seat (some b.place))))
      (by simp) (by rw [leaveBlocked_trunks]; exact free) (by simpa using location) (by simpa using type) (by simp)
      (by simp [leaveBlocked_trunks, Trunks.bind]) (by simp [leaveBlocked_trunks, Trunks.bind]) (by simp)
    rw [Function.update_idem, leaveBlocked_trunks, ← addr] at joined
    convert joined using 1
    exact standing_putEntry _ _ _
  · next k' _ =>
    split
    · exact h
    · refine post_trunkLaws ?_ _
      have changed := ((trunkLaws_iff s).1 h).blocked_changes (k := k') (by rw [was, blocked])
        (t := setBlocked (s.trunks.blocked.map fun x => if x.place = b.place then { x with kind := k' } else x)
          (setEntry b.place (some { e with presence := .blocked k' }) s))
        (by simp) (by simp) (by simp) (by simp)
      rw [trunkLaws_iff]
      convert changed using 1
      · rw [setBlocked_trunks]
        exact standing_putEntry _ _ _
      · rfl

/-- The re-check of a blocked unit rewrites no place but that of the unit (R28). -/
theorem recheckBlocked_entryAt {b : BlockedEntry} {q : Place} (other : q ≠ b.place) :
    (recheckBlocked s b).trunks.entryAt q = s.trunks.entryAt q := by
  have put (r : ChainEntry) : (s.trunks.putEntry b.place (some r)).entryAt q = s.trunks.entryAt q := by
    rw [entryAt_putEntry, if_neg other]
  unfold recheckBlocked
  split
  · rfl
  · dsimp only
    split
    · rw [(post_keeps _ _).1.2, leaveBlocked_trunks]
      exact put _
    · split
      · rfl
      · rw [(post_keeps _ _).1.2, setBlocked_trunks]
        exact put _

theorem foldl_recheckBlocked_trunkLaws (l : List BlockedEntry) (apart : (l.map (·.place)).Nodup) (h : TrunkLaws s)
    (units : ∀ b ∈ l, ∃ e k, s.trunks.entryAt b.place = some e ∧ e.presence = .blocked k) :
    TrunkLaws (l.foldl recheckBlocked s) := by
  induction l generalizing s with
  | nil => exact h
  | cons b l ih =>
    obtain ⟨fresh, apart⟩ := List.nodup_cons.1 apart
    obtain ⟨e, k, unit, blocked⟩ := units b (by simp)
    refine ih apart (recheckBlocked_trunkLaws h unit blocked) fun c hc => ?_
    have other : c.place ≠ b.place := fun same => fresh (List.mem_map.2 ⟨c, hc, same⟩)
    rw [recheckBlocked_entryAt other]
    exact units c (by simp [hc])

theorem recheckSeat_trunkLaws (h : TrunkLaws s) (trunks : u.trunks = s.trunks) (seats : u.seats = s.seats)
    (plan : ∀ x : Seat, x ≠ seat → u.plan[x] = s.plan[x]) : TrunkLaws (recheckSeat seat u) := by
  refine foldl_recheckBlocked_trunkLaws _ ?_ (recheckBound_trunkLaws h trunks seats plan) fun b hb => ?_
  · rw [trunks]
    exact h.2.1.1.sublist (List.filter_sublist.map _)
  · rw [trunks] at hb
    obtain ⟨e, unit, blocked, -⟩ := (h.2.1.2 b).1 (List.mem_of_mem_filter hb)
    refine ⟨e, b.kind, ?_, blocked⟩
    rw [recheckBound_entryAt, trunks, unit]
    rw [trunks, ne_eq, h.1.1]
    rintro ⟨e', unit', ready, -⟩
    rw [unit] at unit'
    cases unit'
    simp [blocked] at ready

theorem classRequests_trunkLaws (h : TrunkLaws s) (seat : Seat) (before now : SeatClass) :
    TrunkLaws (classRequests seat before now s) := by
  have delegate (c : SeatClass) : TrunkLaws (leaveDelegate seat c s) := by
    unfold leaveDelegate; dsimp only; split <;> exact h.of_kept
  have chair (c : SeatClass) : TrunkLaws (leaveChair seat c s) := by
    unfold leaveChair; dsimp only; split <;> exact h.of_kept
  have added {u : State} (hu : TrunkLaws u) : TrunkLaws (if now = .chair then addChair seat u else u) := by
    split
    · exact hu.of_kept
    · exact hu
  unfold classRequests
  split
  · exact h
  · cases before with
    | delegate => exact added (delegate now)
    | chair => exact added (chair now)
    | vacant => exact added h
    | listener => exact added h

theorem writePlan_trunkLaws (h : TrunkLaws s) (seat : Seat) (r : PlanRecord) : TrunkLaws (writePlan seat r s) := by
  have rechecked := recheckSeat_trunkLaws (seat := seat)
    (u := (s.setPlan (put s.plan seat r)).setCursor { s.cursor with index := seat.succ }) h (by simp) (by simp)
    fun x other => by simp only [State.setCursor_plan, State.setPlan_plan, put_getElem_ne _ _ other]
  exact classRequests_trunkLaws rechecked _ _ _

theorem takePlanPut_trunkLaws (h : TrunkLaws s) (cls wing position delegation voice : Byte) :
    TrunkLaws (takePlanPut cls wing position delegation voice s).state := by
  unfold takePlanPut; dsimp only
  (repeat' split) <;> simp [h, writePlan_trunkLaws]

end Sys2Proof.Machine
end

section
namespace Sys2Proof.Machine
variable {s t u : State} {p : Place} {e r : ChainEntry} {seat : Seat}

/-! ### Answers (R21 to R35) -/

theorem takeMiss_trunkLaws (h : TrunkLaws s) (p : Place) : TrunkLaws (takeMiss p s) := by
  unfold takeMiss
  split
  · exact h
  · next unit =>
    have counted (n : Nat) (e : ChainEntry) (unit : s.trunks.entryAt p = some e) :=
      setEntry_trunkLaws (r := { e with miss := e.miss + 1, settle := n }) h unit rfl
    dsimp only; split
    · exact loseUnit_trunkLaws (counted _ _ unit) p
    · exact counted _ _ unit

theorem ordinaryAnswer_trunkLaws (h : TrunkLaws s) (unit : s.trunks.entryAt p = some e) {a : TrunkAnswer}
    (type : a.buttons.unitType = e.buttons.unitType) : TrunkLaws (ordinaryAnswer p e a s) := by
  have heard : TrunkLaws (setEntry p (some { e with miss := 0, buttons := a.buttons, level := a.level }) s) :=
    setEntry_trunkLaws h unit (by simp [ChainEntry.standing, type])
  unfold ordinaryAnswer; dsimp only
  split
  · next settling =>
    have free := standing_settling unit settling
    split
    · exact settleUnit_trunkLaws (h.without free) _
    · exact setEntry_none_trunkLaws h free (by simp [ChainEntry.standing, settling])
  · exact heard
  · next ready =>
    split
    · next seat addr =>
      refine takeReport_trunkLaws heard _ _ _ ?_
      have bound := (h.1.1 seat p).2 ⟨e, unit, ready, addr⟩
      rw [show (setEntry p _ s).trunks.binding = s.trunks.binding from rfl, bound]
      simp
    · exact heard

/-- A unit READY and bound to the seat it reports passes its checks. -/
theorem checkUnit_bound (h : TrunkLaws s) (bound : s.trunks.standing p = some ⟨some seat, .ready, e.buttons.unitType⟩)
    (addr : e.addr = some seat) : checkUnit s p e = .ready seat := by
  have laws := (trunkLaws_iff s).1 h
  have place := (laws.bound seat p).2 ⟨_, bound⟩
  obtain ⟨location, type⟩ := laws.fits p seat _ bound
  refine checkUnit_ready addr ?_
  rw [Bool.eq_false_iff, ne_eq, typeFails_iff] at type
  unfold failedCheck
  rw [if_neg (by tauto), if_neg type, if_neg (by simp [place])]

/-- A unit whose assignment completes leaves what it had; only the one READY for the requested seat stays bound (R34). -/
theorem releaseForAssignment_laws (h : TrunkLaws s) (unit : s.trunks.entryAt p = some e) (requested : Seat) :
    LawsWithout p (releaseForAssignment p e requested s) ∨
      (e.presence = .ready ∧ e.addr = some requested ∧ releaseForAssignment p e requested s = s) := by
  unfold releaseForAssignment
  split
  · next seat ready addr =>
    split
    · next same => exact .inr ⟨ready, by rw [addr, same], rfl⟩
    · exact .inl (deferredAdvance_laws (leaveSeat_laws h unit ready addr rfl rfl (fun _ _ => rfl) .plan .plan) _)
  · next blocked => exact .inl (leaveBlocked_laws h unit blocked)
  · next notBlocked notReady =>
    refine .inl (h.without (standing_settling unit ?_))
    cases presence : e.presence with
    | settling => rfl
    | blocked k => exact (notBlocked k presence).elim
    | ready =>
      obtain ⟨seat, addr⟩ := Option.ne_none_iff_exists'.1 (h.ready_addr unit presence)
      exact (notReady seat presence addr).elim

theorem completeAssignment_trunkLaws (h : TrunkLaws s) (unit : s.trunks.entryAt p = some e) {a : TrunkAnswer}
    (type : a.buttons.unitType = e.buttons.unitType) (requested : Seat) :
    TrunkLaws (completeAssignment p e a requested s) := by
  have taken : TrunkLaws (mapTrunk p.wing (fun t => { t with assignment := none }) s) :=
    mapTrunk_trunkLaws h _ (by intro _; rfl)
  have there : (mapTrunk p.wing (fun t => { t with assignment := none }) s).trunks.entryAt p = some e := by
    rw [mapTrunk_entryAt _ (by intro _; rfl), unit]
  unfold completeAssignment; dsimp only
  rcases releaseForAssignment_laws taken there requested with laws | ⟨ready, addr, stays⟩
  · split
    · next check => exact post_trunkLaws (becomeReady_trunkLaws laws check) _
    · exact post_trunkLaws (becomeBlocked_trunkLaws laws _ _) _
  · have bound := standing_of_entry there (by simp [ready])
    rw [ready, addr, ← type] at bound
    rw [stays, checkUnit_bound taken bound rfl]
    exact post_trunkLaws (becomeReady_stays taken bound rfl) _

/-- The answer that completes an assignment comes from a unit of the recorded type (R34). -/
theorem completes_type {asg : Option Assignment} {a : TrunkAnswer} {x : Seat} (h : completes asg p e a = some x) :
    a.buttons.unitType = e.buttons.unitType := by
  unfold completes at h
  (repeat' split at h) <;> simp_all

theorem takeAnswer_trunkLaws (h : TrunkLaws s) (p : Place) (a : TrunkAnswer) : TrunkLaws (takeAnswer p a s) := by
  unfold takeAnswer
  split
  · next absent => exact setEntry_none_trunkLaws h (standing_absent absent) rfl
  · next unit =>
    split
    · next done => exact completeAssignment_trunkLaws h unit (completes_type done) _
    · split
      · next same => exact ordinaryAnswer_trunkLaws h unit same.2
      · exact setEntry_none_trunkLaws (loseUnit_trunkLaws h p) (standing_absent (loseUnit_absent p s)) rfl

theorem finishPoll_trunkLaws (h : TrunkLaws s) (w : Wing) {take : Place → State → State}
    (taken : ∀ p, TrunkLaws (take p s)) : TrunkLaws (finishPoll w take s) := by
  unfold finishPoll timeoutAssignment
  (repeat' split) <;> simp [h, taken]

/-! ### Orders and events of the trunks -/

theorem takeSeatAssign_trunkLaws (h : TrunkLaws s) (w p : Byte) (x : Half) : TrunkLaws (takeSeatAssign w p x s).state := by
  have assigned (w : Wing) (a : Assignment) : TrunkLaws (mapTrunk w (fun t => { t with assignment := some a }) s) :=
    mapTrunk_trunkLaws h w (by intro _; rfl)
  have left {u : State} (hu : TrunkLaws u) (x : Seat) : TrunkLaws (leaveQueue x .plan (closeSeat x .plan u)) := hu.of_kept
  unfold takeSeatAssign; dsimp only
  (repeat' split) <;> simp only [refusedWith_state, answeredOk_state, h, assigned]
  exact left (assigned _ _) _

theorem takeTrunkRestart_trunkLaws (h : TrunkLaws s) (w : Byte) : TrunkLaws (takeTrunkRestart w s).state := by
  have lost {u : State} (hu : TrunkLaws u) (w : Wing) (l : List Pos) : TrunkLaws (l.foldl (restartPos w) u) :=
    foldl_inv TrunkLaws (restartPos w) (fun _ _ h => loseUnit_trunkLaws h _) l u hu
  unfold takeTrunkRestart
  split
  · exact h
  · next w _ =>
    dsimp only [answeredOk_state]
    generalize List.finRange 128 = l
    refine mapTrunk_trunkLaws (lost ?_ w l) w (by intro _; rfl)
    split <;> simp [h]

theorem refusalAt_trunkLaws (h : TrunkLaws s) (w : Wing) (p : Pos) : TrunkLaws (refusalAt w s p) := by
  refine h.of_same rfl ?_ rfl rfl fun _ => id
  rw [refusalAt, State.setTrunks_trunks, standing_putEntry, Function.update_eq_self_iff, Trunks.standing]
  cases s.trunks.entryAt ⟨w, p⟩ <;> rfl

/-! ### Every order and every command -/

/-- An order that leaves the plan and the trunks, and the seats that have a record. -/
theorem TrunkLaws.of_order {i : Instr} (h : TrunkLaws s) (records : KeepsRecords s (deliver i s).state)
    (plan : (deliver i s).state.plan = s.plan := by unfold deliver; simp)
    (trunks : (deliver i s).state.trunks = s.trunks := by unfold deliver; simp) : TrunkLaws (deliver i s).state :=
  h.of_kept plan trunks records

/-- Every order keeps the laws of the trunks. -/
theorem deliver_trunkLaws (i : Instr) (h : TrunkLaws s) : TrunkLaws (deliver i s).state := by
  cases i with
  | planPut a b c d e => exact takePlanPut_trunkLaws h a b c d e
  | seatAssign w p x => exact takeSeatAssign_trunkLaws h w p x
  | trunkRestart w => exact takeTrunkRestart_trunkLaws h w
  | queueAdd x k t => exact h.of_order (takeQueueAdd_records x k t s)
  | queueDrop x => exact h.of_order (takeQueueDrop_records x s)
  | listClose n => exact h.of_order (takeListClose_records n s)
  | floorGrant x g => exact h.of_order (takeFloorGrant_records x g s)
  | floorNext => exact h.of_order (takeFloorNext_records s)
  | floorRevoke x => exact h.of_order (takeFloorRevoke_records x s)
  | floorClear => exact h.of_order (takeFloorClear_records s)
  | wingMask m => exact h.of_order (takeWingMask_records m s)
  | unlock x => exact h.of_order (takeUnlock_records x s)
  | profilePut n r => exact h.of_order (takeProfilePut_records n r s)
  | profileSelect n => exact h.of_order (takeProfileSelect_records n s)
  | profileSource b => exact h.of_order (takeProfileSource_records b s)
  | _ => exact h.of_order (by unfold deliver; simp [KeepsRecords])

theorem powerUp_trunkLaws (s : State) : TrunkLaws (powerUp s) := reset_trunkLaws

theorem submit_trunkLaws (h : TrunkLaws s) {i : Instr} (e : submit i s = .next t) : TrunkLaws t :=
  whileRunning_inv h (submitOrder_inv (P := TrunkLaws) (fun _ _ h => h.of_kept rfl rfl rfl)
    (fun i _ h => deliver_trunkLaws i h) i s h) e

/-- Every command keeps the laws of the trunks. -/
theorem exec_trunkLaws (h : TrunkLaws s) (c : Instr) (e : exec c s = .next t) : TrunkLaws t := by
  have link : ∀ (s : State) (l : Link), TrunkLaws s → TrunkLaws (s.setLink l) := fun _ _ h => h.of_kept rfl rfl rfl
  have order : ∀ (i : Instr) (s : State), TrunkLaws s → TrunkLaws (deliver i s).state := fun i _ h => deliver_trunkLaws i h
  cases c with
  | powerReset => cases e; exact powerUp_trunkLaws s
  | resetHeldLow => cases e; exact powerUp_trunkLaws s
  | resetPin ns =>
    simp only [exec, execResetPin] at e
    have drawn : TrunkLaws (s.setDraws (s.draws + 1)) := h.of_kept rfl rfl rfl
    (repeat' split at e) <;> cases e
    · exact (powerUp_trunkLaws s).of_kept rfl rfl rfl
    · exact powerUp_trunkLaws _
    · exact powerUp_trunkLaws _
    · exact drawn
    · exact h
  | refclkReturns => cases e; exact h
  | receiveByte b => exact whileRunning_inv h (receive_inv link order b s h) e
  | receiveGapTimeout => exact whileRunning_inv h (link s { s.link with stage := .hunt } h) e
  | transmitFrameEnd => exact whileRunning_inv h (finishFrame_inv link order s h) e
  | deciExpiry => exact whileRunning_inv h (TrunkLaws.of_kept (t := endDeci s) h) e
  | restarted =>
    simp only [exec, execRestarted] at e
    refine whileRunning_inv h ?_ e
    split
    · exact h.of_kept
    · exact h
  | speechTimingExpiry =>
    simp only [exec, execSpeechTimingExpiry] at e
    have timed (l : List SlotNo) : TrunkLaws (l.foldl timeSlot s) := foldl_inv TrunkLaws timeSlot (fun _ _ h => h.of_kept) l s h
    refine whileRunning_inv h ?_ e
    split
    · exact (timed s.floor.speakers).of_kept
    · exact timed _
  | timeLimitClose slot =>
    simp only [exec, execTimeLimitClose] at e
    refine whileRunning_inv h ?_ e
    (repeat' split) <;> exact h.of_kept
  | allowanceExpiry =>
    simp only [exec, execAllowanceExpiry] at e
    refine whileRunning_inv h ?_ e
    split
    · exact h
    · exact h.of_kept
  | seatInputExpiry =>
    have quiet (l : List Seat) : TrunkLaws (l.foldl quietSeat s) := foldl_inv TrunkLaws quietSeat (fun _ _ h => h.of_kept) l s h
    simp only [exec, execSeatInputExpiry] at e
    exact whileRunning_inv h (quiet _) e
  | silence seat =>
    simp only [exec, execSilence] at e
    refine whileRunning_inv h ?_ e
    (repeat' split) <;> exact h.of_kept
  | voiceStart seat =>
    simp only [exec, execVoiceStart] at e
    refine whileRunning_inv h ?_ e
    (repeat' split) <;> exact h.of_kept
  | howl seat =>
    simp only [exec, execHowl] at e
    refine whileRunning_inv h ?_ e
    split
    · exact h.of_kept
    · exact h
  | howlClear seat =>
    simp only [exec, execHowlClear] at e
    refine whileRunning_inv h ?_ e
    split
    · exact h.of_kept
    · exact h
  | pselSample pins =>
    simp only [exec, execPselSample] at e
    exact whileRunning_inv h (TrunkLaws.of_kept h) e
  | profilePinsQualify => exact whileRunning_inv h (TrunkLaws.of_kept (t := qualifyPins s) h) e
  | refusalCountExpiry w =>
    have counted (l : List Pos) : TrunkLaws (l.foldl (refusalAt w) s) :=
      foldl_inv TrunkLaws (refusalAt w) (fun _ p h => refusalAt_trunkLaws h w p) l s h
    simp only [exec, execRefusalCountExpiry] at e
    exact whileRunning_inv h (counted _) e
  | pollSent w => exact whileRunning_inv h (sendPoll_trunkLaws h w) e
  | pollGoodAnswer w answer =>
    simp only [exec, execPollGoodAnswer] at e
    refine whileRunning_inv h ?_ e
    split
    · exact finishPoll_trunkLaws h w fun p => takeAnswer_trunkLaws h p _
    · exact finishPoll_trunkLaws h w fun p => takeMiss_trunkLaws h p
  | pollMissedAnswer w => exact whileRunning_inv h (finishPoll_trunkLaws h w fun p => takeMiss_trunkLaws h p) e
  | settleComplete w position =>
    simp only [exec, execSettleComplete] at e
    refine whileRunning_inv h ?_ e
    split
    · exact h
    · split
      · next unit =>
        split
        · next settling => exact endPollAt_trunkLaws (settleUnit_trunkLaws (h.without (standing_settling unit settling)) _) _
        · exact h
      · exact h
  | unitLost w position =>
    simp only [exec, execUnitLost] at e
    refine whileRunning_inv h ?_ e
    split
    · exact h
    · split
      · exact endPollAt_trunkLaws (loseUnit_trunkLaws h _) _
      · exact h
  | assignTimeout w =>
    simp only [exec, execAssignTimeout] at e
    refine whileRunning_inv h ?_ e
    split <;> simp [h]
  | _ => exact submit_trunkLaws h e

/-- Settles O58: every command keeps the laws; a step runs one command on the rest of the queue. -/
theorem stepsKeepTheTrunks : Obligations.StepsKeepTheTrunks := by
  intro s t h e
  unfold step at e
  split at e
  · cases e; exact h
  · next rest _ =>
    have front : TrunkLaws (s.setPending rest) := h.of_kept rfl rfl rfl
    exact exec_trunkLaws front _ e

end Sys2Proof.Machine
end

section
namespace Sys2Proof.Machine
variable {s t u : State} {w : Wing} {pos : Pos}

/-! ### Where a round stands (R19) -/

theorem posOf_posNumber (pos : Pos) : posOf (posNumber pos) = some pos := by
  have ok : 1 ≤ posNumber pos ∧ posNumber pos ≤ 128 := by unfold posNumber; omega
  rw [posOf, dif_pos ok]
  rfl

theorem Trunk.nextTarget_within {x : Trunk} (next : x.nextPos = posNumber pos) (within : posNumber pos ≤ x.roundLength) :
    x.nextTarget = some (pos, false) := by
  rw [Trunk.nextTarget, if_pos (next ▸ within), next, posOf_posNumber]
  rfl

theorem Trunk.nextTarget_past {x : Trunk} (past : x.roundLength < x.nextPos) (probe : posNumber pos = x.chainLength + 1) :
    x.nextTarget = some (pos, true) := by
  rw [Trunk.nextTarget, if_neg (not_le.2 past), ← probe, posOf_posNumber]
  rfl

theorem sendPoll_eq (idle : s.trunks.units[w].poll = none) {probe : Bool}
    (target : s.trunks.units[w].nextTarget = some (pos, probe)) :
    sendPoll w s = mapTrunk w (fun t => { t with
      poll := some (buildPoll s w pos probe), nextPos := t.nextPos + 1, assignment := countPoll pos t.assignment }) s := by
  simp only [sendPoll, idle, target]

/-! ### What a poll carries (R20, R34, R38, R39) -/

theorem buildPoll_pos (s : State) (w : Wing) (pos : Pos) (probe : Bool) :
    (buildPoll s w pos probe).pos = pos ∧ (buildPoll s w pos probe).endProbe = probe ∧
      (buildPoll s w pos probe).store = storeRequest s.trunks.units[w] pos := by
  unfold buildPoll; dsimp only; split <;> exact ⟨rfl, rfl, rfl⟩

theorem buildPoll_absent (absent : s.trunks.entryAt ⟨w, pos⟩ = none) (probe : Bool) :
    (buildPoll s w pos probe).mic = .closed ∧ (buildPoll s w pos probe).indicator = .off := by
  simp only [buildPoll, absent, and_self]

theorem buildPoll_entry {e : ChainEntry} (unit : s.trunks.entryAt ⟨w, pos⟩ = some e) (probe : Bool) :
    (buildPoll s w pos probe).mic = micOf s e ∧ (buildPoll s w pos probe).indicator = indicatorOf s e := by
  simp only [buildPoll, unit, and_self]

theorem conditionOf_slot {f : Floor} {seat : Seat} {n : SlotNo} {sl : Slot} (held : f.slotOf seat = some n)
    (slot : f.slots[n] = some sl) : f.conditionOf seat = some sl.condition := by
  simp only [Floor.conditionOf, held, slot, Option.map_some]

theorem conditionOf_none {f : Floor} {seat : Seat} (free : f.slotOf seat = none) : f.conditionOf seat = none := by
  simp only [Floor.conditionOf, free]

theorem seatMic_slot {seat : Seat} {n : SlotNo} {sl : Slot} (held : s.floor.slotOf seat = some n)
    (slot : s.floor.slots[n] = some sl) : seatMic s seat = if sl.condition = .open then .open else .mute := by
  rw [seatMic, conditionOf_slot held slot]
  cases sl.condition <;> rfl

theorem seatMic_chair {seat : Seat} (free : s.floor.slotOf seat = none) {c : ChairRecord}
    (chair : s.floor.chairOf seat = some c) : seatMic s seat =
      if c.micOpen = false then .closed else if c.softMuted = true then .mute else .open := by
  simp only [seatMic, conditionOf_none free, chair]
  cases c.micOpen <;> simp

theorem seatMic_nobody {seat : Seat} (free : s.floor.slotOf seat = none) (nobody : s.floor.chairOf seat = none) :
    seatMic s seat = .closed := by
  simp only [seatMic, conditionOf_none free, nobody]

/-- With the seat not LOCKED and no refusal shown, the row of a DELEGATE seat that holds a slot (R38). -/
theorem delegateIndicator_slot {seat : Seat} (free : s.floor.locked[seat] = false) {n : SlotNo} {sl : Slot}
    (held : s.floor.slotOf seat = some n) (slot : s.floor.slots[n] = some sl) : delegateIndicator s seat 0 =
      if sl.condition ≠ .open then .muted
      else if sl.warned = true ∨ ((inForce s).allowanceMode = .warn ∧
        (s.allowance.accounts[accountOf s.plan[seat] seat]).balance ≤ 0) then .warning
      else .speaking := by
  simp only [delegateIndicator, held, Option.bind_some, slot]
  simp [isLocked, free]

/-- The row of a DELEGATE seat that holds none, by its entry (R38). -/
theorem delegateIndicator_waiting {seat : Seat} (free : s.floor.locked[seat] = false) (nowhere : s.floor.slotOf seat = none) :
    delegateIndicator s seat 0 = if (firstEligible s).any fun e => e.seat == seat then .first
      else if hasEntry s seat then .request else .off := by
  simp [delegateIndicator, isLocked, free, nowhere]

theorem hasEntry_iff (s : State) (seat : Seat) : hasEntry s seat = true ↔ ∃ x ∈ s.queue.entries, x.seat = seat := by
  simp [hasEntry, RequestQueue.entryOf, List.find?_isSome]

theorem firstEligible_eq (s : State) :
    firstEligible s = s.queue.entries.find? fun x => decide (eligibility s x = .eligible) :=
  congrArg (s.queue.entries.find? ·) (funext fun _ => beq_eq_decide _ _)

/-! ### The end of a poll and of a round (R19) -/

/-- The poll was the last of its round: the end probe, or that of position 128 in a round of 128. -/
abbrev Trunk.LastPoll (x : Trunk) (q : Poll) : Prop := q.endProbe = true ∨ (x.roundLength = 128 ∧ 128 < x.nextPos)

theorem Trunk.endPoll_idle {x : Trunk} (idle : x.poll = none) : x.endPoll = x := by
  simp only [Trunk.endPoll, idle]

theorem Trunk.endPoll_polled {x : Trunk} {q : Poll} (polled : x.poll = some q) : x.endPoll =
    if x.LastPoll q then { x with poll := none, roundLength := x.chainLength, nextPos := 1 } else { x with poll := none } := by
  have last : (q.endProbe || (decide (x.roundLength < x.nextPos) && x.roundLength == 128)) = true ↔ x.LastPoll q := by
    simp only [Bool.or_eq_true, Bool.and_eq_true, decide_eq_true_eq, beq_iff_eq, Trunk.LastPoll]
    exact or_congr_right (by omega)
  simp only [Trunk.endPoll, polled, last]

theorem endPoll_units (w : Wing) (s : State) (w' : Wing) : (endPoll w s).trunks.units[w'] =
    if w' = w then s.trunks.units[w].endPoll else s.trunks.units[w'] := mapTrunk_units w _ s w'

/-! ### The chain length (R18) -/

/-- No position of the first `k` past the highest holds a unit. -/
theorem le_highestEntry (chain : Vector (Option ChainEntry) 128) {k : Nat} (pos : Pos) (below : pos.val < k)
    (unit : chain[pos] ≠ none) : pos.val + 1 ≤ highestEntry chain k := by
  induction k with
  | zero => omega
  | succ k ih =>
    unfold highestEntry
    split
    · omega
    · next absent =>
      refine ih (lt_of_le_of_ne (Nat.le_of_lt_succ below) ?_) unit
      rintro rfl
      exact absent (by simpa [Option.isSome_iff_ne_none] using unit)

/-- The highest position holds a unit. -/
theorem highestEntry_unit (chain : Vector (Option ChainEntry) 128) {k : Nat} (some : highestEntry chain k ≠ 0) :
    ∃ pos : Pos, posNumber pos = highestEntry chain k ∧ chain[pos] ≠ none := by
  induction k with
  | zero => exact absurd rfl some
  | succ k ih =>
    unfold highestEntry at some ⊢
    split
    · next unit =>
      by_cases lt : k < 128
      · exact ⟨⟨k, lt⟩, rfl, by simpa [lt, Option.isSome_iff_ne_none] using unit⟩
      · simp [Vector.getElem?_eq_none (not_lt.1 lt)] at unit
    · next absent =>
      rw [if_neg absent] at some
      exact ih some

/-! ### What leaves the rounds as they stand -/

/-- Where the round of a trunk stands. -/
def Trunk.round (x : Trunk) : Nat × Nat × Option Poll := (x.roundLength, x.nextPos, x.poll)

/-- All of a trunk but its chain. -/
def Trunk.outside (x : Trunk) : Option Assignment × Nat × Nat × Option Poll := (x.assignment, x.round)

/-- The rounds of the trunks stand as they did. -/
abbrev KeepsRounds (s t : State) : Prop := t.trunks.units.map Trunk.round = s.trunks.units.map Trunk.round

/-- The assignments and the rounds of the trunks stand as they did. -/
abbrev KeepsOutside (s t : State) : Prop := t.trunks.units.map Trunk.outside = s.trunks.units.map Trunk.outside

theorem KeepsRounds.at (h : KeepsRounds s t) (w : Wing) : t.trunks.units[w].round = s.trunks.units[w].round := by
  simpa using congrArg (·[w]) h

theorem KeepsOutside.at (h : KeepsOutside s t) (w : Wing) : t.trunks.units[w].outside = s.trunks.units[w].outside := by
  simpa using congrArg (·[w]) h

theorem KeepsOutside.assignment (h : KeepsOutside s t) (w : Wing) :
    t.trunks.units[w].assignment = s.trunks.units[w].assignment := congrArg Prod.fst (h.at w)

theorem KeepsOutside.rounds (h : KeepsOutside s t) : KeepsRounds s t := by
  refine Vector.ext fun i hi => ?_
  have here : t.trunks.units[i].round = s.trunks.units[i].round := congrArg Prod.snd (h.at ⟨i, hi⟩)
  simpa using here

theorem put_map {β : Type} (v : Vector Trunk 4) (w : Wing) {x : Trunk} {g : Trunk → β} (h : g x = g v[w]) :
    (put v w x).map g = v.map g := by
  have here : ∀ i : Wing, g (put v w x)[i] = g v[i] := fun i => by
    rw [put_getElem]
    split
    · next e => rw [e, h]
    · rfl
  exact Vector.ext fun i hi => by simpa using here ⟨i, hi⟩

@[simp] theorem putEntry_outside (t : Trunks) (p : Place) (e : Option ChainEntry) :
    (t.putEntry p e).units.map Trunk.outside = t.units.map Trunk.outside := put_map _ _ rfl

theorem mapTrunk_rounds (w : Wing) {g : Trunk → Trunk} (hg : ∀ x, (g x).round = x.round) (s : State) :
    KeepsRounds s (mapTrunk w g s) := put_map _ _ (hg _)

@[simp] theorem bind_units (t : Trunks) (seat : Seat) (p : Option Place) : (t.bind seat p).units = t.units := rfl

/-! #### Seat events and reports -/

@[simp] theorem showRefused_outside (seat : Seat) (s : State) : KeepsOutside s (showRefused seat s) := by
  unfold showRefused; (repeat' split) <;> simp [KeepsOutside]

@[simp] theorem enqueuePress_outside (seat : Seat) (k : EntryKind) (v : SeatEvent) (s : State) :
    KeepsOutside s (enqueuePress seat k v s) := by
  unfold enqueuePress refuse; dsimp only; (repeat' split) <;> simp [KeepsOutside]

@[simp] theorem queueOrRefuse_outside (seat : Seat) (s : State) : KeepsOutside s (queueOrRefuse seat s) := by
  unfold queueOrRefuse refuse; split <;> simp [KeepsOutside]

@[simp] theorem shortPress_outside (seat : Seat) (s : State) : KeepsOutside s (shortPress seat s) := by
  unfold shortPress requestOpen requestOverride refuse; (repeat' split) <;> simp [KeepsOutside]

@[simp] theorem longPress_outside (seat : Seat) (s : State) : KeepsOutside s (longPress seat s) := by
  unfold longPress refuse; (repeat' split) <;> simp [KeepsOutside]

@[simp] theorem talk_outside (seat : Seat) (s : State) : KeepsOutside s (talk seat s) := by
  unfold talk refuse; (repeat' split) <;> simp [KeepsOutside]

@[simp] theorem chairNext_outside (seat : Seat) (s : State) : KeepsOutside s (chairNext seat s) := by
  unfold chairNext refuse; (repeat' split) <;> simp [KeepsOutside]

@[simp] theorem takeRequest_outside (seat : Seat) (d : Bool) (s : State) : KeepsOutside s (takeRequest seat d s) := by
  unfold takeRequest; dsimp only; (repeat' split) <;> simp [KeepsOutside]

@[simp] theorem takeTalk_outside (seat : Seat) (d : Bool) (s : State) : KeepsOutside s (takeTalk seat d s) := by
  unfold takeTalk; dsimp only; (repeat' split) <;> simp [KeepsOutside]

@[simp] theorem takeNext_outside (seat : Seat) (d : Bool) (s : State) : KeepsOutside s (takeNext seat d s) := by
  unfold takeNext; dsimp only; (repeat' split) <;> simp [KeepsOutside]

@[simp] theorem takeReport_outside (seat : Seat) (b : Buttons) (level : Nat) (s : State) :
    KeepsOutside s (takeReport seat b level s) := by
  unfold takeReport takeButtons; split <;> simp [KeepsOutside]

/-! #### Answers and misses -/

@[simp] theorem becomeReady_outside (p : Place) (e : ChainEntry) (seat : Seat) (s : State) :
    KeepsOutside s (becomeReady p e seat s) := by simp [KeepsOutside, becomeReady_trunks]

@[simp] theorem becomeBlocked_outside (p : Place) (e : ChainEntry) (k : BlockKind) (s : State) :
    KeepsOutside s (becomeBlocked p e k s) := by simp [KeepsOutside, becomeBlocked_trunks]

@[simp] theorem settleUnit_outside (p : Place) (e : ChainEntry) (s : State) : KeepsOutside s (settleUnit p e s) := by
  unfold settleUnit; split <;> simp [KeepsOutside]

@[simp] theorem ordinaryAnswer_outside (p : Place) (e : ChainEntry) (a : TrunkAnswer) (s : State) :
    KeepsOutside s (ordinaryAnswer p e a s) := by
  unfold ordinaryAnswer; dsimp only; (repeat' split) <;> simp [KeepsOutside]

@[simp] theorem putEntry_rounds (t : Trunks) (p : Place) (e : Option ChainEntry) :
    (t.putEntry p e).units.map Trunk.round = t.units.map Trunk.round := put_map _ _ rfl

@[simp] theorem leaveSeat_rounds (seat : Seat) (c : CloseReason) (l : LeaveReason) (s : State) :
    KeepsRounds s (leaveSeat seat c l s) := by simp [KeepsRounds, leaveSeat_trunks]

@[simp] theorem leaveBlocked_rounds (p : Place) (s : State) : KeepsRounds s (leaveBlocked p s) := by
  simp [KeepsRounds, leaveBlocked_trunks]

@[simp] theorem failAssignment_rounds (p : Place) (c : AssignFailure) (s : State) : KeepsRounds s (failAssignment p c s) := by
  have taken := mapTrunk_rounds p.wing (g := fun t => { t with assignment := none }) (by intro _; rfl) s
  unfold failAssignment; (repeat' split) <;> simp [KeepsRounds, taken]

@[simp] theorem timeoutAssignment_rounds (p : Place) (s : State) : KeepsRounds s (timeoutAssignment p s) := by
  unfold timeoutAssignment; (repeat' split) <;> simp [KeepsRounds]

@[simp] theorem loseUnit_rounds (p : Place) (s : State) : KeepsRounds s (loseUnit p s) := by
  unfold loseUnit loseEffects; (repeat' split) <;> simp [KeepsRounds]

@[simp] theorem takeMiss_rounds (p : Place) (s : State) : KeepsRounds s (takeMiss p s) := by
  unfold takeMiss; dsimp only; (repeat' split) <;> simp [KeepsRounds]

@[simp] theorem completeAssignment_rounds (p : Place) (e : ChainEntry) (a : TrunkAnswer) (x : Seat) (s : State) :
    KeepsRounds s (completeAssignment p e a x s) := by
  have taken := mapTrunk_rounds p.wing (g := fun t => { t with assignment := none }) (by intro _; rfl) s
  have released (u : State) : KeepsRounds u (releaseForAssignment p e x u) := by
    unfold releaseForAssignment; (repeat' split) <;> simp [KeepsRounds]
  unfold completeAssignment; dsimp only; split <;> simp [KeepsRounds, becomeReady_trunks, becomeBlocked_trunks, released, taken]

@[simp] theorem takeAnswer_rounds (p : Place) (a : TrunkAnswer) (s : State) : KeepsRounds s (takeAnswer p a s) := by
  have ordinary (e : ChainEntry) := (ordinaryAnswer_outside p e a s).rounds
  unfold takeAnswer; (repeat' split) <;> simp [KeepsRounds, ordinary]

theorem finishPoll_idle (idle : s.trunks.units[w].poll = none) (take : Place → State → State) : finishPoll w take s = s := by
  simp only [finishPoll, idle]

theorem finishPoll_polled {q : Poll} (polled : s.trunks.units[w].poll = some q) (take : Place → State → State) :
    finishPoll w take s = endPoll w (timeoutAssignment ⟨w, q.pos⟩ (take ⟨w, q.pos⟩ s)) := by
  simp only [finishPoll, polled]

/-- What takes an answer or a miss leaves the round, so the poll ends as it stood before it. -/
theorem finishPoll_ends {q : Poll} (polled : s.trunks.units[w].poll = some q) {take : Place → State → State}
    (rounds : ∀ p, KeepsRounds s (take p s)) :
    let x := (finishPoll w take s).trunks.units[w]
    x.poll = none ∧ (s.trunks.units[w].LastPoll q → x.roundLength = x.chainLength ∧ x.nextPos = 1) ∧
      (¬s.trunks.units[w].LastPoll q →
        x.roundLength = s.trunks.units[w].roundLength ∧ x.nextPos = s.trunks.units[w].nextPos) := by
  have kept := KeepsRounds.at ((timeoutAssignment_rounds ⟨w, q.pos⟩ _).trans (rounds ⟨w, q.pos⟩)) w
  obtain ⟨length, next, poll⟩ := by simpa only [Trunk.round, Prod.mk.injEq] using kept
  rw [finishPoll_polled polled]
  dsimp only
  rw [endPoll_units, if_pos rfl, Trunk.endPoll_polled (poll.trans polled)]
  simp only [Trunk.LastPoll, length, next]
  split
  · next last => exact ⟨rfl, fun _ => ⟨rfl, rfl⟩, fun no => absurd last no⟩
  · next within => exact ⟨rfl, fun yes => absurd yes within, fun _ => ⟨rfl, rfl⟩⟩

theorem exec_pollMissedAnswer (running : s.resetHeld = false) (w : Wing) :
    exec (.pollMissedAnswer w) s = .next (finishPoll w takeMiss s) := whileRunning_running running _

theorem exec_pollGoodAnswer_some (running : s.resetHeld = false) (w : Wing) {answer : List Byte} {a : TrunkAnswer}
    (read : readAnswer answer = some a) :
    exec (.pollGoodAnswer w answer) s = .next (finishPoll w (fun p => takeAnswer p a) s) := by
  simp only [exec, execPollGoodAnswer, whileRunning_running running, read]

/-- Bytes that are no good answer are a miss (R169). -/
theorem exec_pollGoodAnswer_none (running : s.resetHeld = false) (w : Wing) {answer : List Byte}
    (read : readAnswer answer = none) : exec (.pollGoodAnswer w answer) s = .next (finishPoll w takeMiss s) := by
  simp only [exec, execPollGoodAnswer, whileRunning_running running, read]

/-! ### POLL_SENT -/

theorem storeRequest_none {x : Trunk} (empty : x.assignment = none) : storeRequest x pos = none := by
  simp only [storeRequest, empty]

theorem storeRequest_some {x : Trunk} {a : Assignment} (flight : x.assignment = some a) :
    storeRequest x pos = if a.pos = pos then some a.seat else none := by
  simp only [storeRequest, flight]

theorem countPoll_some (pos : Pos) (a : Assignment) :
    countPoll pos (some a) = some (if a.pos = pos then { a with polls := a.polls + 1 } else a) := rfl

theorem firstEligible_seat {seat : Seat} (first : (firstEligible s).any (fun e => e.seat == seat) = true) :
    ∃ x ∈ s.queue.entries, x.seat = seat := by
  cases found : firstEligible s with
  | none => simp [found] at first
  | some x => exact ⟨x, List.mem_of_find?_eq_some (firstEligible_eq s ▸ found), by simpa [found] using first⟩

/-- What a poll says of the microphone and the indicator of the unit READY for a seat (R38, R39). -/
theorem indicatorOf_ready {e : ChainEntry} {seat : Seat} (ready : e.presence = .ready) (addr : e.addr = some seat) :
    indicatorOf s e = match classOf s seat with
      | .delegate => delegateIndicator s seat e.refusal
      | .chair => chairIndicator s seat e.refusal
      | _ => if 0 < e.refusal then .refused else .off := by
  cases cls : classOf s seat <;> simp only [indicatorOf, ready, addr, cls]

theorem micOf_ready {e : ChainEntry} {seat : Seat} (ready : e.presence = .ready) (addr : e.addr = some seat) :
    micOf s e = seatMic s seat := by
  simp only [micOf, ready, addr]

theorem delegateIndicator_locked {seat : Seat} (locked : s.floor.locked[seat] = true) (n : Nat) :
    delegateIndicator s seat n = .locked := by simp [delegateIndicator, isLocked, locked]

theorem delegateIndicator_refused {seat : Seat} (free : s.floor.locked[seat] = false) {n : Nat} (refused : 0 < n) :
    delegateIndicator s seat n = .refused := by simp [delegateIndicator, isLocked, free, refused]

theorem chairIndicator_locked {seat : Seat} (locked : s.floor.locked[seat] = true) (n : Nat) :
    chairIndicator s seat n = .locked := by simp [chairIndicator, isLocked, locked]

theorem chairIndicator_refused {seat : Seat} (free : s.floor.locked[seat] = false) {n : Nat} (refused : 0 < n) :
    chairIndicator s seat n = .refused := by simp [chairIndicator, isLocked, free, refused]

theorem chairIndicator_chair {seat : Seat} (free : s.floor.locked[seat] = false) {c : ChairRecord}
    (chair : s.floor.chairOf seat = some c) : chairIndicator s seat 0 =
      if c.micOpen = false then .off else if c.softMuted = true then .muted else .speaking := by
  simp only [chairIndicator, isLocked, free, chair]
  cases c.micOpen <;> simp

/-- Settles O20: the poll that is built, field by field; the end of a poll by its last-of-the-round test; the chain length; and
an answer or a miss, which leaves the round until its poll ends. -/
theorem pollSentGoesRound : Obligations.PollSentGoesRound := by
  refine ⟨fun w pos probe s running idle within past => ?sent, fun w s => ?ends, fun w s => ?length,
    fun w answer s running => ⟨fun idle => ?idle, fun q polled => ?polled⟩⟩
  case sent =>
    have target : s.trunks.units[w].nextTarget = some (pos, probe) := by
      cases probe with
      | false => exact Trunk.nextTarget_within (within rfl).1 (within rfl).2
      | true => exact Trunk.nextTarget_past (past rfl).1 (past rfl).2
    obtain ⟨place, isProbe, store⟩ := buildPoll_pos s w pos probe
    have here : (sendPoll w s).trunks.units[w] = { s.trunks.units[w] with
        poll := some (buildPoll s w pos probe), nextPos := s.trunks.units[w].nextPos + 1
        assignment := countPoll pos s.trunks.units[w].assignment } := by
      rw [sendPoll_eq idle target, mapTrunk_units, if_pos rfl]
    refine ⟨target, sendPoll w s, buildPoll s w pos probe, whileRunning_running running _, ?_, ?_, ?_, fun w' other => ?_,
      by rw [here], by rw [here], by rw [here], by rw [here], place, isProbe, fun empty => ?_, fun a carried here' => ?_,
      fun a elsewhere other => ?_, fun absent => buildPoll_absent absent probe, fun e unit => ?_⟩
    · rw [sendPoll_eq idle target]; rfl
    · rw [sendPoll_eq idle target]; rfl
    · rw [sendPoll_eq idle target]; rfl
    · rw [sendPoll_eq idle target, mapTrunk_units, if_neg other]
    · rw [store, here, storeRequest_none empty, empty]; exact ⟨rfl, rfl⟩
    · rw [store, here, storeRequest_some carried, if_pos here', carried, countPoll_some, if_pos here', ← here']
      exact ⟨rfl, rfl⟩
    · rw [store, here, storeRequest_some elsewhere, if_neg other, elsewhere, countPoll_some, if_neg other]
      exact ⟨rfl, rfl⟩
    · obtain ⟨mic, indicator⟩ := buildPoll_entry unit probe
      rw [mic, indicator]
      refine ⟨fun settling => by simp [micOf, indicatorOf, settling], fun k blocked => by simp [micOf, indicatorOf, blocked],
        fun seat ready addr => ?_⟩
      rw [micOf_ready ready addr, indicatorOf_ready ready addr, classOf]
      refine ⟨fun n sl held slot => seatMic_slot held slot, fun free => ⟨fun c => seatMic_chair free, seatMic_nobody free⟩,
        fun cls => ?_, fun cls => ?_, fun cls => ?_⟩
      · simp only [cls]
        refine ⟨fun locked => delegateIndicator_locked locked _, fun free => delegateIndicator_refused free,
          fun free zero => ?_⟩
        rw [zero]
        refine ⟨fun n sl held slot => ?_, fun nowhere => ?_⟩
        · rw [delegateIndicator_slot free held slot]
          exact ⟨fun shut => if_pos shut, fun opened warn => by simp only [opened, ne_eq, not_true, if_false]; exact if_pos warn,
            fun opened quiet => by simp only [opened, ne_eq, not_true, if_false]; exact if_neg quiet⟩
        · rw [delegateIndicator_waiting free nowhere]
          rw [← firstEligible_eq]
          refine ⟨fun first => if_pos first, fun first waits => ?_, fun nobody => ?_⟩
          · rw [if_neg (by simp [first]), if_pos ((hasEntry_iff s seat).2 waits)]
          · have unqueued : ¬∃ x ∈ s.queue.entries, x.seat = seat := fun ⟨x, hx, same⟩ => nobody x hx same
            rw [if_neg (unqueued ∘ firstEligible_seat), if_neg (unqueued ∘ (hasEntry_iff s seat).1)]
      · simp only [cls]
        refine ⟨fun locked => chairIndicator_locked locked _, fun free => chairIndicator_refused free, fun free zero c chair => ?_⟩
        rw [zero, chairIndicator_chair free chair]
      · rcases cls with cls | cls <;> simp only [cls]
  case ends =>
    refine ⟨rfl, rfl, rfl, fun w' other => by rw [endPoll_units, if_neg other], fun idle => ?_, fun q polled => ⟨fun last => ?_,
      fun within => ?_⟩⟩
    · rw [endPoll_units, if_pos rfl, Trunk.endPoll_idle idle]
    · rw [endPoll_units, if_pos rfl, Trunk.endPoll_polled polled, if_pos last]
    · rw [endPoll_units, if_pos rfl, Trunk.endPoll_polled polled, if_neg within]
  case length =>
    refine ⟨fun pos unit => le_highestEntry _ pos pos.isLt unit, ?_⟩
    by_cases zero : s.trunks.units[w].chainLength = 0
    · exact .inl zero
    · obtain ⟨pos, number, unit⟩ := highestEntry_unit _ zero
      exact .inr ⟨pos, number, rfl, unit⟩
  case idle =>
    rw [exec_pollMissedAnswer running, finishPoll_idle idle]
    refine ⟨?_, rfl⟩
    cases read : readAnswer answer with
    | none => rw [exec_pollGoodAnswer_none running w read, finishPoll_idle idle]
    | some a => rw [exec_pollGoodAnswer_some running w read, finishPoll_idle idle]
  case polled =>
    have missed := finishPoll_ends polled (take := takeMiss) fun p => takeMiss_rounds p s
    refine ⟨?_, _, exec_pollMissedAnswer running w, missed⟩
    cases read : readAnswer answer with
    | none => exact ⟨_, exec_pollGoodAnswer_none running w read, missed⟩
    | some a =>
      exact ⟨_, exec_pollGoodAnswer_some running w read,
        finishPoll_ends polled (take := fun p => takeAnswer p a) fun p => takeAnswer_rounds p a s⟩

end Sys2Proof.Machine
end

section
namespace Sys2Proof.Machine
variable {s t u : State} {w : Wing} {p : Place} {pos : Pos} {e : ChainEntry} {a : TrunkAnswer}

/-! ### An answer frame reads back (R20, R169) -/

theorem byteSum_append (x y : List Byte) : byteSum (x ++ y) = byteSum x + byteSum y := by
  induction x with
  | nil => simp [byteSum]
  | cons b bs ih => rw [List.cons_append, byteSum, byteSum, ih, BitVec.add_assoc]

theorem byteSum_checkOf (x : List Byte) : byteSum (x ++ [checkOf x]) = 0 := by
  simp [byteSum_append, byteSum, checkOf]

theorem addressOf_addressHalf (x : Option Seat) : addressOf (addressHalf x) = some x := by
  cases x with
  | none => rfl
  | some seat =>
    have value : (BitVec.ofNat 16 seat.val).toNat = seat.val := BitVec.toNat_ofNat .. |>.trans (Nat.mod_eq_of_lt (by omega))
    have real : BitVec.ofNat 16 seat.val ≠ 0xFFFF := fun eq => by
      have blank : seat.val = 65535 := value.symm.trans (congrArg BitVec.toNat eq)
      omega
    simp only [addressOf, addressHalf, if_neg real, value, seat.isLt, dif_pos]

theorem halfBytes_append (h : Half) : (h.extractLsb' 8 8 ++ h.extractLsb' 0 8 : Half) = h := by
  ext i hi
  simp only [BitVec.getElem_append, BitVec.getElem_extractLsb']
  split
  · simp [← BitVec.getLsbD_eq_getElem hi]
  · rw [show 8 + (i - 8) = i by omega, BitVec.getLsbD_eq_getElem hi]

/-- The bits of a status byte: the reserved ones clear, the others the buttons and the stored flag (section 11.4). -/
theorem statusByte_reads (b : Buttons) (stored : Bool) (addr : Option Seat) (level : Fin 64) :
    let status := statusByte ⟨addr, b, stored, level⟩
    status.getLsbD 2 = false ∧ status.getLsbD 3 = false ∧ status.getLsbD 7 = false ∧ buttonsOf status = b ∧
      status.getLsbD 1 = stored := by
  simp only [statusByte]
  cases b with
  | delegate r => revert r stored; decide
  | chair k p n => revert k p n stored; decide

theorem readAnswer_answerFrame (a : TrunkAnswer) : readAnswer (answerFrame a) = some a := by
  obtain ⟨addr, b, stored, level⟩ := a
  obtain ⟨clear2, clear3, clear7, buttons, flag⟩ := statusByte_reads b stored addr level
  have value : (BitVec.ofNat 8 level.val).toNat = level.val :=
    BitVec.toNat_ofNat .. |>.trans (Nat.mod_eq_of_lt (by omega))
  have sum := byteSum_checkOf (halfBytes (addressHalf addr) ++ [statusByte ⟨addr, b, stored, level⟩, BitVec.ofNat 8 level.val])
  simp only [answerFrame, readAnswer, halfBytes, List.cons_append, List.nil_append] at sum ⊢
  rw [if_pos ⟨trivial, sum, clear2, clear3, clear7⟩, dif_pos (value.symm ▸ level.isLt)]
  simp only [halfBytes_append, addressOf_addressHalf, Option.map_some, buttons, flag, value]

/-! ### The commands that name a position -/

theorem exec_pollGoodAnswer (running : s.resetHeld = false) (w : Wing) (a : TrunkAnswer) :
    exec (.pollGoodAnswer w (answerFrame a)) s = .next (finishPoll w (fun p => takeAnswer p a) s) :=
  exec_pollGoodAnswer_some running w (readAnswer_answerFrame a)

theorem exec_unitLost (running : s.resetHeld = false) (unit : s.trunks.entryAt ⟨w, pos⟩ = some e) :
    exec (.unitLost w (posNumber pos)) s = .next (endPollAt ⟨w, pos⟩ (loseUnit ⟨w, pos⟩ s)) := by
  simp only [exec, execUnitLost, whileRunning_running running, posOf_posNumber, unit, Option.isSome_some, if_true]

/-- The entry of a unit as its settle count reaches 16. -/
def ChainEntry.settled (e : ChainEntry) : ChainEntry := { e with settle := 16, miss := 0 }

theorem exec_settleComplete (running : s.resetHeld = false) (unit : s.trunks.entryAt ⟨w, pos⟩ = some e)
    (settling : e.presence = .settling) : exec (.settleComplete w (posNumber pos)) s =
      .next (endPollAt ⟨w, pos⟩ (settleUnit ⟨w, pos⟩ e.settled s)) := by
  simp only [exec, execSettleComplete, whileRunning_running running, posOf_posNumber, unit, settling, if_true]
  rfl

theorem exec_assignTimeout (running : s.resetHeld = false) {x : Assignment} (flight : s.trunks.units[w].assignment = some x) :
    exec (.assignTimeout w) s = .next (endPollAt ⟨w, x.pos⟩ (failAssignment ⟨w, x.pos⟩ .timeout s)) := by
  simp only [exec, execAssignTimeout, whileRunning_running running, flight]

theorem endPollAt_here {q : Poll} (polled : s.trunks.units[p.wing].poll = some q) (here : q.pos = p.pos) :
    endPollAt p s = endPoll p.wing s := by
  rw [endPollAt, polled, if_pos]
  simpa using here

theorem endPollAt_elsewhere (elsewhere : ∀ q, s.trunks.units[p.wing].poll = some q → q.pos ≠ p.pos) : endPollAt p s = s := by
  rw [endPollAt, if_neg]
  cases polled : s.trunks.units[p.wing].poll with
  | none => simp
  | some q => simpa using elsewhere q polled

/-! ### Which rule takes an answer (R21, R22, R27, R34) -/

theorem takeAnswer_absent (absent : s.trunks.entryAt p = none) (a : TrunkAnswer) :
    takeAnswer p a s = setEntry p (some (newEntry a)) s := by
  simp only [takeAnswer, absent]

theorem completes_iff (asg : Option Assignment) (p : Place) (e : ChainEntry) (a : TrunkAnswer) (seat : Seat) :
    completes asg p e a = some seat ↔ ∃ x, asg = some x ∧ x.pos = p.pos ∧ a.stored = true ∧ a.addr = some x.seat ∧
      a.buttons.unitType = e.buttons.unitType ∧ x.seat = seat := by
  cases asg with
  | none => simp [completes]
  | some x => simp [completes, and_assoc]

theorem completes_none {asg : Option Assignment} (other : ∀ x, asg = some x → x.pos = p.pos →
    ¬(a.stored = true ∧ a.addr = some x.seat ∧ a.buttons.unitType = e.buttons.unitType)) : completes asg p e a = none := by
  rw [Option.eq_none_iff_forall_ne_some]
  intro seat done
  obtain ⟨x, flight, here, stored, addr, type, -⟩ := (completes_iff asg p e a seat).1 done
  exact other x flight here ⟨stored, addr, type⟩

theorem takeAnswer_ordinary (unit : s.trunks.entryAt p = some e)
    (incomplete : completes s.trunks.units[p.wing].assignment p e a = none) (addr : a.addr = e.addr)
    (type : a.buttons.unitType = e.buttons.unitType) : takeAnswer p a s = ordinaryAnswer p e a s := by
  simp only [takeAnswer, unit, incomplete, addr, type, and_self, if_true]

theorem takeAnswer_different (unit : s.trunks.entryAt p = some e)
    (incomplete : completes s.trunks.units[p.wing].assignment p e a = none)
    (different : a.addr ≠ e.addr ∨ a.buttons.unitType ≠ e.buttons.unitType) :
    takeAnswer p a s = setEntry p (some (newEntry a)) (loseUnit p s) := by
  have unequal : ¬(a.addr = e.addr ∧ a.buttons.unitType = e.buttons.unitType) := by
    rw [not_and_or]
    exact different
  simp only [takeAnswer, unit, incomplete, unequal, if_false]

theorem takeAnswer_completes (unit : s.trunks.entryAt p = some e) {x : Assignment}
    (flight : s.trunks.units[p.wing].assignment = some x) (here : x.pos = p.pos) (stored : a.stored = true)
    (addr : a.addr = some x.seat) (type : a.buttons.unitType = e.buttons.unitType) :
    takeAnswer p a s = completeAssignment p e a x.seat s := by
  have done := (completes_iff s.trunks.units[p.wing].assignment p e a x.seat).2 ⟨x, flight, here, stored, addr, type, rfl⟩
  simp only [takeAnswer, unit, done]

/-! ### The trunk of a wing after each operation -/

theorem failAssignment_elsewhere (c : AssignFailure)
    (elsewhere : ∀ x, s.trunks.units[p.wing].assignment = some x → x.pos ≠ p.pos) : failAssignment p c s = s := by
  cases flight : s.trunks.units[p.wing].assignment with
  | none => simp only [failAssignment, flight]
  | some x => simp only [failAssignment, flight, elsewhere x flight, if_false]

theorem failAssignment_here (c : AssignFailure) {x : Assignment} (flight : s.trunks.units[p.wing].assignment = some x)
    (here : x.pos = p.pos) : failAssignment p c s =
      post (.assignFailed p x.seat c) (mapTrunk p.wing (fun t => { t with assignment := none }) s) := by
  simp only [failAssignment, flight, here, if_true]

theorem timeoutAssignment_elsewhere (elsewhere : ∀ x, s.trunks.units[p.wing].assignment = some x → x.pos ≠ p.pos) :
    timeoutAssignment p s = s := by
  unfold timeoutAssignment
  (repeat' split)
  · exact failAssignment_elsewhere _ elsewhere
  · rfl
  · rfl

theorem filter_elsewhere {asg : Option Assignment} (elsewhere : ∀ x, asg = some x → x.pos ≠ pos) :
    (asg.filter fun x => x.pos ≠ pos) = asg := by
  cases asg with
  | none => rfl
  | some x => simp [elsewhere x rfl]

theorem filter_here {asg : Option Assignment} {x : Assignment} (flight : asg = some x) (here : x.pos = pos) :
    (asg.filter fun x => x.pos ≠ pos) = none := by simp [flight, here]

/-- An assignment to a place that fails leaves its trunk, and nothing else of the trunks changes (R35). -/
theorem failAssignment_units (p : Place) (c : AssignFailure) (s : State) (w : Wing) :
    (failAssignment p c s).trunks.units[w] = if w = p.wing then
      { s.trunks.units[p.wing] with
        assignment := (s.trunks.units[p.wing].assignment).filter fun x => x.pos ≠ p.pos }
      else s.trunks.units[w] := by
  by_cases here : ∃ x, s.trunks.units[p.wing].assignment = some x ∧ x.pos = p.pos
  · obtain ⟨x, flight, here⟩ := here
    rw [failAssignment_here c flight here, (post_keeps _ _).1.2, mapTrunk_units, filter_here flight here]
  · have elsewhere : ∀ x, s.trunks.units[p.wing].assignment = some x → x.pos ≠ p.pos := fun x flight pos => here ⟨x, flight, pos⟩
    rw [failAssignment_elsewhere c elsewhere, filter_elsewhere elsewhere]
    split
    · next same => rw [same]
    · rfl

@[simp] theorem failAssignment_binding (p : Place) (c : AssignFailure) (s : State) :
    (failAssignment p c s).trunks.binding = s.trunks.binding ∧ (failAssignment p c s).trunks.blocked = s.trunks.blocked := by
  unfold failAssignment; (repeat' split) <;> simp

theorem loseEffects_units (p : Place) (e : ChainEntry) (s : State) :
    (loseEffects p e s).trunks.units = s.trunks.units := by
  unfold loseEffects
  split <;> simp [leaveBlocked_trunks, leaveSeat_trunks]

theorem loseUnit_some (unit : s.trunks.entryAt p = some e) :
    loseUnit p s = failAssignment p .lost (setEntry p none (loseEffects p e s)) := by
  simp only [loseUnit, unit]

/-- A lost unit leaves its place, and an assignment to it its trunk; nothing else of the trunks changes (R26, R35). -/
theorem loseUnit_units (unit : s.trunks.entryAt p = some e) (w : Wing) :
    (loseUnit p s).trunks.units[w] = if w = p.wing then
      { s.trunks.units[p.wing] with
        chain := put s.trunks.units[p.wing].chain p.pos none
        assignment := (s.trunks.units[p.wing].assignment).filter fun x => x.pos ≠ p.pos }
      else s.trunks.units[w] := by
  have gone (w : Wing) : (setEntry p none (loseEffects p e s)).trunks.units[w] = if w = p.wing then
      { s.trunks.units[p.wing] with chain := put s.trunks.units[p.wing].chain p.pos none } else s.trunks.units[w] := by
    rw [setEntry_trunks, units_putEntry]
    simp only [loseEffects_units]
  rw [loseUnit_some unit, failAssignment_units, gone, gone, if_pos rfl]
  split <;> rfl

theorem loseUnit_entryAt (unit : s.trunks.entryAt p = some e) {q : Place} (other : q ≠ p) :
    (loseUnit p s).trunks.entryAt q = s.trunks.entryAt q := by
  rw [loseUnit_some unit, failAssignment_entryAt, setEntry_trunks, entryAt_putEntry, if_neg other]
  simp only [Trunks.entryAt, loseEffects_units]

theorem endPoll_entryAt (w : Wing) (s : State) (p : Place) : (endPoll w s).trunks.entryAt p = s.trunks.entryAt p :=
  mapTrunk_entryAt w Trunk.endPoll_chain s p

theorem Trunk.endPoll_assignment (x : Trunk) : x.endPoll.assignment = x.assignment := by
  unfold Trunk.endPoll; (repeat' split) <;> rfl

theorem Trunk.endPoll_poll (x : Trunk) : x.endPoll.poll = none := by
  unfold Trunk.endPoll
  split
  · assumption
  · (repeat' split) <;> rfl

theorem Trunk.endPoll_chainLength (x : Trunk) : x.endPoll.chainLength = x.chainLength :=
  congrArg (highestEntry · 128) x.endPoll_chain

/-- A unit put one past the chain length makes its position the chain length (R18). -/
theorem chainLength_putEntry {t : Trunks} (e : ChainEntry) (past : posNumber p.pos = t.units[p.wing].chainLength + 1) :
    (t.putEntry p (some e)).units[p.wing].chainLength = posNumber p.pos := by
  have chain : (t.putEntry p (some e)).units[p.wing].chain = put t.units[p.wing].chain p.pos (some e) := by
    rw [units_putEntry, if_pos rfl]
  have here : (put t.units[p.wing].chain p.pos (some e))[p.pos] ≠ none := by rw [put_getElem, if_pos rfl]; simp
  have least : posNumber p.pos ≤ (t.putEntry p (some e)).units[p.wing].chainLength := by
    rw [Trunk.chainLength, chain]
    exact le_highestEntry _ p.pos p.pos.isLt here
  obtain ⟨pos, number, unit⟩ := highestEntry_unit (t.putEntry p (some e)).units[p.wing].chain (k := 128)
    (show Trunk.chainLength _ ≠ 0 by unfold posNumber at least; omega)
  rw [chain, put_getElem] at unit
  split at unit
  · next same => rw [Trunk.chainLength, ← number, same]
  · have most := le_highestEntry t.units[p.wing].chain pos pos.isLt unit
    have above : posNumber pos = (t.putEntry p (some e)).units[p.wing].chainLength := number
    have old : highestEntry t.units[p.wing].chain 128 = t.units[p.wing].chainLength := rfl
    unfold posNumber at *
    omega

/-! ### A new unit (R21, R27) -/

/-- Settles O21: with no assignment left to the place, the answer's poll ends over the new entry, put on the chain as it was or,
for a different unit, as the loss leaves it. -/
theorem newUnitBeginsSettling : Obligations.NewUnitBeginsSettling := by
  refine ⟨fun w q a s running polled absent elsewhere => ?fresh, fun w q e a s running polled unit different other => ?replaced⟩
  case fresh =>
    have final : finishPoll w (fun p => takeAnswer p a) s = endPoll w (setEntry ⟨w, q.pos⟩ (some (newEntry a)) s) := by
      rw [finishPoll_polled polled, takeAnswer_absent absent, timeoutAssignment_elsewhere]
      intro x flight
      rw [setEntry_trunks, units_putEntry, if_pos rfl] at flight
      exact elsewhere x flight
    refine ⟨_, exec_pollGoodAnswer running w a, ?_⟩
    rw [final]
    refine ⟨rfl, ?_, fun p ne => ?_, ?_, ?_, rfl, rfl, fun past => ?_⟩
    · rw [endPoll_entryAt, setEntry_trunks, entryAt_putEntry, if_pos rfl]; rfl
    · rw [endPoll_entryAt, setEntry_trunks, entryAt_putEntry, if_neg ne]
    · rw [endPoll_units, if_pos rfl, Trunk.endPoll_poll]
    · rw [endPoll_units, if_pos rfl, Trunk.endPoll_assignment, setEntry_trunks, units_putEntry, if_pos rfl]
    · rw [endPoll_units, if_pos rfl, Trunk.endPoll_chainLength]
      exact chainLength_putEntry (p := ⟨w, q.pos⟩) _ past
  case replaced =>
    have after : (loseUnit ⟨w, q.pos⟩ s).trunks.units[w] = _ := (loseUnit_units unit w).trans (if_pos rfl)
    have ends : endPollAt ⟨w, q.pos⟩ (loseUnit ⟨w, q.pos⟩ s) = endPoll w (loseUnit ⟨w, q.pos⟩ s) :=
      endPollAt_here (q := q) (by rw [after]; exact polled) rfl
    have final : finishPoll w (fun p => takeAnswer p a) s =
        endPoll w (setEntry ⟨w, q.pos⟩ (some (newEntry a)) (loseUnit ⟨w, q.pos⟩ s)) := by
      rw [finishPoll_polled polled, takeAnswer_different unit (completes_none other) different, timeoutAssignment_elsewhere]
      intro x flight
      rw [setEntry_trunks, units_putEntry, if_pos rfl, after] at flight
      simpa using (Option.filter_eq_some_iff.1 flight).2
    refine ⟨_, exec_unitLost running unit, _, exec_pollGoodAnswer running w a, ?_⟩
    rw [final, ends]
    refine ⟨rfl, ?_, fun p ne => ?_, fun w' ne => ?_, ?_, ?_, rfl, rfl⟩
    · rw [endPoll_entryAt, setEntry_trunks, entryAt_putEntry, if_pos rfl]; rfl
    · rw [endPoll_entryAt, endPoll_entryAt, setEntry_trunks, entryAt_putEntry, if_neg ne]
    · rw [endPoll_units, endPoll_units, if_neg ne, if_neg ne, setEntry_trunks, units_putEntry, if_neg ne]
    · rw [endPoll_units, if_pos rfl, Trunk.endPoll_poll]
    · rw [endPoll_units, endPoll_units, if_pos rfl, if_pos rfl, Trunk.endPoll_assignment, Trunk.endPoll_assignment,
        setEntry_trunks, units_putEntry, if_pos rfl]

end Sys2Proof.Machine
end

section
namespace Sys2Proof.Machine
variable {s t u : State} {w : Wing} {p : Place} {pos : Pos} {e : ChainEntry} {a : TrunkAnswer}

/-! ### What the trunk units hold does not reach the floor, the queue and the bindings -/

/-- The state with other trunk units, the binding map and the blocked-unit table as they stand. -/
def withUnits (v : Vector Trunk 4) (s : State) : State := { s with trunks := { s.trunks with units := v } }

section WithUnits
variable (v : Vector Trunk 4)

theorem setEntry_eq (p : Place) (r : Option ChainEntry) (s : State) :
    setEntry p r s = withUnits (s.trunks.putEntry p r).units s := rfl

theorem mapTrunk_eq (w : Wing) (g : Trunk → Trunk) (s : State) :
    mapTrunk w g s = withUnits (mapTrunk w g s).trunks.units s := rfl

@[simp] theorem withUnits_withUnits (v v' : Vector Trunk 4) (s : State) : withUnits v (withUnits v' s) = withUnits v s := rfl

@[simp] theorem withUnits_self (s : State) : withUnits s.trunks.units s = s := rfl

theorem withUnits_ite (c : Prop) [Decidable c] (s t : State) :
    withUnits v (if c then s else t) = if c then withUnits v s else withUnits v t := apply_ite _ _ _ _

@[simp] theorem post_withUnits (b : NoticeBody) (s : State) : post b (withUnits v s) = withUnits v (post b s) := rfl

theorem noteOwners_withUnits (o : OwnerBits) (s : State) : noteOwners o (withUnits v s) = withUnits v (noteOwners o s) := by
  unfold noteOwners; rw [withUnits_ite]; rfl

@[simp] theorem setEntries_withUnits (es : List QueueEntry) (s : State) :
    setEntries es (withUnits v s) = withUnits v (setEntries es s) :=
  noteOwners_withUnits v (ownerBits s) (s.setQueue { s.queue with entries := es })

@[simp] theorem setList_withUnits (l : ListState) (n : Option Nat) (s : State) :
    setList l n (withUnits v s) = withUnits v (setList l n s) :=
  noteOwners_withUnits v (ownerBits s) (s.setQueue { s.queue with list := l, drainLimit := n, skips := 0 })

@[simp] theorem setChairs_withUnits (c : List ChairRecord) (s : State) :
    setChairs c (withUnits v s) = withUnits v (setChairs c s) :=
  noteOwners_withUnits v (ownerBits s) (s.setFloor { s.floor with chairs := c })

@[simp] theorem setBlocked_withUnits (b : List BlockedEntry) (s : State) :
    setBlocked b (withUnits v s) = withUnits v (setBlocked b s) :=
  noteOwners_withUnits v (ownerBits s) (s.setTrunks { s.trunks with blocked := b })

@[simp] theorem restartBlanking_withUnits (seat : Seat) (s : State) :
    restartBlanking seat (withUnits v s) = withUnits v (restartBlanking seat s) := by
  unfold restartBlanking
  rw [show (withUnits v s).seats = s.seats from rfl]
  split <;> rfl

/-! #### The queue and the floor -/

@[simp] theorem takeOut_withUnits (seat : Seat) (l : LeaveReason) (s : State) :
    takeOut seat l (withUnits v s) = withUnits v (takeOut seat l s) := by
  unfold takeOut
  rw [show (withUnits v s).queue = s.queue from rfl]
  split <;> simp

theorem foldl_withUnits {α : Type} {f : State → α → State} (hf : ∀ s x, f (withUnits v s) x = withUnits v (f s x)) (l : List α) :
    ∀ s : State, l.foldl f (withUnits v s) = withUnits v (l.foldl f s) := by
  induction l with
  | nil => exact fun _ => rfl
  | cons x l ih => exact fun s => by rw [List.foldl_cons, hf, ih, List.foldl_cons]

@[simp] theorem skipEntry_withUnits (s : State) (x : QueueEntry) :
    skipEntry (withUnits v s) x = withUnits v (skipEntry s x) := by
  unfold skipEntry; dsimp only; rw [takeOut_withUnits]; rfl

@[simp] theorem endDrain_withUnits (s : State) : endDrain (withUnits v s) = withUnits v (endDrain s) := by
  have skipped : (withUnits v s).queue.entries.foldl skipEntry (withUnits v s) =
      withUnits v (s.queue.entries.foldl skipEntry s) := foldl_withUnits v (skipEntry_withUnits v) _ s
  unfold endDrain; dsimp only
  rw [skipped, ← setList_withUnits, ← post_withUnits]
  rfl

@[simp] theorem drainEndTest_withUnits (s : State) : drainEndTest (withUnits v s) = withUnits v (drainEndTest s) := by
  unfold drainEndTest
  rw [endDrain_withUnits, withUnits_ite]
  rfl

@[simp] theorem leaveQueue_withUnits (seat : Seat) (l : LeaveReason) (s : State) :
    leaveQueue seat l (withUnits v s) = withUnits v (leaveQueue seat l s) := by
  unfold leaveQueue
  rw [takeOut_withUnits, drainEndTest_withUnits, withUnits_ite]
  rfl

@[simp] theorem occupy_withUnits (n : SlotNo) (rest : List SlotNo) (seat : Seat) (o : Origin) (g : Bool) (s : State) :
    occupy n rest seat o g (withUnits v s) = withUnits v (occupy n rest seat o g s) := by
  unfold occupy; dsimp only
  rw [← post_withUnits, ← restartBlanking_withUnits]
  rfl

@[simp] theorem openSlot_withUnits (seat : Seat) (o : Origin) (g : Bool) (s : State) :
    openSlot seat o g (withUnits v s) = withUnits v (openSlot seat o g s) := by
  unfold openSlot
  rw [show (withUnits v s).floor = s.floor from rfl, show hasEntry (withUnits v s) seat = hasEntry s seat from rfl]
  split
  · rfl
  · simp [withUnits_ite]

@[simp] theorem advance_withUnits (k : Nat) : ∀ s : State, advance k (withUnits v s) = withUnits v (advance k s) := by
  induction k with
  | zero => exact fun _ => rfl
  | succ k ih =>
    intro s
    unfold advance
    rw [show nextToAdvance (withUnits v s) = nextToAdvance s from rfl]
    split
    · rfl
    · rw [openSlot_withUnits, ih]

@[simp] theorem advanceCheck_withUnits (s : State) : advanceCheck (withUnits v s) = withUnits v (advanceCheck s) :=
  advance_withUnits v 8 s

@[simp] theorem tellClose_withUnits (seat : Seat) (s : State) :
    tellClose seat (withUnits v s) = withUnits v (tellClose seat s) :=
  drainEndTest_withUnits v (s.setQueue { s.queue with entries := s.queue.entries.map (hearEntry seat) })

@[simp] theorem closeSlot_withUnits (n : SlotNo) (c : CloseReason) (s : State) :
    closeSlot n c (withUnits v s) = withUnits v (closeSlot n c s) := by
  unfold closeSlot
  rw [show (withUnits v s).floor = s.floor from rfl]
  split
  · rfl
  · next sl _ =>
    exact tellClose_withUnits v sl.seat (post (.floorClosed n sl.seat c sl.origin sl.elapsed) (s.setFloor { s.floor with
      slots := put s.floor.slots n none, speakers := s.floor.speakers.erase n, free := n :: s.floor.free }))

@[simp] theorem closeSeatQuiet_withUnits (seat : Seat) (c : CloseReason) (s : State) :
    closeSeatQuiet seat c (withUnits v s) = withUnits v (closeSeatQuiet seat c s) := by
  unfold closeSeatQuiet
  rw [show (withUnits v s).floor = s.floor from rfl]
  split <;> simp

@[simp] theorem dropBindings_withUnits (seat : Seat) (d : Bool) (s : State) :
    dropBindings seat d (withUnits v s) = withUnits v (dropBindings seat d s) := by
  have tested (q : RequestQueue) : drainEndTest ((withUnits v s).setQueue q) = withUnits v (drainEndTest (s.setQueue q)) :=
    drainEndTest_withUnits v (s.setQueue q)
  unfold dropBindings; dsimp only
  rw [tested, advanceCheck_withUnits, withUnits_ite, withUnits_ite]
  rfl

/-! #### The chairs -/

@[simp] theorem openChair_withUnits (seat : Seat) (s : State) : openChair seat (withUnits v s) = withUnits v (openChair seat s) := by
  unfold openChair; dsimp only
  rw [show (withUnits v s).floor = s.floor from rfl, setChairs_withUnits, restartBlanking_withUnits, post_withUnits]

@[simp] theorem closeChair_withUnits (seat : Seat) (s : State) :
    closeChair seat (withUnits v s) = withUnits v (closeChair seat s) := by
  unfold closeChair
  rw [show (withUnits v s).floor = s.floor from rfl, setChairs_withUnits, post_withUnits]

theorem releaseChair_withUnits (s : State) (seat : Seat) :
    releaseChair (withUnits v s) seat = withUnits v (releaseChair s seat) := by
  unfold releaseChair
  rw [show (withUnits v s).floor = s.floor from rfl, show chairMayOpen (withUnits v s) seat = chairMayOpen s seat from rfl]
  split
  · rfl
  · simp [withUnits_ite]

theorem unmuteSlot_withUnits (s : State) (n : SlotNo) : unmuteSlot (withUnits v s) n = withUnits v (unmuteSlot s n) := by
  unfold unmuteSlot
  rw [show (withUnits v s).floor = s.floor from rfl]
  split
  · rw [withUnits_ite, ← restartBlanking_withUnits]; rfl
  · rfl

@[simp] theorem endHold_withUnits (seat : Seat) (s : State) : endHold seat (withUnits v s) = withUnits v (endHold seat s) := by
  have reopened := foldl_withUnits v (unmuteSlot_withUnits v) (post (.priorityOff seat) s).floor.speakers (post (.priorityOff seat) s)
  unfold endHold; dsimp only
  rw [post_withUnits, show (withUnits v (post (.priorityOff seat) s)).floor = (post (.priorityOff seat) s).floor from rfl, reopened]
  exact (congrArg advanceCheck (foldl_withUnits v (releaseChair_withUnits v) _ _)).trans (advanceCheck_withUnits v _)

@[simp] theorem setHeld_withUnits (seat : Seat) (b : Bool) (s : State) :
    setHeld seat b (withUnits v s) = withUnits v (setHeld seat b s) := setChairs_withUnits v _ _

@[simp] theorem lowerHold_withUnits (seat : Seat) (s : State) :
    lowerHold seat (withUnits v s) = withUnits v (lowerHold seat s) := by
  unfold lowerHold
  rw [show (withUnits v s).floor = s.floor from rfl]
  split
  · rfl
  · dsimp only
    rw [setHeld_withUnits, endHold_withUnits, withUnits_ite, withUnits_ite]
    rfl

@[simp] theorem withdrawChair_withUnits (seat : Seat) (s : State) :
    withdrawChair seat (withUnits v s) = withUnits v (withdrawChair seat s) := by
  unfold withdrawChair
  rw [show (withUnits v s).floor = s.floor from rfl]
  split
  · rfl
  · dsimp only
    rw [closeChair_withUnits, ← withUnits_ite, ← lowerHold_withUnits, ← setChairs_withUnits]
    rfl

/-! #### Leaving a seat and the blocked-unit table -/

@[simp] theorem leaveSeat_withUnits (seat : Seat) (c : CloseReason) (l : LeaveReason) (s : State) :
    leaveSeat seat c l (withUnits v s) = withUnits v (leaveSeat seat c l s) := by
  have unbound : forgetSeat seat ((withUnits v s).setTrunks ((withUnits v s).trunks.bind seat none)) =
      withUnits v (forgetSeat seat (s.setTrunks (s.trunks.bind seat none))) := rfl
  have same (t : State) : (withUnits v t).floor = t.floor ∧ classOf (withUnits v t) seat = classOf t seat := ⟨rfl, rfl⟩
  unfold leaveSeat; dsimp only
  rw [unbound, closeSeatQuiet_withUnits, leaveQueue_withUnits, (same _).1, dropBindings_withUnits, (same _).2,
    withdrawChair_withUnits, withUnits_ite]

@[simp] theorem leaveBlocked_withUnits (p : Place) (s : State) :
    leaveBlocked p (withUnits v s) = withUnits v (leaveBlocked p s) := setBlocked_withUnits v _ _

@[simp] theorem deferredAdvance_withUnits (b : Bool) (s : State) :
    deferredAdvance b (withUnits v s) = withUnits v (deferredAdvance b s) := by
  unfold deferredAdvance; rw [advanceCheck_withUnits, withUnits_ite]

theorem loseEffects_withUnits (p : Place) (e : ChainEntry) (s : State) :
    loseEffects p e (withUnits v s) = withUnits v (loseEffects p e s) := by
  have holds (seat : Seat) : holdsSlot (withUnits v s) seat = holdsSlot s seat := rfl
  unfold loseEffects
  split <;> simp [holds]

end WithUnits

end Sys2Proof.Machine
end

section
namespace Sys2Proof.Machine
variable {s t u : State} {w : Wing} {p : Place} {pos : Pos} {e r : ChainEntry} {a : TrunkAnswer} {q : Poll}

/-! ### A place rewritten twice -/

theorem put_put {α : Type} {n : Nat} (v : Vector α n) (i : Fin n) (x y : α) : put (put v i x) i y = put v i y :=
  Vector.set_set ..

@[simp] theorem putEntry_putEntry (t : Trunks) (p : Place) (e r : Option ChainEntry) :
    (t.putEntry p e).putEntry p r = t.putEntry p r := by
  simp only [Trunks.putEntry, put_getElem_self, put_put]

@[simp] theorem setEntry_setEntry (p : Place) (e r : Option ChainEntry) (s : State) :
    setEntry p r (setEntry p e s) = setEntry p r s :=
  congrArg s.setTrunks (putEntry_putEntry s.trunks p e r)

theorem mapTrunk_mapTrunk (w : Wing) (g h : Trunk → Trunk) (s : State) :
    mapTrunk w g (mapTrunk w h s) = mapTrunk w (fun x => g (h x)) s := by
  have units : put (put s.trunks.units w (h s.trunks.units[w])) w (g (put s.trunks.units w (h s.trunks.units[w]))[w]) =
      put s.trunks.units w (g (h s.trunks.units[w])) := by rw [put_getElem_self, put_put]
  exact congrArg (withUnits · s) units

theorem post_mapTrunk (b : NoticeBody) (w : Wing) (g : Trunk → Trunk) (s : State) :
    post b (mapTrunk w g s) = mapTrunk w g (post b s) := rfl

/-! ### The end of a poll and the assignment it carried (R19, R35) -/

theorem Trunk.endPoll_unassigned (x : Trunk) :
    ({ x with assignment := none } : Trunk).endPoll = { x.endPoll with assignment := none } := by
  obtain polled | ⟨q, polled⟩ := Option.eq_none_or_eq_some x.poll
  · rw [Trunk.endPoll_idle polled, Trunk.endPoll_idle (x := { x with assignment := none }) polled]
  · rw [Trunk.endPoll_polled polled, Trunk.endPoll_polled (x := { x with assignment := none }) polled]
    by_cases last : x.LastPoll q
    · rw [if_pos last, if_pos (show Trunk.LastPoll { x with assignment := none } q from last)]
      rfl
    · rw [if_neg last, if_neg (show ¬Trunk.LastPoll { x with assignment := none } q from last)]

/-- An assignment that fails and a poll that ends, in either order. -/
theorem failAssignment_endPoll (p : Place) (c : AssignFailure) (s : State) :
    failAssignment p c (endPoll p.wing s) = endPoll p.wing (failAssignment p c s) := by
  have kept : (endPoll p.wing s).trunks.units[p.wing].assignment = s.trunks.units[p.wing].assignment := by
    rw [endPoll_units, if_pos rfl, Trunk.endPoll_assignment]
  by_cases here : ∃ x, s.trunks.units[p.wing].assignment = some x ∧ x.pos = p.pos
  · obtain ⟨x, flight, here⟩ := here
    rw [failAssignment_here c flight here, failAssignment_here c (kept.trans flight) here, endPoll, endPoll, ← post_mapTrunk,
      mapTrunk_mapTrunk, mapTrunk_mapTrunk]
    simp only [Trunk.endPoll_unassigned]
  · have elsewhere : ∀ x, s.trunks.units[p.wing].assignment = some x → x.pos ≠ p.pos := fun x flight pos => here ⟨x, flight, pos⟩
    rw [failAssignment_elsewhere c elsewhere, failAssignment_elsewhere c (kept ▸ elsewhere)]

/-- The poll was the eighth or a later one that carried an assignment to its position (R35). -/
abbrev Trunk.late (x : Trunk) (q : Poll) : Bool := x.assignment.any fun x => decide (x.pos = q.pos ∧ 8 ≤ x.polls)

theorem timeoutAssignment_late (late : s.trunks.units[p.wing].assignment.any (fun x => decide (x.pos = p.pos ∧ 8 ≤ x.polls)) = true) :
    ∃ x, s.trunks.units[p.wing].assignment = some x ∧ x.pos = p.pos ∧
      timeoutAssignment p s = failAssignment p .timeout s := by
  cases flight : s.trunks.units[p.wing].assignment with
  | none => rw [flight] at late; cases late
  | some x =>
    rw [flight, Option.any_some, decide_eq_true_eq] at late
    refine ⟨x, rfl, late.1, ?_⟩
    simp only [timeoutAssignment, flight]
    exact if_pos late.2

theorem timeoutAssignment_early
    (early : s.trunks.units[p.wing].assignment.any (fun x => decide (x.pos = p.pos ∧ 8 ≤ x.polls)) = false) :
    timeoutAssignment p s = s := by
  cases flight : s.trunks.units[p.wing].assignment with
  | none => simp only [timeoutAssignment, flight]
  | some x =>
    rw [flight, Option.any_some, decide_eq_false_iff_not] at early
    simp only [timeoutAssignment, flight]
    split
    · next eighth =>
      refine failAssignment_elsewhere _ fun y same here => early ⟨?_, eighth⟩
      rw [Option.some.inj (flight.symm.trans same), here]
    · rfl

theorem assignTimeout_ended (running : s.resetHeld = false) (ended : s.trunks.units[w].poll = none) {x : Assignment}
    (flight : s.trunks.units[w].assignment = some x) :
    exec (.assignTimeout w) s = .next (failAssignment ⟨w, x.pos⟩ .timeout s) := by
  have idle : (failAssignment ⟨w, x.pos⟩ .timeout s).trunks.units[w].poll = none := by
    rw [failAssignment_units, if_pos rfl]
    exact ended
  rw [exec_assignTimeout running flight, endPollAt_elsewhere]
  intro q polled
  cases idle.symm.trans polled

/-- A poll that ends over the assignment it found: after what `take` made of its position comes ASSIGN_TIMEOUT, when the poll
was a late one (R19, R35). -/
theorem finishPoll_assignment (running : s.resetHeld = false) (polled : s.trunks.units[w].poll = some q)
    {take : Place → State → State} (outside : KeepsOutside s (take ⟨w, q.pos⟩ s)) (keeps : Keeps s (take ⟨w, q.pos⟩ s)) :
    .next (finishPoll w take s) = if s.trunks.units[w].late q then exec (.assignTimeout w) (endPoll w (take ⟨w, q.pos⟩ s))
      else .next (endPoll w (take ⟨w, q.pos⟩ s)) := by
  have same := outside.assignment w
  rw [finishPoll_polled polled]
  by_cases late : s.trunks.units[w].late q = true
  · obtain ⟨x, flight, here, fails⟩ := timeoutAssignment_late (s := take ⟨w, q.pos⟩ s) (p := ⟨w, q.pos⟩) (same ▸ late)
    have kept : (endPoll w (take ⟨w, q.pos⟩ s)).trunks.units[w].assignment = some x := by
      rw [endPoll_units, if_pos rfl, Trunk.endPoll_assignment, flight]
    have idle : (endPoll w (take ⟨w, q.pos⟩ s)).trunks.units[w].poll = none := by
      rw [endPoll_units, if_pos rfl, Trunk.endPoll_poll]
    rw [if_pos late, fails, ← failAssignment_endPoll ⟨w, q.pos⟩,
      assignTimeout_ended (s := endPoll w (take ⟨w, q.pos⟩ s)) (keeps.2.1.trans running) idle kept, here]
  · rw [if_neg late, timeoutAssignment_early (s := take ⟨w, q.pos⟩ s) (p := ⟨w, q.pos⟩)]
    rw [same]
    exact eq_false_of_ne_true late

/-! ### Misses (R22, R25) -/

theorem takeMiss_absent (absent : s.trunks.entryAt p = none) : takeMiss p s = s := by simp only [takeMiss, absent]

/-- The entry with a miss counted. -/
def ChainEntry.missed (e : ChainEntry) : ChainEntry :=
  { e with miss := e.miss + 1, settle := if e.presence = .settling then 0 else e.settle }

theorem takeMiss_some (unit : s.trunks.entryAt p = some e) : takeMiss p s =
    if 3 ≤ e.miss + 1 then loseUnit p (setEntry p (some e.missed) s) else setEntry p (some e.missed) s := by
  simp only [takeMiss, unit]
  rfl

/-- Of a lost unit's entry the loss reads its state and its address alone. -/
theorem loseUnit_setEntry (unit : s.trunks.entryAt p = some e) (presence : r.presence = e.presence) (addr : r.addr = e.addr) :
    loseUnit p (setEntry p (some r) s) = loseUnit p s := by
  have here : (setEntry p (some r) s).trunks.entryAt p = some r := by rw [setEntry_trunks, entryAt_putEntry, if_pos rfl]
  have effects : loseEffects p r (setEntry p (some r) s) = setEntry p (some r) (loseEffects p e s) := by
    have commute : withUnits (s.trunks.putEntry p (some r)).units (loseEffects p e s) = setEntry p (some r) (loseEffects p e s) := by
      rw [setEntry_eq]
      simp only [Trunks.putEntry, loseEffects_units]
    rw [← commute, ← loseEffects_withUnits, setEntry_eq]
    simp only [loseEffects, presence, addr]
  rw [loseUnit_some here, loseUnit_some unit, effects, setEntry_setEntry]

theorem timeoutAssignment_loseUnit (unit : s.trunks.entryAt p = some e) :
    timeoutAssignment p (loseUnit p s) = loseUnit p s := by
  refine timeoutAssignment_elsewhere fun x flight => ?_
  rw [loseUnit_units unit, if_pos rfl] at flight
  simpa using (Option.filter_eq_some_iff.1 flight).2

theorem endPollAt_loseUnit (unit : s.trunks.entryAt ⟨w, q.pos⟩ = some e) (polled : s.trunks.units[w].poll = some q) :
    endPollAt ⟨w, q.pos⟩ (loseUnit ⟨w, q.pos⟩ s) = endPoll w (loseUnit ⟨w, q.pos⟩ s) := by
  refine endPollAt_here (q := q) ?_ rfl
  rw [loseUnit_units unit, if_pos rfl]
  exact polled

/-! ### Settling over a recorded answer (R22, R23) -/

theorem settleUnit_setEntry (p : Place) (r : Option ChainEntry) (e : ChainEntry) (s : State) :
    settleUnit p e (setEntry p r s) = settleUnit p e s := by
  have check : checkUnit (setEntry p r s) p e = checkUnit s p e := rfl
  have kept (x : ChainEntry) := setEntry_setEntry p r (some x) s
  unfold settleUnit
  rw [check]
  split
  · simp only [becomeReady, setEntry_trunks, putEntry_putEntry]; rfl
  · simp only [becomeBlocked, kept]

/-! ### Refusal counts (R39) -/

theorem refusalAt_eq (w : Wing) (s : State) (p : Pos) :
    refusalAt w s p = setEntry ⟨w, p⟩ ((s.trunks.entryAt ⟨w, p⟩).map countRefusal) s := rfl

theorem foldl_refusalAt_entryAt (w : Wing) (pos : Pos) {l : List Pos} (apart : l.Nodup) :
    ∀ s : State, (l.foldl (refusalAt w) s).trunks.entryAt ⟨w, pos⟩ =
      if pos ∈ l then (s.trunks.entryAt ⟨w, pos⟩).map countRefusal else s.trunks.entryAt ⟨w, pos⟩ := by
  induction l with
  | nil => exact fun s => rfl
  | cons x l ih =>
    intro s
    obtain ⟨fresh, apart⟩ := List.nodup_cons.1 apart
    rw [List.foldl_cons, ih apart, refusalAt_eq, setEntry_trunks, entryAt_putEntry]
    by_cases here : pos = x
    · subst here
      rw [if_neg fresh, if_pos rfl, if_pos List.mem_cons_self]
    · have other : (⟨w, pos⟩ : Place) ≠ ⟨w, x⟩ := by simpa using here
      simp only [if_neg other, List.mem_cons, here, false_or]

theorem foldl_refusalAt_frame (w : Wing) (l : List Pos) (s : State) :
    let t := l.foldl (refusalAt w) s
    t = withUnits t.trunks.units s ∧ ∀ w', (w' ≠ w → t.trunks.units[w'] = s.trunks.units[w']) ∧
      t.trunks.units[w'] = { s.trunks.units[w'] with chain := t.trunks.units[w'].chain } := by
  refine foldl_inv (fun t => t = withUnits t.trunks.units s ∧ ∀ w', (w' ≠ w → t.trunks.units[w'] = s.trunks.units[w']) ∧
      t.trunks.units[w'] = { s.trunks.units[w'] with chain := t.trunks.units[w'].chain }) _ (fun t pos ⟨frame, units⟩ => ?_)
    l s ⟨rfl, fun _ => ⟨fun _ => rfl, rfl⟩⟩
  have step := putEntry_chain_only t.trunks ⟨w, pos⟩ ((t.trunks.entryAt ⟨w, pos⟩).map countRefusal)
  refine ⟨?_, fun w' => ⟨fun other => ?_, ?_⟩⟩
  · rw [refusalAt_eq, setEntry_eq]
    conv_lhs => rw [frame]
    rfl
  · rw [refusalAt_eq, setEntry_trunks, units_putEntry, if_neg other, (units w').1 other]
  · rw [refusalAt_eq, setEntry_trunks, step w', (units w').2]

theorem withUnits_frame (frame : t = withUnits t.trunks.units s) : t = { s with trunks := t.trunks } ∧
    t.trunks.binding = s.trunks.binding ∧ t.trunks.blocked = s.trunks.blocked := by
  rw [frame]; exact ⟨rfl, rfl, rfl⟩

theorem exec_refusalCountExpiry (running : s.resetHeld = false) (w : Wing) :
    exec (.refusalCountExpiry w) s = .next ((List.finRange 128).foldl (refusalAt w) s) := by
  simp only [exec, execRefusalCountExpiry, whileRunning_running running]

/-! ### Reports (R41, R42) -/

theorem beginSeat_has {seat : Seat} (has : s.seats[seat] ≠ none) (b : Buttons) : beginSeat seat b s = s := by
  cases record : s.seats[seat] with
  | none => exact absurd record has
  | some r => simp only [beginSeat, record]

theorem beginSeat_fresh {seat : Seat} (fresh : s.seats[seat] = none) (b : Buttons) :
    beginSeat seat b s = s.setSeats (put s.seats seat (some (SeatRecord.first b))) := by
  simp only [beginSeat, fresh]

theorem takeReport_has {seat : Seat} (has : s.seats[seat] ≠ none) (b : Buttons) (level : Nat) :
    takeReport seat b level s = takeHowl seat level (takeVoice seat level (takeButtons seat b s)) := by
  rw [takeReport, beginSeat_has has]

/-- A first report is a report to a seat whose record stands as the report begins it. -/
theorem takeReport_fresh {seat : Seat} (fresh : s.seats[seat] = none) (b : Buttons) (level : Nat) : takeReport seat b level s =
    takeReport seat b level (s.setSeats (put s.seats seat (some (SeatRecord.first b)))) := by
  have has : (s.setSeats (put s.seats seat (some (SeatRecord.first b)))).seats[seat] ≠ none := by
    rw [State.setSeats_seats, put_getElem_self]
    exact Option.some_ne_none _
  rw [takeReport_has has, takeReport, beginSeat_fresh fresh]

/-! ### Which part of an ordinary answer is taken (R22, R24) -/

/-- The entry with an answer recorded (R22). -/
def ChainEntry.heard (e : ChainEntry) (a : TrunkAnswer) : ChainEntry := { e with miss := 0, buttons := a.buttons, level := a.level }

theorem ordinaryAnswer_settling (settling : e.presence = .settling) (a : TrunkAnswer) (p : Place) (s : State) :
    ordinaryAnswer p e a s = if 16 ≤ e.settle + 1 then settleUnit p { e.heard a with settle := 16 } s
      else setEntry p (some { e.heard a with settle := e.settle + 1 }) s := by
  cases e; cases settling; rfl

theorem ordinaryAnswer_counts (settling : e.presence = .settling) (few : e.settle < 15) (a : TrunkAnswer) (p : Place) (s : State) :
    ordinaryAnswer p e a s = setEntry p (some { e.heard a with settle := e.settle + 1 }) s := by
  rw [ordinaryAnswer_settling settling, if_neg (by omega)]

theorem ordinaryAnswer_settles (settling : e.presence = .settling) (last : 15 ≤ e.settle) (a : TrunkAnswer) (p : Place) (s : State) :
    ordinaryAnswer p e a s = settleUnit p { e.heard a with settle := 16 } s := by
  rw [ordinaryAnswer_settling settling, if_pos (by omega)]

theorem ordinaryAnswer_blocked {k : BlockKind} (blocked : e.presence = .blocked k) (a : TrunkAnswer) (p : Place) (s : State) :
    ordinaryAnswer p e a s = setEntry p (some (e.heard a)) s := by
  cases e; cases blocked; rfl

theorem ordinaryAnswer_ready {seat : Seat} (ready : e.presence = .ready) (addr : e.addr = some seat) (a : TrunkAnswer)
    (p : Place) (s : State) :
    ordinaryAnswer p e a s = takeReport seat a.buttons a.level.val (setEntry p (some (e.heard a)) s) := by
  cases e; cases ready; cases addr; rfl

/-- Settles O22: what an answer or a miss makes of its entry, by the entry's state and counts, and then the end of its poll. -/
theorem answersAndRefusalsAreCounted : Obligations.AnswersAndRefusalsAreCounted := by
  refine ⟨fun w s running => ?expiry, fun w q s running polled => ⟨fun absent => ?absent, fun e unit => ⟨fun few => ?few,
    fun third => ?third, fun a addr type other => ?answer⟩⟩, fun w bytes s running bad => ?bad,
    fun seat b level s => ⟨fun fresh => ?first, fun has => takeReport_has has b level⟩⟩
  case expiry =>
    obtain ⟨frame, units⟩ := foldl_refusalAt_frame w (List.finRange 128) s
    obtain ⟨trunks, binding, blocked⟩ := withUnits_frame frame
    refine ⟨_, exec_refusalCountExpiry running w, trunks, binding, blocked, fun w' => (units w').1, (units w).2, fun pos => ?_⟩
    rw [foldl_refusalAt_entryAt w pos (List.nodup_finRange 128), if_pos (List.mem_finRange pos)]
    rfl
  case absent =>
    rw [exec_pollMissedAnswer running, finishPoll_assignment running polled] <;> rw [takeMiss_absent absent]
    exact ⟨rfl, rfl, rfl, rfl, rfl, rfl, rfl⟩
  case few =>
    have counted : takeMiss ⟨w, q.pos⟩ s = setEntry ⟨w, q.pos⟩ (some e.missed) s := by
      rw [takeMiss_some unit, if_neg (by omega)]
    rw [exec_pollMissedAnswer running, finishPoll_assignment running polled] <;> rw [counted]
    · rfl
    · exact putEntry_outside _ _ _
    · exact ⟨rfl, rfl, rfl, rfl, rfl, rfl, rfl⟩
  case third =>
    have lost : takeMiss ⟨w, q.pos⟩ s = loseUnit ⟨w, q.pos⟩ s := by
      rw [takeMiss_some unit, if_pos (by omega)]
      exact loseUnit_setEntry unit rfl rfl
    rw [exec_pollMissedAnswer running, finishPoll_polled polled, lost, timeoutAssignment_loseUnit unit, exec_unitLost running unit,
      endPollAt_loseUnit unit polled]
  case answer =>
    have ordinary : takeAnswer ⟨w, q.pos⟩ a s = ordinaryAnswer ⟨w, q.pos⟩ e a s :=
      takeAnswer_ordinary unit (completes_none fun x flight here done => other x flight here ⟨done.1, done.2.1⟩) addr type
    have ends := finishPoll_assignment running polled (take := fun p => takeAnswer p a)
      (ordinary ▸ ordinaryAnswer_outside ⟨w, q.pos⟩ e a s) (ordinary ▸ ordinaryAnswer_keeps ⟨w, q.pos⟩ e a s)
    simp only [ordinary] at ends
    dsimp only
    rw [exec_pollGoodAnswer running, ends]
    refine ⟨fun settling few => ?_, fun settling last => ?_, fun k blocked => ?_, fun seat ready seated => ?_⟩
    · rw [ordinaryAnswer_counts settling few]; rfl
    · rw [ordinaryAnswer_settles settling last]
      have recorded : (setEntry ⟨w, q.pos⟩ (some (e.heard a)) s).trunks.entryAt ⟨w, q.pos⟩ = some (e.heard a) := by
        rw [setEntry_trunks, entryAt_putEntry, if_pos rfl]
      have settled := exec_settleComplete (s := setEntry ⟨w, q.pos⟩ (some (e.heard a)) s) running recorded settling
      have still := (settleUnit_outside ⟨w, q.pos⟩ { e.heard a with settle := 16 } s).rounds.at w
      rw [settleUnit_setEntry, endPollAt_here (q := q) ((congrArg (·.2.2) still).trans polled) rfl] at settled
      exact ⟨_, settled, rfl⟩
    · rw [ordinaryAnswer_blocked blocked]; rfl
    · rw [ordinaryAnswer_ready ready seated]; rfl
  case bad => rw [exec_pollGoodAnswer_none running w bad, exec_pollMissedAnswer running]
  case first =>
    rw [takeReport_fresh fresh]
    cases b <;> rfl

end Sys2Proof.Machine
end

section
namespace Sys2Proof.Machine
variable {s t u : State} {w : Wing} {p : Place} {pos : Pos} {e r : ChainEntry} {seat : Seat}

/-! ### The checks, one by one (R23) -/

theorem checkUnit_blank (blank : e.addr = none) : checkUnit s p e = .blocked .unbound := by simp only [checkUnit, blank]

section
variable (addr : e.addr = some seat)
include addr

theorem checkUnit_location (wrongPlace : s.plan[seat].location ≠ none ∧ s.plan[seat].location ≠ some p) :
    checkUnit s p e = .blocked .location := checkUnit_blocked addr (if_pos wrongPlace)

variable (rightPlace : ¬(s.plan[seat].location ≠ none ∧ s.plan[seat].location ≠ some p))
include rightPlace

theorem checkUnit_type (wrongType : (s.plan[seat].cls = .chair ∧ e.buttons.unitType = .delegateUnit)
    ∨ (s.plan[seat].cls = .delegate ∧ e.buttons.unitType = .chairUnit)) : checkUnit s p e = .blocked .type :=
  checkUnit_blocked addr ((if_neg rightPlace).trans (if_pos wrongType))

variable (rightType : ¬((s.plan[seat].cls = .chair ∧ e.buttons.unitType = .delegateUnit)
    ∨ (s.plan[seat].cls = .delegate ∧ e.buttons.unitType = .chairUnit)))
include rightType

theorem checkUnit_duplicate (taken : s.trunks.binding[seat] ≠ none ∧ s.trunks.binding[seat] ≠ some p) :
    checkUnit s p e = .blocked .duplicate :=
  checkUnit_blocked addr ((if_neg rightPlace).trans ((if_neg rightType).trans (if_pos taken)))

theorem checkUnit_passed (untaken : ¬(s.trunks.binding[seat] ≠ none ∧ s.trunks.binding[seat] ≠ some p)) :
    checkUnit s p e = .ready seat :=
  checkUnit_ready addr ((if_neg rightPlace).trans ((if_neg rightType).trans (if_neg untaken)))

end

/-! ### A unit becomes READY (R23) -/

theorem becomeReady_posts (q : Queues s) (p : Place) (e : ChainEntry) (seat : Seat) :
    Posts s (becomeReady p e seat s) [.seatReady p seat e.buttons.unitType] :=
  post_posts (u := s.setTrunks ((s.trunks.putEntry p (some { e with presence := .ready })).bind seat (some p))) q .refl rfl _

theorem settleUnit_ready (check : checkUnit s p e = .ready seat) :
    settleUnit p e s = becomeReady p { e with refusal := 0 } seat s := by simp only [settleUnit, check]

theorem settleUnit_blocked {k : BlockKind} (check : checkUnit s p e = .blocked k) :
    settleUnit p e s = becomeBlocked p e k s := by simp only [settleUnit, check]

theorem settleUnit_frame (p : Place) (e : ChainEntry) (s : State) :
    settleUnit p e s = { s with link := (settleUnit p e s).link, trunks := (settleUnit p e s).trunks } := by
  obtain ⟨keeps, seats, queue, floor⟩ := settleUnit_keeps p e s
  exact eq_with_link_trunks keeps seats queue floor

theorem settleUnit_entryAt (e : ChainEntry) {q : Place} (other : q ≠ p) (s : State) :
    (settleUnit p e s).trunks.entryAt q = s.trunks.entryAt q := by
  unfold settleUnit
  split
  · rw [becomeReady_trunks]
    exact (entryAt_putEntry _ _ _ _).trans (if_neg other)
  · rw [becomeBlocked_trunks]
    exact (entryAt_putEntry _ _ _ _).trans (if_neg other)

/-! ### The end of a poll at a place -/

theorem endPollAt_frame (p : Place) (s : State) : endPollAt p s = withUnits (endPollAt p s).trunks.units s := by
  unfold endPollAt; split <;> rfl

@[simp] theorem endPollAt_same (p : Place) (s : State) : (endPollAt p s).link = s.link ∧
    (endPollAt p s).trunks.binding = s.trunks.binding ∧ (endPollAt p s).trunks.blocked = s.trunks.blocked := by
  rw [endPollAt_frame]; exact ⟨rfl, rfl, rfl⟩

theorem endPollAt_entryAt (p : Place) (s : State) (q : Place) : (endPollAt p s).trunks.entryAt q = s.trunks.entryAt q := by
  unfold endPollAt
  split
  · exact endPoll_entryAt _ _ _
  · rfl

theorem endPollAt_other (s : State) {w : Wing} (other : w ≠ p.wing) :
    (endPollAt p s).trunks.units[w] = s.trunks.units[w] := by
  unfold endPollAt
  split
  · rw [endPoll_units, if_neg other]
  · rfl

theorem endPollAt_units (p : Place) (s : State) {β : Type} {g : Trunk → β} (keeps : ∀ x : Trunk, g x.endPoll = g x) (w : Wing) :
    g (endPollAt p s).trunks.units[w] = g s.trunks.units[w] := by
  unfold endPollAt
  split
  · rw [endPoll_units]
    split
    · next same => rw [keeps, same]
    · rfl
  · rfl

theorem endPollAt_assignment (p : Place) (s : State) (w : Wing) :
    (endPollAt p s).trunks.units[w].assignment = s.trunks.units[w].assignment :=
  endPollAt_units p s Trunk.endPoll_assignment w

theorem endPollAt_chain (p : Place) (s : State) (w : Wing) : (endPollAt p s).trunks.units[w].chain = s.trunks.units[w].chain :=
  endPollAt_units p s Trunk.endPoll_chain w

/-! ### SETTLE_COMPLETE (R22, R23) -/

theorem Sending.queues (sending : Sending s) : Queues s := .inl sending.2

/-- The poll that ends leaves what the check has made of the unit. -/
theorem posts_endPollAt {l : List NoticeBody} (posts : Posts s t l) (p : Place) : Posts s (endPollAt p t) l := by
  unfold Posts
  rw [(endPollAt_same p t).1]
  exact posts

/-- Settles O23: the settled unit, by the outcome of its checks; then the end of its poll. -/
theorem settleCompleteMakesTheChecks : Obligations.SettleCompleteMakesTheChecks := by
  intro w pos e s sending unit settling
  have frame : endPollAt ⟨w, pos⟩ (settleUnit ⟨w, pos⟩ e.settled s) = { s with
      link := (endPollAt ⟨w, pos⟩ (settleUnit ⟨w, pos⟩ e.settled s)).link
      trunks := (endPollAt ⟨w, pos⟩ (settleUnit ⟨w, pos⟩ e.settled s)).trunks } := by
    rw [endPollAt_frame, settleUnit_frame]
    rfl
  refine ⟨_, exec_settleComplete sending.1 unit settling, frame,
    linkFrame_of_path sending.queues (endPollAt_path _ _ (settleUnit_path _ _ _ .refl)),
    fun p other => (endPollAt_entryAt _ _ _).trans (settleUnit_entryAt _ other _), ?_⟩
  obtain ⟨-, binding, blocked⟩ := endPollAt_same ⟨w, pos⟩ (settleUnit ⟨w, pos⟩ e.settled s)
  simp only [endPollAt_entryAt, binding, blocked]
  cases check : checkUnit s ⟨w, pos⟩ e.settled with
  | blocked k =>
    have posts := posts_endPollAt (becomeBlocked_posts ⟨w, pos⟩ e.settled k sending.queues) ⟨w, pos⟩
    rw [settleUnit_blocked check, becomeBlocked_trunks]
    refine ⟨{ e.settled with presence := .blocked k }, (entryAt_putEntry _ _ _ _).trans (if_pos rfl), rfl, rfl, rfl, rfl, rfl, ?_⟩
    have only {k' : BlockKind} (found : checkUnit s ⟨w, pos⟩ e.settled = .blocked k') : k' = k := by
      simpa using found.symm.trans check
    refine ⟨fun blank => ?_, fun seat addr => ⟨fun wrongPlace => ?_, fun rightPlace wrongType => ?_,
      fun rightPlace rightType taken => ?_, fun rightPlace rightType free => ?_⟩⟩
    · rw [only (checkUnit_blank blank)]; exact ⟨rfl, rfl, rfl, posts⟩
    · rw [only (checkUnit_location addr wrongPlace)]; exact ⟨rfl, rfl, rfl, posts⟩
    · rw [only (checkUnit_type addr rightPlace wrongType)]; exact ⟨rfl, rfl, rfl, posts⟩
    · rw [only (checkUnit_duplicate addr rightPlace rightType taken)]; exact ⟨rfl, rfl, rfl, posts⟩
    · cases (checkUnit_passed addr rightPlace rightType free).symm.trans check
  | ready seat =>
    have posts := posts_endPollAt (becomeReady_posts sending.queues ⟨w, pos⟩ { e.settled with refusal := 0 } seat) ⟨w, pos⟩
    rw [settleUnit_ready check, becomeReady_trunks]
    refine ⟨{ e.settled with presence := .ready, refusal := 0 }, (entryAt_putEntry _ _ _ _).trans (if_pos rfl),
      rfl, rfl, rfl, rfl, rfl, ?_⟩
    have never {k : BlockKind} (found : checkUnit s ⟨w, pos⟩ e.settled = .blocked k) {P : Prop} : P := by
      cases found.symm.trans check
    refine ⟨fun blank => never (checkUnit_blank blank), fun seat' addr => ⟨fun wrongPlace => never (checkUnit_location addr wrongPlace),
      fun rightPlace wrongType => never (checkUnit_type addr rightPlace wrongType),
      fun rightPlace rightType taken => never (checkUnit_duplicate addr rightPlace rightType taken),
      fun rightPlace rightType free => ?_⟩⟩
    cases (checkUnit_passed (e := e.settled) addr rightPlace rightType free).symm.trans check
    exact ⟨rfl, rfl, rfl, rfl, posts⟩

end Sys2Proof.Machine
end

section
namespace Sys2Proof.Machine
variable {s t u : State} {seat : Seat} {k : Nat} {bound : Prop}

/-! ### How many places on the floor and in the queue a seat has -/

/-- The slots of a seat. -/
def Floor.slotsOf (f : Floor) (seat : Seat) : Nat := f.slots.countP fun o => o.any fun sl => sl.seat == seat

/-- The entries of a seat. -/
def entriesOf (es : List QueueEntry) (seat : Seat) : Nat := es.countP fun x => x.seat == seat

/-- A seat has at most `k` slots and entries, and reply bindings to it only if `bound`. -/
structure Holds (seat : Seat) (k : Nat) (bound : Prop) (s : State) : Prop where
  places : s.floor.slotsOf seat + entriesOf s.queue.entries seat ≤ k
  targets : ∀ x ∈ s.queue.entries, x.target = some seat → bound

theorem slotsOf_zero {f : Floor} : f.slotsOf seat = 0 ↔ ∀ (n : SlotNo) (sl : Slot), f.slots[n] = some sl → sl.seat ≠ seat := by
  rw [Floor.slotsOf, Vector.countP_eq_zero]
  constructor
  · intro none n sl slot same
    exact none f.slots[n] (Vector.getElem_mem _) (by rw [slot]; simpa using same)
  · intro none o mem any
    obtain ⟨i, hi, rfl⟩ := Vector.mem_iff_getElem.1 mem
    obtain ⟨sl, slot, same⟩ := (Option.any_eq_true _ _).1 any
    exact none ⟨i, hi⟩ sl slot (by simpa using same)

theorem slotsOf_put (f : Floor) (n : SlotNo) (o : Option Slot) (seat : Seat) :
    Floor.slotsOf { f with slots := put f.slots n o } seat = f.slotsOf seat -
      (if (f.slots[n]).any (fun sl => sl.seat == seat) then 1 else 0) + (if o.any (fun sl => sl.seat == seat) then 1 else 0) :=
  Vector.countP_set _

theorem entriesOf_zero {es : List QueueEntry} : entriesOf es seat = 0 ↔ ∀ x ∈ es, x.seat ≠ seat := by
  simp [entriesOf, List.countP_eq_zero]

theorem entriesOf_map (es : List QueueEntry) {g : QueueEntry → QueueEntry} (seats : ∀ x, (g x).seat = x.seat) (seat : Seat) :
    entriesOf (es.map g) seat = entriesOf es seat := by
  simp [entriesOf, List.countP_map, Function.comp_def, seats]

theorem Holds.noSlot (h : Holds seat 0 bound s) : ∀ (n : SlotNo) (sl : Slot), s.floor.slots[n] = some sl → sl.seat ≠ seat :=
  slotsOf_zero.1 (by have := h.places; omega)

theorem Holds.noEntry (h : Holds seat 0 bound s) : ∀ x ∈ s.queue.entries, x.seat ≠ seat :=
  entriesOf_zero.1 (by have := h.places; omega)

theorem Holds.of_less (h : Holds seat k bound s) (slots : t.floor.slotsOf seat ≤ s.floor.slotsOf seat)
    (less : t.queue.entries.Sublist s.queue.entries) : Holds seat k bound t where
  places := (Nat.add_le_add slots less.countP_le).trans h.places
  targets x hx := h.targets x (less.subset hx)

theorem Holds.of_same (h : Holds seat k bound s) (slots : t.floor.slots = s.floor.slots := by simp)
    (queue : t.queue = s.queue := by simp) : Holds seat k bound t :=
  h.of_less (by rw [Floor.slotsOf, slots]; exact le_refl _) (by rw [queue])

/-- Entries changed in place keep their seats. -/
theorem Holds.of_mapped (h : Holds seat k bound s) {g : QueueEntry → QueueEntry} (seats : ∀ x, (g x).seat = x.seat) {now : Prop}
    (targets : ∀ x ∈ s.queue.entries, (g x).target = some seat → now) :
    Holds seat k now (s.setQueue { s.queue with entries := s.queue.entries.map g }) where
  places := by
    have same := entriesOf_map s.queue.entries seats seat
    exact same.symm ▸ h.places
  targets x hx := by
    obtain ⟨y, hy, rfl⟩ := List.mem_map.1 hx
    exact targets y hy

/-- A seat that the laws of the queue and the slots hold of has one slot or one entry, or neither (R58, R79). -/
theorem holds_of_laws (queue : QueueLaw s) (slots : OneSlotLaw s) (seat : Seat) : Holds seat 1 True s where
  places := by
    have entry : entriesOf s.queue.entries seat ≤ 1 := by
      have one := List.nodup_iff_count_le_one.1 queue.2.1 seat
      rwa [List.count_eq_countP, List.countP_map] at one
    cases held : s.floor.slotOf seat with
    | none =>
      have none : s.floor.slotsOf seat = 0 := slotsOf_zero.2 fun n sl => slotOf_none held
      omega
    | some n =>
      obtain ⟨sl, slot, same⟩ := slotOf_some held
      have unqueued : entriesOf s.queue.entries seat = 0 := entriesOf_zero.2 fun x hx => same ▸ slots.2 n sl slot x hx
      have rest : Floor.slotsOf { s.floor with slots := put s.floor.slots n none } seat = 0 := slotsOf_zero.2 fun m sl' slot' same' => by
        rw [put_getElem] at slot'
        split at slot'
        · cases slot'
        · next other => exact other (slots.1 m n sl' sl slot' slot (same'.trans same.symm))
      rw [slotsOf_put] at rest
      split at rest <;> simp at rest <;> omega
  targets _ _ _ := trivial

/-! #### No request gives a seat more -/

theorem drainEndTest_holds (h : Holds seat k bound s) : Holds seat k bound (drainEndTest s) :=
  h.of_less (by simp) (drainEndTest_entries s)

theorem leaveQueue_holds (h : Holds seat k bound s) (x : Seat) (l : LeaveReason) : Holds seat k bound (leaveQueue x l s) :=
  h.of_less (by simp) ((leaveQueue_entries x l s).trans (dropEntry_sublist x _))

theorem dropEntry_entriesOf {es : List QueueEntry} (has : ∃ x ∈ es, x.seat = seat) :
    entriesOf (dropEntry seat es) seat + 1 = entriesOf es seat := by
  obtain ⟨x, hx, same⟩ := has
  obtain ⟨a, front, back, -, ha, eq, dropped⟩ := List.exists_of_eraseP (p := fun e => e.seat == seat) hx (by simpa using same)
  rw [dropEntry, dropped, eq, entriesOf, entriesOf, List.countP_append, List.countP_append,
    List.countP_cons_of_pos (p := fun e : QueueEntry => e.seat == seat) ha]
  omega

theorem floorOpening_slotsOf (n : SlotNo) (rest : List SlotNo) (sl : Slot) (f : Floor) (seat : Seat) :
    (floorOpening n rest sl f).slotsOf seat ≤ f.slotsOf seat + if sl.seat = seat then 1 else 0 := by
  have count : (floorOpening n rest sl f).slotsOf seat = _ := slotsOf_put f n (some sl) seat
  rw [count, Option.any_some]
  simp only [beq_iff_eq]
  exact Nat.add_le_add_right (Nat.sub_le _ _) _

/-- The opening path gives a slot to a seat whose entry it takes out of the queue (R81, R90). -/
theorem openSlot_holds (h : Holds seat k bound s) {x : QueueEntry} (waits : x ∈ s.queue.entries) (o : Origin) (g : Bool) :
    Holds seat k bound (openSlot x.seat o g s) := by
  cases free : s.floor.free with
  | nil => rwa [openSlot_of_full _ _ _ free]
  | cons n rest =>
    have entries : (openSlot x.seat o g s).queue.entries.Sublist (dropEntry x.seat s.queue.entries) := by
      have has : hasEntry s x.seat = true := (hasEntry_iff s x.seat).2 ⟨x, waits, rfl⟩
      simp only [openSlot, free, has, if_true]
      exact (drainEndTest_entries _).trans (by simp)
    refine ⟨?_, fun y hy => h.targets y ((entries.trans (dropEntry_sublist _ _)).subset hy)⟩
    have queue : entriesOf (openSlot x.seat o g s).queue.entries seat ≤ entriesOf (dropEntry x.seat s.queue.entries) seat :=
      entries.countP_le
    have floor : (openSlot x.seat o g s).floor.slotsOf seat ≤ s.floor.slotsOf seat + if x.seat = seat then 1 else 0 := by
      rw [openSlot_floor _ _ _ free]
      exact floorOpening_slotsOf ..
    have places := h.places
    by_cases same : x.seat = seat
    · subst same
      have one := dropEntry_entriesOf ⟨x, waits, rfl⟩
      rw [if_pos rfl] at floor
      omega
    · have less : entriesOf (dropEntry x.seat s.queue.entries) seat ≤ entriesOf s.queue.entries seat :=
        (dropEntry_sublist _ _).countP_le
      rw [if_neg same] at floor
      omega

theorem nextToAdvance_mem {x : QueueEntry} (h : nextToAdvance s = some x) : x ∈ s.queue.entries :=
  List.mem_of_find?_eq_some (nextToAdvance_some h).2.2

theorem advance_holds (k' : Nat) (h : Holds seat k bound s) : Holds seat k bound (advance k' s) := by
  induction k' generalizing s with
  | zero => exact h
  | succ k' ih =>
    unfold advance
    split
    · exact h
    · next granted => exact ih (openSlot_holds h (nextToAdvance_mem granted) _ _)

theorem advanceCheck_holds (h : Holds seat k bound s) : Holds seat k bound (advanceCheck s) := advance_holds 8 h

theorem deferredAdvance_holds (h : Holds seat k bound s) (b : Bool) : Holds seat k bound (deferredAdvance b s) := by
  unfold deferredAdvance
  split
  · exact advanceCheck_holds h
  · exact h

theorem hearEntry_seat (x : Seat) (e : QueueEntry) : (hearEntry x e).seat = e.seat ∧ (hearEntry x e).target = e.target := by
  unfold hearEntry; split <;> exact ⟨rfl, rfl⟩

theorem tellClose_holds (h : Holds seat k bound s) (x : Seat) : Holds seat k bound (tellClose x s) :=
  drainEndTest_holds (h.of_mapped (fun e => (hearEntry_seat x e).1) fun e he target =>
    h.targets e he ((hearEntry_seat x e).2 ▸ target))

theorem floorClosing_slotsOf (f : Floor) (n : SlotNo) (seat : Seat) : (floorClosing n f).slotsOf seat =
    f.slotsOf seat - if (f.slots[n]).any (fun sl => sl.seat == seat) then 1 else 0 := slotsOf_put f n none seat

theorem closeSlot_slotsOf (n : SlotNo) (c : CloseReason) (s : State) : (closeSlot n c s).floor.slotsOf seat =
    s.floor.slotsOf seat - if (s.floor.slots[n]).any (fun sl => sl.seat == seat) then 1 else 0 := by
  rw [closeSlot_floor]
  split
  · exact floorClosing_slotsOf _ _ _
  · next none => simp [Option.not_isSome_iff_eq_none.1 none]

theorem closeSlot_some (c : CloseReason) {n : SlotNo} {sl : Slot} (slot : s.floor.slots[n] = some sl) : closeSlot n c s =
    tellClose sl.seat (post (.floorClosed n sl.seat c sl.origin sl.elapsed) (s.setFloor (floorClosing n s.floor))) := by
  simp only [closeSlot, slot, floorClosing]

theorem closeSlot_none (c : CloseReason) {n : SlotNo} (free : s.floor.slots[n] = none) : closeSlot n c s = s := by
  simp only [closeSlot, free]

theorem closeSlot_holds (h : Holds seat k bound s) (n : SlotNo) (c : CloseReason) : Holds seat k bound (closeSlot n c s) := by
  obtain free | ⟨sl, slot⟩ := Option.eq_none_or_eq_some s.floor.slots[n]
  · rwa [closeSlot_none c free]
  · rw [closeSlot_some c slot]
    refine tellClose_holds (h.of_less ?_ (by simp)) sl.seat
    simpa using (floorClosing_slotsOf s.floor n seat).le.trans (Nat.sub_le _ _)

theorem closeSeatQuiet_holds (h : Holds seat k bound s) (x : Seat) (c : CloseReason) :
    Holds seat k bound (closeSeatQuiet x c s) := by
  unfold closeSeatQuiet
  split
  · exact h
  · exact closeSlot_holds h _ _

theorem unbindEntry_seat (x : Seat) (e : QueueEntry) : (unbindEntry x e).seat = e.seat ∧
    (unbindEntry x e).target = if e.target = some x then none else e.target := by
  unfold unbindEntry; split <;> exact ⟨rfl, rfl⟩

/-- A drop request, by what it leaves of the bindings to the seat (R69). -/
theorem dropBindings_holds_of (h : Holds seat k bound s) (x : Seat) (d : Bool) {now : Prop}
    (targets : ∀ e ∈ s.queue.entries, (unbindEntry x e).target = some seat → now) : Holds seat k now (dropBindings x d s) := by
  have unbound : Holds seat k now (drainEndTest (s.setQueue { s.queue with entries := s.queue.entries.map (unbindEntry x) })) :=
    drainEndTest_holds (h.of_mapped (fun e => (unbindEntry_seat x e).1) targets)
  unfold dropBindings; dsimp only
  split
  · next nobody =>
    refine ⟨h.places, fun e he target => targets e he ?_⟩
    have other : e.target ≠ some x := by simpa using List.filter_eq_nil_iff.1 (List.isEmpty_iff.1 nobody) e he
    rwa [(unbindEntry_seat x e).2, if_neg other]
  · split
    · exact advanceCheck_holds unbound
    · exact unbound

theorem dropBindings_holds (h : Holds seat k bound s) (x : Seat) (d : Bool) : Holds seat k bound (dropBindings x d s) :=
  dropBindings_holds_of h x d fun e he target => by
    rw [(unbindEntry_seat x e).2] at target
    split at target
    · cases target
    · exact h.targets e he target

/-! #### The withdrawal of a chair -/

theorem openChair_holds (h : Holds seat k bound s) (x : Seat) : Holds seat k bound (openChair x s) :=
  h.of_same (by simp [openChair, setChairs_floor])

theorem closeChair_holds (h : Holds seat k bound s) (x : Seat) : Holds seat k bound (closeChair x s) :=
  h.of_same (by simp [closeChair, setChairs_floor])

theorem releaseChair_holds (h : Holds seat k bound s) (x : Seat) : Holds seat k bound (releaseChair s x) := by
  unfold releaseChair
  (repeat' split) <;> simp only [h, openChair_holds, closeChair_holds]

theorem mapSlot_slotsOf (f : Floor) (n : SlotNo) {g : Slot → Slot} (seats : ∀ sl, (g sl).seat = sl.seat) (seat : Seat) :
    (f.mapSlot n g).slotsOf seat ≤ f.slotsOf seat := by
  have same : ((f.slots[n]).map g).any (fun sl => sl.seat == seat) = (f.slots[n]).any (fun sl => sl.seat == seat) := by
    cases f.slots[n] <;> simp [seats]
  have count := slotsOf_put f n ((f.slots[n]).map g) seat
  rw [same] at count
  by_cases has : (f.slots[n]).any (fun sl => sl.seat == seat) = true
  · have some : 0 < f.slotsOf seat := Vector.countP_pos_iff.2 ⟨_, Vector.getElem_mem n.isLt, has⟩
    rw [if_pos has] at count
    exact (count.trans (Nat.sub_add_cancel some)).le
  · rw [if_neg has] at count
    exact count.le

theorem unmuteSlot_holds (h : Holds seat k bound s) (n : SlotNo) : Holds seat k bound (unmuteSlot s n) := by
  refine h.of_less ?_ (by simp)
  rw [unmuteSlot_floor]
  exact mapSlot_slotsOf _ _ (fun sl => by split <;> rfl) _

theorem foldl_holds {α : Type} {g : State → α → State}
    (hg : ∀ (s : State) (a : α), Holds seat k bound s → Holds seat k bound (g s a)) (l : List α) (h : Holds seat k bound s) :
    Holds seat k bound (l.foldl g s) := foldl_inv (Holds seat k bound) g hg l s h

theorem endHold_holds (h : Holds seat k bound s) (x : Seat) : Holds seat k bound (endHold x s) :=
  advanceCheck_holds (foldl_holds (fun _ _ h => releaseChair_holds h _) _
    (foldl_holds (fun _ _ h => unmuteSlot_holds h _) _ h.of_same))

theorem lowerHold_holds (h : Holds seat k bound s) (x : Seat) : Holds seat k bound (lowerHold x s) := by
  have lowered : Holds seat k bound (setHeld x false s) := h.of_same (by simp [setHeld, setChairs_floor])
  unfold lowerHold; dsimp only
  (repeat' split) <;> simp only [h, lowered, endHold_holds]

theorem withdrawChair_holds (h : Holds seat k bound s) (x : Seat) : Holds seat k bound (withdrawChair x s) := by
  unfold withdrawChair
  split
  · exact h
  · have closed : Holds seat k bound (if ‹ChairRecord›.micOpen then closeChair x s else s) := by
      split
      · exact closeChair_holds h x
      · exact h
    exact lowerHold_holds (closed.of_same (by rw [setChairs_floor])) x

/-! #### A seat that leaves its places -/

theorem closeSlot_entriesOf (n : SlotNo) (c : CloseReason) (s : State) :
    entriesOf (closeSlot n c s).queue.entries seat ≤ entriesOf s.queue.entries seat := by
  obtain free | ⟨sl, slot⟩ := Option.eq_none_or_eq_some s.floor.slots[n]
  · rw [closeSlot_none c free]
  · rw [closeSlot_some c slot]
    exact (drainEndTest_entries _).countP_le.trans (entriesOf_map s.queue.entries (fun e => (hearEntry_seat sl.seat e).1) seat).le

/-- With its slot closed, a seat of one place has none (R82, R83). -/
theorem closeSlot_last (h : Holds seat 1 bound s) {n : SlotNo} (held : s.floor.slotOf seat = some n) (c : CloseReason) :
    Holds seat 0 bound (closeSlot n c s) := by
  obtain ⟨sl, slot, same⟩ := slotOf_some held
  have here : (s.floor.slots[n]).any (fun sl => sl.seat == seat) = true := by rw [slot]; simpa using same
  have some : 0 < s.floor.slotsOf seat := Vector.countP_pos_iff.2 ⟨_, Vector.getElem_mem n.isLt, here⟩
  have floor := closeSlot_slotsOf (seat := seat) n c s
  have queue := closeSlot_entriesOf (seat := seat) n c s
  have before := h.places
  rw [if_pos here] at floor
  exact ⟨by omega, (closeSlot_holds h n c).targets⟩

/-- With its one entry taken out, a seat of no slot has no place (R58, R70). -/
theorem leaveQueue_last (h : Holds seat 1 bound s) (nowhere : s.floor.slotOf seat = none) (l : LeaveReason) :
    Holds seat 0 bound (leaveQueue seat l s) := by
  have floor : s.floor.slotsOf seat = 0 := slotsOf_zero.2 fun n sl => slotOf_none nowhere
  have gone : entriesOf (leaveQueue seat l s).queue.entries seat = 0 := by
    have fewer : entriesOf (leaveQueue seat l s).queue.entries seat ≤ entriesOf (dropEntry seat s.queue.entries) seat :=
      (leaveQueue_entries seat l s).countP_le
    have before := h.places
    have after : entriesOf (dropEntry seat s.queue.entries) seat = 0 := dropEntry_count (by unfold entriesOf at before; omega)
    omega
  refine ⟨?_, (leaveQueue_holds h seat l).targets⟩
  rw [gone, show (leaveQueue seat l s).floor = s.floor by simp, floor]

/-- A seat that has left its slot and then its entry, the advance check of the close made or still to come (R26, R33). -/
theorem leaveQueue_closed (h : Holds seat 1 bound s) (c : CloseReason) (l : LeaveReason) :
    Holds seat 0 bound (leaveQueue seat l (closeSeatQuiet seat c s)) ∧ Holds seat 0 bound (leaveQueue seat l (closeSeat seat c s)) := by
  unfold closeSeatQuiet closeSeat
  cases held : s.floor.slotOf seat with
  | none => exact ⟨leaveQueue_last h held l, leaveQueue_last h held l⟩
  | some n =>
    have closed := closeSlot_last h held c
    exact ⟨leaveQueue_holds closed _ _, leaveQueue_holds (advanceCheck_holds closed) _ _⟩

/-- A seat that its unit has left has no slot and no entry, and no reply is bound to it (R26, R29). -/
theorem leaveSeat_gone (h : Holds seat 1 True s) (c : CloseReason) (l : LeaveReason) :
    Holds seat 0 False (leaveSeat seat c l s) := by
  have forgotten : Holds seat 1 True (forgetSeat seat (s.setTrunks (s.trunks.bind seat none))) := h.of_same
  have dropped (b : Bool) : Holds seat 0 False (dropBindings seat b
      (leaveQueue seat l (closeSeatQuiet seat c (forgetSeat seat (s.setTrunks (s.trunks.bind seat none)))))) :=
    dropBindings_holds_of (leaveQueue_closed forgotten c l).1 seat b fun e _ target => by
      rw [(unbindEntry_seat seat e).2] at target
      split at target
      · cases target
      · contradiction
  unfold leaveSeat; dsimp only
  split
  · exact withdrawChair_holds (dropped _) seat
  · exact dropped _

/-- Another seat's unit leaving its seat gives a seat nothing. -/
theorem leaveSeat_holds (h : Holds seat k bound s) (x : Seat) (c : CloseReason) (l : LeaveReason) :
    Holds seat k bound (leaveSeat x c l s) := by
  have forgotten : Holds seat k bound (forgetSeat x (s.setTrunks (s.trunks.bind x none))) := h.of_same
  have dropped (b : Bool) := dropBindings_holds (leaveQueue_holds (closeSeatQuiet_holds forgotten x c) x l) x b
  unfold leaveSeat; dsimp only
  split
  · exact withdrawChair_holds (dropped _) x
  · exact dropped _

end Sys2Proof.Machine
end

section
namespace Sys2Proof.Machine
variable {s t u : State} {w : Wing} {p : Place} {pos : Pos} {e : ChainEntry} {seat : Seat} {wing position : Byte} {half : Half}

/-! ### Operands read as numbers (R168) -/

theorem wingOf_val (h : wing.toNat = w.val) : wingOf wing = some w := by simp [wingOf, h]

theorem wingOf_none (h : 3 < wing.toNat) : wingOf wing = none := dif_neg (by omega)

theorem posOf_val {n : Nat} (h : n = posNumber pos) : posOf n = some pos := h ▸ posOf_posNumber pos

theorem posOf_none {n : Nat} (h : n = 0 ∨ 128 < n) : posOf n = none := dif_neg (by omega)

theorem seatOf_none (h : 511 < half.toNat) : seatOf half = none := dif_neg (by omega)

/-! ### SEAT ASSIGN, case by case (R33) -/

theorem takeSeatAssign_badValue (h : 3 < wing.toNat ∨ position.toNat = 0 ∨ 128 < position.toNat ∨ 511 < half.toNat) (s : State) :
    takeSeatAssign wing position half s = refusedWith .badValue s := by
  unfold takeSeatAssign
  rcases h with high | zero | high | high
  · rw [wingOf_none high]
  · rw [posOf_none (.inl zero)]; cases wingOf wing <;> rfl
  · rw [posOf_none (.inr high)]; cases wingOf wing <;> rfl
  · rw [seatOf_none high]; cases wingOf wing <;> cases posOf position.toNat <;> rfl

section
variable (hw : wing.toNat = w.val) (hp : position.toNat = posNumber pos) (hx : half.toNat = seat.val)
include hw hp hx

theorem takeSeatAssign_busy (flight : s.trunks.units[w].assignment ≠ none) :
    takeSeatAssign wing position half s = refusedWith .busy s := by
  simp only [takeSeatAssign, wingOf_val hw, posOf_val hp, seatOf_val hx, Option.isSome_iff_ne_none.2 flight, if_true]

variable (idle : s.trunks.units[w].assignment = none)
include idle

theorem takeSeatAssign_absent (absent : s.trunks.entryAt ⟨w, pos⟩ = none) :
    takeSeatAssign wing position half s = refusedWith .absent s := by
  simp only [takeSeatAssign, wingOf_val hw, posOf_val hp, seatOf_val hx, idle, absent]
  rfl

/-- The state with an assignment recorded on a trunk. -/
abbrev assign (w : Wing) (pos : Pos) (seat : Seat) (s : State) : State :=
  mapTrunk w (fun t => { t with assignment := some ⟨pos, seat, 0⟩ }) s

theorem takeSeatAssign_ready (unit : s.trunks.entryAt ⟨w, pos⟩ = some e) (ready : e.presence = .ready) {b : Seat}
    (addr : e.addr = some b) : takeSeatAssign wing position half s =
      answeredOk (leaveQueue b .plan (closeSeat b .plan (assign w pos seat s))) [] := by
  simp only [takeSeatAssign, wingOf_val hw, posOf_val hp, seatOf_val hx, idle, unit, ready, addr]
  rfl

theorem takeSeatAssign_other (unit : s.trunks.entryAt ⟨w, pos⟩ = some e) (other : e.presence = .ready → e.addr = none) :
    takeSeatAssign wing position half s = answeredOk (assign w pos seat s) [] := by
  simp only [takeSeatAssign, wingOf_val hw, posOf_val hp, seatOf_val hx, idle, unit]
  split
  · contradiction
  · split
    · next ready addr => cases (other ready).symm.trans addr
    · rfl

end

theorem assign_frame (w : Wing) (pos : Pos) (seat : Seat) (s : State) : let t := assign w pos seat s
    t.trunks.units[w].assignment = some ⟨pos, seat, 0⟩ ∧ t.trunks.units[w].chain = s.trunks.units[w].chain ∧
      t.trunks.binding = s.trunks.binding ∧ t.trunks.blocked = s.trunks.blocked ∧
      ∀ w', w' ≠ w → t.trunks.units[w'] = s.trunks.units[w'] := by
  dsimp only
  refine ⟨?_, ?_, rfl, rfl, fun w' other => ?_⟩
  · rw [mapTrunk_units, if_pos rfl]
  · rw [mapTrunk_units, if_pos rfl]
  · rw [mapTrunk_units, if_neg other]

theorem withAnswer_notices (a : Answer) (s : State) : (withAnswer a s).link.notices = s.link.notices := by
  obtain ⟨l, eq, -, notices⟩ := withAnswer_eq a s
  rw [eq]
  exact notices

theorem seatAssign_taken (takes : TakesOrders s) (h : takeSeatAssign wing position half (oweAnswer s) = answeredOk u []) :
    exec (.seatAssign wing position half) s = .next (answered 0x10 .ok [] u) ∧ Answers s (answered 0x10 .ok [] u) 0x10 .ok [] ∧
      LinkFrame s (answered 0x10 .ok [] u) :=
  submit_answered (i := .seatAssign wing position half) rfl (by simp) (by simp) (by simp) takes h

/-- Settles O25: the refusals by the case of the order; an accepted one by the state the assignment is recorded in, of which the
close and the removal leave the trunks, and leave the seat no place. -/
theorem seatAssignIsRecorded : Obligations.SeatAssignIsRecorded := by
  refine fun wing position half s takes => ⟨fun bad => ?_, fun w pos x hw hp hx => ⟨fun flight => ?_, fun idle absent => ?_,
    fun e idle unit => ⟨?accepted, fun b ready addr => ?released⟩⟩⟩
  · exact submit_refused rfl (by simp) takes (takeSeatAssign_badValue bad _)
  · exact submit_refused rfl (by simp) takes (takeSeatAssign_busy (s := oweAnswer s) hw hp hx flight)
  · exact submit_refused rfl (by simp) takes (takeSeatAssign_absent (s := oweAnswer s) hw hp hx idle absent)
  case released =>
    exact (seatAssign_taken takes
      (takeSeatAssign_ready (s := oweAnswer s) hw hp hx idle unit ready addr)).1
  case accepted =>
    obtain ⟨assigned, chain, binding, blocked, others⟩ := assign_frame w pos x (oweAnswer s)
    by_cases bound : e.presence = .ready ∧ e.addr ≠ none
    · obtain ⟨ready, seated⟩ := bound
      obtain ⟨b, addr⟩ := Option.ne_none_iff_exists'.1 seated
      obtain ⟨taken, answers, frame⟩ := seatAssign_taken takes
        (takeSeatAssign_ready (s := oweAnswer s) hw hp hx idle unit ready addr)
      refine ⟨_, taken, answers, frame, ?_⟩
      simp only [answered, withAnswer_keeps, leaveQueue_keeps, closeSeat_keeps]
      refine ⟨assigned, chain, binding, blocked, others, rfl, rfl, rfl, rfl, fun no => absurd ready no,
        fun b' _ addr' queue _ slots => ?_⟩
      obtain rfl : b' = b := Option.some.inj (addr'.symm.trans addr)
      have gone := (leaveQueue_closed (holds_of_laws (s := assign w pos x (oweAnswer s)) queue slots b') .plan .plan).2
      exact ⟨by simpa using gone.noSlot, gone.noEntry⟩
    · obtain ⟨taken, answers, frame⟩ := seatAssign_taken takes
        (takeSeatAssign_other (s := oweAnswer s) hw hp hx idle unit fun ready => by_contra fun seated => bound ⟨ready, seated⟩)
      refine ⟨_, taken, answers, frame, ?_⟩
      simp only [answered, withAnswer_keeps]
      refine ⟨assigned, chain, binding, blocked, others, rfl, rfl, rfl, rfl, fun _ => ⟨rfl, rfl, rfl, withAnswer_notices _ _⟩,
        fun b ready addr => absurd ⟨ready, addr ▸ Option.some_ne_none _⟩ bound⟩

end Sys2Proof.Machine
end

section
namespace Sys2Proof.Machine
variable {s t u : State} {seat : Seat} {c : CloseReason} {l : LeaveReason} {bs bs' : List NoticeBody}

/-! ### What an operation posts (R159) -/

/-- From `s` to `t` the order unit takes exactly the notices `bs`, in their order, and changes of the summary. -/
structure Tells (s t : State) (bs : List NoticeBody) : Prop where
  path : LinkPath s.link t.link
  posts : Queues s → Posts s t bs

theorem posts_nil (same : t.link.notices = s.link.notices) : Posts s t [] := fun _ => by simp [same]

theorem Posts.trans (path : LinkPath s.link u.link) (first : Posts s u bs) (second : Posts u t bs') : Posts s t (bs ++ bs') := by
  intro room
  rw [List.length_append] at room
  have before := first (by omega)
  have filtered : u.link.notices.length ≤ s.link.notices.length + bs.length := by
    rw [before, List.length_append, List.length_map]
    exact Nat.add_le_add_left (List.length_filter_le _ _) _
  rw [second (by omega), before, path.mask, path.clock, List.filter_append, List.map_append, List.append_assoc]

theorem tells_nil (same : t.link = s.link) : Tells s t [] :=
  ⟨same ▸ .refl, fun _ => posts_nil (by rw [same])⟩

theorem LinkPath.trans {l m n : Link} (first : LinkPath l m) (second : LinkPath m n) : LinkPath l n :=
  second.closed (LinkPath l) (fun _ _ _ => .post _ _) (fun _ _ => .raise _) first

theorem Tells.trans (first : Tells s u bs) (second : Tells u t bs') : Tells s t (bs ++ bs') :=
  ⟨first.path.trans second.path, fun q => (first.posts q).trans first.path (second.posts (queues_of_path q first.path))⟩

theorem Tells.linkFrame (h : Tells s t bs) (q : Queues s) : LinkFrame s t := linkFrame_of_path q h.path

theorem Tells.silent (first : Tells s u bs) (second : Tells u t []) : Tells s t bs := by
  simpa using first.trans second

/-- What is told from a state with the same link. -/
theorem Tells.after (h : Tells u t bs) (same : u.link = s.link) : Tells s t bs := (tells_nil same).trans h

theorem post_tells (b : NoticeBody) (s : State) : Tells s (post b s) [b] :=
  ⟨.post _ _ .refl, fun q => post_posts q .refl rfl b⟩

theorem noteOwners_tells (o : OwnerBits) (s : State) : Tells s (noteOwners o s) [] :=
  ⟨noteOwners_path _ _ .refl, fun q => posts_nil (noteOwners_notices q o)⟩

theorem setEntries_tells (es : List QueueEntry) (s : State) : Tells s (setEntries es s) [] :=
  (noteOwners_tells (ownerBits s) (s.setQueue { s.queue with entries := es })).after rfl

theorem setBlocked_tells (b : List BlockedEntry) (s : State) : Tells s (setBlocked b s) [] :=
  (noteOwners_tells (ownerBits s) (s.setTrunks { s.trunks with blocked := b })).after rfl

/-- An assignment to a place that fails posts its notice (R35). -/
theorem failAssignment_tells (p : Place) (cause : AssignFailure) (s : State) :
    Tells s (failAssignment p cause s) (assignmentNotices s p cause) := by
  obtain flight | ⟨x, flight⟩ := Option.eq_none_or_eq_some s.trunks.units[p.wing].assignment
  · rw [failAssignment_elsewhere cause (fun x some => by cases flight.symm.trans some), assignmentNotices, flight]
    exact tells_nil rfl
  · by_cases here : x.pos = p.pos
    · rw [failAssignment_here cause flight here, assignmentNotices, flight]
      simp only [Option.toList_some, List.filter_cons, here, decide_true, if_true, List.filter_nil, List.map_cons, List.map_nil]
      exact (post_tells _ (mapTrunk p.wing (fun t => { t with assignment := none }) s)).after rfl
    · rw [failAssignment_elsewhere cause (fun y some => Option.some.inj (flight.symm.trans some) ▸ here), assignmentNotices, flight]
      simp only [Option.toList_some, List.filter_cons, here, decide_false, List.filter_nil]
      exact tells_nil rfl

/-- An assignment that gives no notice of its failure is none to the place. -/
theorem failAssignment_quiet {p : Place} {cause : AssignFailure} (quiet : assignmentNotices s p cause = []) :
    failAssignment p cause s = s := by
  refine failAssignment_elsewhere cause fun x flight here => ?_
  rw [assignmentNotices, flight] at quiet
  simp [here] at quiet

/-! ### With the list OPEN no removal and no close ends a drain (R150) -/

theorem drainEndTest_open (list : s.queue.list = .open) : drainEndTest s = s := by
  simp [drainEndTest, drainAtEnd, RequestQueue.draining, list]

theorem takeOut_queue (seat : Seat) (l : LeaveReason) (s : State) :
    (takeOut seat l s).queue = { s.queue with entries := dropEntry seat s.queue.entries } := by
  have entries := takeOut_entries seat l s
  unfold takeOut at entries ⊢
  split
  · next none => simp only [none] at entries; rw [← entries]
  · simp [setEntries]

theorem takeOut_tells (seat : Seat) (l : LeaveReason) (s : State) : Tells s (takeOut seat l s)
    ((s.queue.entryOf seat).toList.map fun e => .queueLeft seat e.kind l (s.queue.placeOf seat)) := by
  unfold takeOut
  split
  · next none => rw [none]; exact tells_nil rfl
  · next e some =>
    rw [some]
    exact (setEntries_tells _ s).trans (post_tells _ _)

theorem leaveQueue_open (list : s.queue.list = .open) (seat : Seat) (l : LeaveReason) : leaveQueue seat l s = takeOut seat l s := by
  unfold leaveQueue
  split
  · exact drainEndTest_open (by rw [takeOut_queue]; exact list)
  · next none => rw [takeOut, Option.not_isSome_iff_eq_none.1 none]

/-- A close with the list OPEN (R82): the slot is closed and the entries bound to its seat are set heard. -/
theorem closeSlot_open (list : s.queue.list = .open) (c : CloseReason) {n : SlotNo} {sl : Slot} (slot : s.floor.slots[n] = some sl) :
    let t := closeSlot n c s
    t = { s with link := t.link, floor := floorClosing n s.floor
                 queue := { s.queue with entries := s.queue.entries.map (hearEntry sl.seat) } } ∧
      Tells s t [.floorClosed n sl.seat c sl.origin sl.elapsed] := by
  let closed := post (.floorClosed n sl.seat c sl.origin sl.elapsed) (s.setFloor (floorClosing n s.floor))
  have told : closeSlot n c s = closed.setQueue { s.queue with entries := s.queue.entries.map (hearEntry sl.seat) } :=
    (closeSlot_some c slot).trans (drainEndTest_open (s := closed.setQueue { s.queue with
      entries := s.queue.entries.map (hearEntry sl.seat) }) list)
  have posted : Tells s closed [.floorClosed n sl.seat c sl.origin sl.elapsed] := (post_tells _ _).after rfl
  rw [told]
  exact ⟨rfl, posted.silent (tells_nil rfl)⟩

/-- With no advance following, the advance check finds nothing to grant (R90). -/
theorem advanceCheck_noAdvance (h : NoAdvance s) : advanceCheck s = s := by
  have nobody : nextToAdvance s = none := by simp [nextToAdvance, h.1, h.2, RequestQueue.draining]
  simp only [advanceCheck, advance, nobody]

theorem NoAdvance.congr (h : NoAdvance s) (list : t.queue.list = s.queue.list) (profiles : t.profiles = s.profiles) : NoAdvance t := by
  have profile : inForce t = inForce s := by simp only [inForce, profiles]
  exact ⟨list.trans h.1, profile ▸ h.2⟩

theorem deferredAdvance_noAdvance (h : NoAdvance s) (b : Bool) : deferredAdvance b s = s := by
  unfold deferredAdvance
  split
  · exact advanceCheck_noAdvance h
  · rfl

/-! ### A drop request (R69) -/

theorem dropBindings_eq (seat : Seat) (deferred : Bool) (s : State) :
    let bound := s.queue.entries.filter fun x => x.target = some seat
    let d := s.setQueue { s.queue with entries := s.queue.entries.map (unbindEntry seat) }
    let freed := ∃ x ∈ bound, eligibility s { x with target := none, heard := false } = .eligible
    (bound = [] → dropBindings seat deferred s = s) ∧
      (bound ≠ [] → deferred = true ∨ ¬freed → dropBindings seat deferred s = drainEndTest d) ∧
      (bound ≠ [] → deferred = false → freed → dropBindings seat deferred s = advanceCheck (drainEndTest d)) := by
  intro bound d freed
  have same : (s.queue.entries.filter fun e => e.target == some seat) = bound :=
    List.filter_congr fun x _ => (beq_eq_decide _ _)
  have any : (bound.any fun e => isEligible d (unbindEntry seat e)) = true ↔ freed := by
    simp only [List.any_eq_true, isEligible, beq_iff_eq, freed]
    refine exists_congr fun x => and_congr_right fun hx => ?_
    have target : x.target = some seat := by simpa [bound] using (List.mem_filter.1 hx).2
    rw [unbindEntry, if_pos target]
    exact Iff.rfl
  have eq : dropBindings seat deferred s = if bound.isEmpty then s
      else if (!deferred && bound.any fun e => isEligible d (unbindEntry seat e)) = true then advanceCheck (drainEndTest d)
      else drainEndTest d := by
    rw [← same]; rfl
  rw [eq]
  refine ⟨fun none => if_pos (by simp [none]), fun some quiet => ?_, fun some now free => ?_⟩
  · rw [if_neg (by simpa using some), if_neg]
    rw [Bool.and_eq_true, any, Bool.not_eq_true']
    rintro ⟨now, free⟩
    rcases quiet with later | busy
    · cases now.symm.trans later
    · exact busy free
  · rw [if_neg (by simpa using some), if_pos]
    rw [Bool.and_eq_true, any, now]
    exact ⟨rfl, free⟩

/-! ### What a unit leaves (R26, R29) -/

/-- The state with a seat unbound and its record gone. -/
abbrev unbound (seat : Seat) (s : State) : State := forgetSeat seat (s.setTrunks (s.trunks.bind seat none))

/-- The seat's slot closed without an advance check and its entry removed. -/
abbrev offFloor (seat : Seat) (c : CloseReason) (l : LeaveReason) (s : State) : State :=
  leaveQueue seat l (closeSeatQuiet seat c (unbound seat s))

/-- And the reply bindings to it dropped. -/
abbrev dropped (seat : Seat) (c : CloseReason) (l : LeaveReason) (s : State) : State :=
  dropBindings seat (s.floor.slotOf seat).isSome (offFloor seat c l s)

theorem dropped_plan (seat : Seat) (c : CloseReason) (l : LeaveReason) (s : State) : (dropped seat c l s).plan = s.plan := by
  simp [dropped, offFloor, unbound]

theorem leaveSeat_eq (seat : Seat) (c : CloseReason) (l : LeaveReason) (s : State) : leaveSeat seat c l s =
    if s.plan[seat].cls = .chair then withdrawChair seat (dropped seat c l s) else dropped seat c l s := by
  have cls : classOf (dropped seat c l s) seat = s.plan[seat].cls := by rw [classOf, dropped_plan]
  rw [← cls]
  rfl

/-- The entries bound to a seat, heard and then unbound, are as if only unbound. -/
theorem unbindEntry_hearEntry (seat : Seat) (e : QueueEntry) : unbindEntry seat (hearEntry seat e) = unbindEntry seat e := by
  by_cases target : e.target = some seat
  · simp [hearEntry, unbindEntry, target]
  · rw [hearEntry, if_neg target]

theorem dropEntry_eq_filter {es : List QueueEntry} (apart : (es.map (·.seat)).Nodup) (seat : Seat) :
    dropEntry seat es = es.filter fun e => e.seat ≠ seat := by
  induction es with
  | nil => rfl
  | cons e es ih =>
    obtain ⟨fresh, apart⟩ := List.nodup_cons.1 apart
    by_cases same : e.seat = seat
    · have others : es.filter (fun e => e.seat ≠ seat) = es := List.filter_eq_self.2 fun x hx => by
        simpa using fun eq : x.seat = seat => fresh (List.mem_map.2 ⟨x, hx, eq.trans same.symm⟩)
      rw [dropEntry, List.eraseP_cons_of_pos (by simpa using same), List.filter_cons_of_neg (by simpa using same), others]
    · rw [dropEntry, List.eraseP_cons_of_neg (by simpa using same), List.filter_cons_of_pos (by simpa using same), ← dropEntry,
        ih apart]

theorem filter_unqueued {es : List QueueEntry} (unqueued : ∀ x ∈ es, x.seat ≠ seat) : (es.filter fun e => e.seat ≠ seat) = es :=
  List.filter_eq_self.2 fun x hx => by simpa using unqueued x hx

theorem eq_with_queue_floor (keeps : KeepsTrunks s t) (seats : t.seats = s.seats) :
    t = { s with link := t.link, queue := t.queue, floor := t.floor } := by
  obtain ⟨⟨pending, held, draws, plan, cursor, allowance, profiles⟩, trunks⟩ := keeps
  cases s; cases t
  simp_all

theorem takeOut_none {x : Seat} (none : s.queue.entryOf x = none) (l : LeaveReason) : takeOut x l s = s := by
  simp only [takeOut, none]

theorem entryOf_none {q : RequestQueue} (unqueued : ∀ x ∈ q.entries, x.seat ≠ seat) : q.entryOf seat = none :=
  List.find?_eq_none.2 fun x hx => by simpa using unqueued x hx

theorem map_unbindEntry_hearEntry (seat : Seat) (es : List QueueEntry) :
    (es.map (hearEntry seat)).map (unbindEntry seat) = es.map (unbindEntry seat) := by
  rw [List.map_map]
  exact List.map_congr_left fun e _ => unbindEntry_hearEntry seat e

/-- Of the laws of the floor, that no seat has more than one place (R58, R78, R79). -/
structure SeatsApart (s : State) : Prop where
  entries : (s.queue.entries.map (·.seat)).Nodup
  slots : ∀ (m n : SlotNo) (a b : Slot), s.floor.slots[m] = some a → s.floor.slots[n] = some b → a.seat = b.seat → m = n
  unqueued : ∀ (n : SlotNo) (a : Slot), s.floor.slots[n] = some a → ∀ e ∈ s.queue.entries, e.seat ≠ a.seat
  speakers : s.floor.speakers.Nodup

theorem seatsApart (laws : FloorLaws s) : SeatsApart s := ⟨laws.1.2.1, laws.2.2.1, laws.2.2.2, laws.2.1.1⟩

/-- A seat off the floor and out of the queue, of which it held one place at most: what is left, and what was posted. -/
theorem offFloor_eq (list : s.queue.list = .open) (laws : SeatsApart s) (seat : Seat) (c : CloseReason) (l : LeaveReason) :
    let t := offFloor seat c l s
    t = { unbound seat s with link := t.link, queue := t.queue, floor := floorLeft seat s.floor } ∧
      t.queue = { s.queue with entries := t.queue.entries } ∧
      t.queue.entries.map (unbindEntry seat) = entriesLeft seat s.queue.entries ∧
      (s.floor.slotOf seat = none → t.queue.entries = s.queue.entries.filter fun e => e.seat ≠ seat) ∧
      Tells s t (leavingNotices s seat c l) := by
  obtain ⟨apart, -, unqueued, -⟩ := laws
  obtain nowhere | ⟨n, held⟩ := Option.eq_none_or_eq_some (s.floor.slotOf seat)
  · have quiet : closeSeatQuiet seat c (unbound seat s) = unbound seat s := by
      simp only [closeSeatQuiet, show (unbound seat s).floor.slotOf seat = none from nowhere]
    have eq : offFloor seat c l s = takeOut seat l (unbound seat s) := by
      rw [offFloor, quiet]
      exact leaveQueue_open (s := unbound seat s) list seat l
    obtain ⟨keeps, seats, floor⟩ := takeOut_keeps seat l (unbound seat s)
    have queue : (takeOut seat l (unbound seat s)).queue = { s.queue with entries := s.queue.entries.filter fun e => e.seat ≠ seat } :=
      (takeOut_queue seat l (unbound seat s)).trans (by rw [← dropEntry_eq_filter apart]; rfl)
    have frame := eq_with_queue_floor keeps seats
    dsimp only
    rw [eq, floorLeft, nowhere]
    refine ⟨?_, by rw [queue], by rw [queue]; rfl, fun _ => by rw [queue], ?_⟩
    · rw [floor] at frame
      exact frame
    · rw [leavingNotices, nowhere, List.nil_append]
      exact (takeOut_tells seat l (unbound seat s)).after rfl
  · obtain ⟨sl, slot, rfl⟩ := slotOf_some held
    have none : ∀ x ∈ s.queue.entries, x.seat ≠ sl.seat := unqueued n sl slot
    have quiet : closeSeatQuiet sl.seat c (unbound sl.seat s) = closeSlot n c (unbound sl.seat s) := by
      simp only [closeSeatQuiet, show (unbound sl.seat s).floor.slotOf sl.seat = some n from held]
    obtain ⟨closed, told⟩ := closeSlot_open (s := unbound sl.seat s) list c slot
    have queue : (closeSlot n c (unbound sl.seat s)).queue = { s.queue with entries := s.queue.entries.map (hearEntry sl.seat) } := by
      rw [closed]; rfl
    have eq : offFloor sl.seat c l s = closeSlot n c (unbound sl.seat s) := by
      rw [offFloor, quiet, leaveQueue_open (by rw [queue]; exact list), takeOut_none]
      refine entryOf_none fun x hx => ?_
      rw [queue] at hx
      obtain ⟨y, hy, rfl⟩ := List.mem_map.1 hx
      exact (hearEntry_seat sl.seat y).1 ▸ none y hy
    dsimp only
    rw [eq, floorLeft, held]
    refine ⟨?_, by rw [queue], ?_, (fun no => by cases no), ?_⟩
    · rw [queue]; exact closed
    · rw [queue, entriesLeft, filter_unqueued none]
      exact map_unbindEntry_hearEntry sl.seat _
    · simp only [leavingNotices, held, slot, entryOf_none none, Option.toList_some, Option.toList_none, List.map_cons, List.map_nil,
        List.append_nil]
      exact told.after rfl

theorem eligibility_congr {x : QueueEntry} (plan : t.plan = s.plan) (binding : t.trunks.binding[x.seat] = s.trunks.binding[x.seat])
    (mask : t.floor.mask = s.floor.mask) (locked : t.floor.locked = s.floor.locked) : eligibility t x = eligibility s x := by
  have cls : classOf t x.seat = classOf s x.seat := by rw [classOf, plan, classOf]
  have place : placeOf t x.seat = placeOf s x.seat := binding
  have lock : isLocked t x.seat = isLocked s x.seat := by rw [isLocked, locked, isLocked]
  unfold eligibility isReady isMasked
  rw [cls, place, mask, lock]

theorem floorLeft_rest (seat : Seat) (f : Floor) : (floorLeft seat f).chairs = f.chairs ∧ (floorLeft seat f).mask = f.mask ∧
    (floorLeft seat f).locked = f.locked := by
  unfold floorLeft; split <;> exact ⟨rfl, rfl, rfl⟩

/-- A seat that its unit leaves, with the list OPEN (R26, R29, R69): what is left before the advance check that an entry freed by
the drop of the bindings asks for, and what was posted. -/
theorem dropped_eq (list : s.queue.list = .open) (laws : SeatsApart s) (seat : Seat) (c : CloseReason) (l : LeaveReason) :
    let freed := s.floor.slotOf seat = none ∧ ∃ x ∈ s.queue.entries, x.seat ≠ seat ∧ x.target = some seat ∧
      eligibility s { x with target := none, heard := false } = .eligible
    ∃ d : State, d = { unbound seat s with
        link := d.link
        queue := { s.queue with entries := entriesLeft seat s.queue.entries }, floor := floorLeft seat s.floor } ∧
      Tells s d (leavingNotices s seat c l) ∧ (¬freed → dropped seat c l s = d) ∧
        (freed → dropped seat c l s = advanceCheck d) := by
  intro freed
  obtain ⟨frame, queue, entries, waiting, told⟩ := offFloor_eq list laws seat c l
  obtain ⟨nothing, quiet, advance⟩ := dropBindings_eq seat (s.floor.slotOf seat).isSome (offFloor seat c l s)
  let d := (offFloor seat c l s).setQueue { (offFloor seat c l s).queue with
    entries := (offFloor seat c l s).queue.entries.map (unbindEntry seat) }
  have left : d.queue = { s.queue with entries := entriesLeft seat s.queue.entries } := by
    rw [← entries]
    exact congrArg (fun q : RequestQueue => { q with entries := (offFloor seat c l s).queue.entries.map (unbindEntry seat) }) queue
  have eligible (x : QueueEntry) (other : x.seat ≠ seat) : eligibility (offFloor seat c l s) x = eligibility s x := by
    have binding : (offFloor seat c l s).trunks.binding[x.seat] = s.trunks.binding[x.seat] := by
      rw [frame]
      exact (put_getElem _ _ _ _).trans (if_neg other)
    refine eligibility_congr ?_ binding ?_ ?_ <;> rw [frame]
    · rfl
    · exact (floorLeft_rest seat s.floor).2.1
    · exact (floorLeft_rest seat s.floor).2.2
  refine ⟨d, ?_, told.silent (tells_nil rfl), ?_⟩
  · rw [← left]
    conv_lhs => rw [show d = (offFloor seat c l s).setQueue d.queue from rfl, frame]
    rfl
  have still : drainEndTest d = d := drainEndTest_open (by rw [left]; exact list)
  rw [still] at quiet advance
  have frees : (s.floor.slotOf seat).isSome = false ∧ (∃ x ∈ (offFloor seat c l s).queue.entries.filter fun x => x.target = some seat,
      eligibility (offFloor seat c l s) { x with target := none, heard := false } = .eligible) ↔ freed := by
    rw [Option.isSome_eq_false_iff, Option.isNone_iff_eq_none]
    refine and_congr_right fun nowhere => ?_
    rw [waiting nowhere]
    simp only [List.mem_filter, decide_eq_true_eq, and_assoc]
    exact exists_congr fun x => and_congr_right fun _ => and_congr_right fun other => and_congr_right fun _ =>
      by rw [eligible { x with target := none, heard := false } other]
  refine ⟨fun stays => ?_, fun free => ?_⟩
  · by_cases empty : ((offFloor seat c l s).queue.entries.filter fun x => x.target = some seat) = []
    · rw [dropped, nothing empty]
      have same : (offFloor seat c l s).queue.entries.map (unbindEntry seat) = (offFloor seat c l s).queue.entries :=
        (List.map_congr_left fun x hx => if_neg (by simpa using List.filter_eq_nil_iff.1 empty x hx)).trans (List.map_id _)
      exact (congrArg (fun es => (offFloor seat c l s).setQueue { (offFloor seat c l s).queue with entries := es }) same).symm
    · refine quiet empty (or_iff_not_imp_left.2 fun now free => stays (frees.1 ⟨eq_false_of_ne_true now, free⟩))
  · obtain ⟨now, x, hx, free⟩ := frees.2 free
    exact advance (List.ne_nil_of_mem hx) now ⟨x, hx, free⟩

/-- With no advance following, and for a seat that is no chair, the whole of what a unit leaves (R26, R29). -/
theorem leaveSeat_noAdvance (still : NoAdvance s) (laws : SeatsApart s) (cls : s.plan[seat].cls ≠ .chair) (c : CloseReason)
    (l : LeaveReason) : let t := leaveSeat seat c l s
    t = { unbound seat s with
        link := t.link
        queue := { s.queue with entries := entriesLeft seat s.queue.entries }, floor := floorLeft seat s.floor } ∧
      Tells s t (leavingNotices s seat c l) := by
  dsimp only
  obtain ⟨d, frame, told, stays, advances⟩ := dropped_eq still.1 laws seat c l
  have noAdvance : NoAdvance d := by rw [frame]; exact still
  have left : leaveSeat seat c l s = d := by
    rw [leaveSeat_eq, if_neg cls]
    by_cases freed : s.floor.slotOf seat = none ∧ ∃ x ∈ s.queue.entries, x.seat ≠ seat ∧ x.target = some seat ∧
      eligibility s { x with target := none, heard := false } = .eligible
    · rw [advances freed, advanceCheck_noAdvance noAdvance]
    · exact stays freed
  rw [left]
  exact ⟨frame, told⟩

end Sys2Proof.Machine
end

section
namespace Sys2Proof.Machine
variable {s t u : State} {seat : Seat} {c : CloseReason} {l : LeaveReason} {p : Place} {e : ChainEntry} {w : Wing} {pos : Pos}

/-! ### What a loss leaves, from the effects of its unit on (R26, R35) -/

theorem failAssignment_frame (p : Place) (cause : AssignFailure) (s : State) : failAssignment p cause s =
    { s with link := (failAssignment p cause s).link, trunks := (failAssignment p cause s).trunks } := by
  obtain ⟨keeps, seats, queue, floor⟩ := failAssignment_keeps p cause s
  exact eq_with_link_trunks keeps seats queue floor

theorem lost_after (unit : s.trunks.entryAt p = some e) : let t := endPollAt p (loseUnit p s)
    t = { loseEffects p e s with link := t.link, trunks := t.trunks } ∧
      t.trunks.binding = (loseEffects p e s).trunks.binding ∧ t.trunks.blocked = (loseEffects p e s).trunks.blocked ∧
      Tells (loseEffects p e s) t (assignmentNotices s p .lost) := by
  dsimp only
  obtain ⟨link, binding, blocked⟩ := endPollAt_same p (loseUnit p s)
  rw [loseUnit_some unit] at *
  have notices : assignmentNotices (setEntry p none (loseEffects p e s)) p .lost = assignmentNotices s p .lost := by
    have flight : (setEntry p none (loseEffects p e s)).trunks.units[p.wing].assignment = s.trunks.units[p.wing].assignment := by
      have same : (loseEffects p e s).trunks.units[p.wing].assignment = s.trunks.units[p.wing].assignment := by
        simp only [loseEffects_units]
      rw [setEntry_trunks, units_putEntry, if_pos rfl]
      exact same
    simp only [assignmentNotices, flight]
  have told := failAssignment_tells p .lost (setEntry p none (loseEffects p e s))
  refine ⟨?_, ?_, ?_, ?_⟩
  · rw [endPollAt_frame, failAssignment_frame]
    rfl
  · rw [binding, (failAssignment_binding _ _ _).1]; rfl
  · rw [blocked, (failAssignment_binding _ _ _).2]; rfl
  · rw [← notices]
    exact (told.silent (tells_nil link)).after rfl

theorem loseEffects_settling (settling : e.presence = .settling) : loseEffects p e s = s := by
  simp only [loseEffects, settling]

theorem loseEffects_blocked {k : BlockKind} (blocked : e.presence = .blocked k) :
    loseEffects p e s = post (.seatLost p e.addr (.blocked k)) (leaveBlocked p s) := by
  simp only [loseEffects, blocked]

theorem loseEffects_ready (ready : e.presence = .ready) (addr : e.addr = some seat) : loseEffects p e s =
    deferredAdvance (holdsSlot s seat) (post (.seatLost p (some seat) .ready) (leaveSeat seat .lost .lost s)) := by
  simp only [loseEffects, ready, addr]

theorem leaveBlocked_frame (p : Place) (s : State) : leaveBlocked p s = { s with
    link := (leaveBlocked p s).link, trunks := { s.trunks with blocked := s.trunks.blocked.filter fun b => b.place ≠ p } } := by
  obtain ⟨keeps, seats, queue, floor⟩ := leaveBlocked_keeps p s
  rw [← leaveBlocked_trunks]
  exact eq_with_link_trunks keeps seats queue floor

theorem leaveBlocked_tells (p : Place) (s : State) : Tells s (leaveBlocked p s) [] := setBlocked_tells _ s

theorem deferredAdvance_records (b : Bool) (s : State) : KeepsRecords s (deferredAdvance b s) := by
  unfold deferredAdvance; split <;> simp [KeepsRecords]

/-- A READY unit that is lost leaves its seat with nothing (R26). -/
theorem loseEffects_gone (ready : e.presence = .ready) (addr : e.addr = some seat) (holds : Holds seat 1 True s) :
    Holds seat 0 False (loseEffects p e s) ∧ (loseEffects p e s).seats[seat] = none ∧
      (loseEffects p e s).trunks = s.trunks.bind seat none := by
  have gone : Holds seat 0 False (post (.seatLost p (some seat) .ready) (leaveSeat seat .lost .lost s)) :=
    (leaveSeat_gone holds .lost .lost).of_same
  have forgotten : (leaveSeat seat .lost .lost s).seats[seat] = none := by
    by_contra has
    exact (leaveSeat_has .lost .lost has).1 rfl
  rw [loseEffects_ready ready addr]
  refine ⟨deferredAdvance_holds gone _, ?_, ?_⟩
  · by_contra has
    exact ((deferredAdvance_records _ _).iff seat).1 has ((congrArg (·[seat]) (post_keeps _ _).2.1).trans forgotten)
  · rw [(deferredAdvance_keeps _ _).2, (post_keeps _ _).1.2, leaveSeat_trunks]

/-- With no advance following, and for a seat that is no chair, the whole of a READY unit's loss. -/
theorem loseEffects_noAdvance (ready : e.presence = .ready) (addr : e.addr = some seat) (still : NoAdvance s) (laws : SeatsApart s)
    (cls : s.plan[seat].cls ≠ .chair) : let t := loseEffects p e s
    t = { unbound seat s with
        link := t.link
        queue := { s.queue with entries := entriesLeft seat s.queue.entries }, floor := floorLeft seat s.floor } ∧
      Tells s t (leavingNotices s seat .lost .lost ++ [.seatLost p (some seat) .ready]) := by
  obtain ⟨frame, told⟩ := leaveSeat_noAdvance still laws cls .lost .lost
  let posted := post (.seatLost p (some seat) .ready) (leaveSeat seat .lost .lost s)
  have list : (leaveSeat seat .lost .lost s).queue.list = s.queue.list := by rw [frame]
  have noAdvance : NoAdvance posted := still.congr list (by simp [posted])
  dsimp only
  rw [loseEffects_ready ready addr, deferredAdvance_noAdvance noAdvance]
  exact ⟨congrArg (fun x : State => { x with link := posted.link }) frame, told.trans (post_tells _ _)⟩

/-- A unit that is lost with no assignment to it and nothing to leave posts nothing. -/
theorem loseUnit_quiet (unit : s.trunks.entryAt p = some e) (settling : e.presence = .settling)
    (quiet : assignmentNotices s p .lost = []) : (loseUnit p s).link = s.link := by
  have same : assignmentNotices (setEntry p none s) p .lost = assignmentNotices s p .lost := by
    have flight : (setEntry p none s).trunks.units[p.wing].assignment = s.trunks.units[p.wing].assignment := by
      rw [setEntry_trunks, units_putEntry, if_pos rfl]
    simp only [assignmentNotices, flight]
  rw [loseUnit_some unit, loseEffects_settling settling, failAssignment_quiet (same.trans quiet)]
  rfl

theorem deferredAdvance_heldSlot (s u : State) (seat : Seat) :
    deferredAdvance (holdsSlot s seat) u = if heldSlot s seat then advanceCheck u else u := by
  rw [heldSlot_eq]; rfl

/-! ### UNIT_LOST -/

/-- Settles O24: the frame of a loss; its effects by the unit's state; then the equations of a seat's departure and of a drop. -/
theorem unitLostLeavesItsSeat : Obligations.UnitLostLeavesItsSeat := by
  refine ⟨fun w pos e s sending unit => ?lost, fun seat reason leave s => ?left, fun seat deferred s => dropBindings_eq seat deferred s⟩
  case left =>
    intro off closed gone
    have same : dropped seat reason leave s = gone := by
      have floor : (unbound seat s).floor = s.floor := rfl
      simp only [gone, closed, dropped, offFloor, closeSeatQuiet, floor]
      cases held : s.floor.slotOf seat <;> rfl
    rw [← same]
    refine ⟨fun cls => ?_, fun cls => ?_, fun q list laws => ?_⟩
    · rw [leaveSeat_eq, if_neg cls]
    · rw [leaveSeat_eq, if_pos cls]
    · obtain ⟨d, frame, told, stays, advances⟩ := dropped_eq list (seatsApart laws) seat reason leave
      exact ⟨d, frame, told.linkFrame q, told.posts q, stays, advances⟩
  case lost =>
    obtain ⟨frame, binding, blocked, told⟩ := lost_after unit
    obtain ⟨-, -, -, plan, cursor, allowance, profiles⟩ := loseUnit_keeps ⟨w, pos⟩ s
    have ended := endPollAt_frame ⟨w, pos⟩ (loseUnit ⟨w, pos⟩ s)
    have loses : LinkPath s.link (loseEffects ⟨w, pos⟩ e s).link := loseEffects_path _ _ _ .refl
    refine ⟨_, exec_unitLost sending.1 unit, linkFrame_of_path sending.queues (endPollAt_path _ _ (loseUnit_path _ _ .refl)),
      (endPollAt_entryAt _ _ _).trans (loseUnit_absent _ _), fun p other => (endPollAt_entryAt _ _ _).trans (loseUnit_entryAt unit other),
      (congrArg State.plan ended).trans plan, (congrArg State.cursor ended).trans cursor,
      (congrArg State.allowance ended).trans allowance, (congrArg State.profiles ended).trans profiles, fun w' other => ?_, ?_,
      fun settling => ?settling, fun k blocked' => ?blocked, fun seat ready addr => ?ready,
      fun seat ready addr queue lists slots => ?gone⟩
    · rw [endPollAt_other _ (p := ⟨w, pos⟩) other, loseUnit_units unit, if_neg other]
    · rw [endPollAt_assignment, loseUnit_units unit, if_pos rfl]
    case settling =>
      rw [loseEffects_settling settling] at frame binding blocked told
      exact ⟨frame, binding, blocked, fun quiet => (endPollAt_same _ _).1.trans (loseUnit_quiet unit settling quiet),
        told.posts sending.queues⟩
    case blocked =>
      have left := leaveBlocked_frame ⟨w, pos⟩ s
      have posted := ((leaveBlocked_tells ⟨w, pos⟩ s).trans (post_tells (.seatLost ⟨w, pos⟩ e.addr (.blocked k)) _)).trans
        (loseEffects_blocked (p := ⟨w, pos⟩) (s := s) blocked' ▸ told)
      rw [loseEffects_blocked blocked'] at frame binding blocked
      refine ⟨?_, ?_, ?_, posted.posts sending.queues⟩
      · exact frame.trans (congrArg (fun x : State => { x with
          link := (endPollAt ⟨w, pos⟩ (loseUnit ⟨w, pos⟩ s)).link
          trunks := (endPollAt ⟨w, pos⟩ (loseUnit ⟨w, pos⟩ s)).trunks }) left)
      · rw [binding, (post_keeps _ _).1.2, leaveBlocked_trunks]
      · rw [blocked, (post_keeps _ _).1.2, leaveBlocked_trunks]
    case ready =>
      have after := loseEffects_ready (p := ⟨w, pos⟩) (s := s) ready addr
      rw [deferredAdvance_heldSlot] at after
      have q := queues_of_path sending.queues loses
      rw [after] at frame binding blocked told q
      exact ⟨frame, binding, blocked, told.linkFrame q, told.posts q⟩
    case gone =>
      obtain ⟨nowhere, forgotten, trunks⟩ := loseEffects_gone (p := ⟨w, pos⟩) ready addr (holds_of_laws queue slots seat)
      have seats := congrArg State.seats frame
      have floor := congrArg State.floor frame
      have waiting := congrArg State.queue frame
      rw [binding, blocked, seats, floor, waiting, trunks]
      refine ⟨rfl, rfl, forgotten, nowhere.noSlot, fun x hx => ⟨nowhere.noEntry x hx, nowhere.targets x hx⟩, fun cls still => ?_⟩
      obtain ⟨whole, posted⟩ := loseEffects_noAdvance (p := ⟨w, pos⟩) ready addr still (seatsApart ⟨queue, lists, slots⟩) cls
      exact ⟨frame.trans (congrArg (fun x : State => { x with
          link := (endPollAt ⟨w, pos⟩ (loseUnit ⟨w, pos⟩ s)).link
          trunks := (endPollAt ⟨w, pos⟩ (loseUnit ⟨w, pos⟩ s)).trunks }) whole), (posted.trans told).posts sending.queues⟩

end Sys2Proof.Machine
end

section
namespace Sys2Proof.Machine
variable {s t u B : State} {seat requested : Seat} {p : Place} {e : ChainEntry} {w : Wing} {pos : Pos} {a : TrunkAnswer} {q : Poll}
  {x : Assignment}

/-! ### What a unit leaves when its assignment completes (R34, steps 1 and 2) -/

theorem releaseForAssignment_settling (settling : e.presence = .settling) : releaseForAssignment p e requested s = s := by
  simp only [releaseForAssignment, settling]

theorem releaseForAssignment_blocked {k : BlockKind} (blocked : e.presence = .blocked k) :
    releaseForAssignment p e requested s = leaveBlocked p s := by
  simp only [releaseForAssignment, blocked]

theorem releaseForAssignment_same (ready : e.presence = .ready) (addr : e.addr = some requested) :
    releaseForAssignment p e requested s = s := by
  simp only [releaseForAssignment, ready, addr, if_true]

theorem releaseForAssignment_other (ready : e.presence = .ready) (addr : e.addr = some seat) (other : seat ≠ requested) :
    releaseForAssignment p e requested s = deferredAdvance (holdsSlot s seat) (leaveSeat seat .plan .plan s) := by
  simp only [releaseForAssignment, ready, addr, other, if_false]

theorem releaseForAssignment_units (p : Place) (e : ChainEntry) (requested : Seat) (s : State) :
    (releaseForAssignment p e requested s).trunks.units = s.trunks.units := by
  unfold releaseForAssignment
  split
  · split <;> simp [leaveSeat_trunks]
  · simp [leaveBlocked_trunks]
  · rfl

theorem releaseForAssignment_withUnits (v : Vector Trunk 4) (p : Place) (e : ChainEntry) (requested : Seat) (s : State) :
    releaseForAssignment p e requested (withUnits v s) = withUnits v (releaseForAssignment p e requested s) := by
  have holds (seat : Seat) : holdsSlot (withUnits v s) seat = holdsSlot s seat := rfl
  unfold releaseForAssignment
  split
  · split <;> simp [holds]
  · simp
  · rfl

/-! ### The completion (R34) -/

/-- The entry of a unit that has taken the address it was assigned. -/
def ChainEntry.renamed (e : ChainEntry) (a : TrunkAnswer) (requested : Seat) : ChainEntry :=
  { e with addr := some requested, settle := 16, miss := 0, buttons := a.buttons, level := a.level }

/-- What the check of the renamed unit makes of a state, with its notices (R23, R34). -/
def checkRenamed (p : Place) (r : ChainEntry) (requested : Seat) (s : State) : State :=
  match checkUnit s p r with
  | .ready seat => post (.assignDone p requested .ready) (becomeReady p r seat s)
  | .blocked kind => post (.assignDone p requested (.blocked kind)) (becomeBlocked p r kind s)

theorem checkRenamed_blocked {r : ChainEntry} {k : BlockKind} (check : checkUnit s p r = .blocked k) :
    checkRenamed p r requested s = post (.assignDone p requested (.blocked k)) (becomeBlocked p r k s) := by
  simp only [checkRenamed, check]

theorem checkRenamed_ready {r : ChainEntry} (check : checkUnit s p r = .ready seat) :
    checkRenamed p r requested s = post (.assignDone p requested .ready) (becomeReady p r seat s) := by
  simp only [checkRenamed, check]

theorem checkRenamed_frame (p : Place) (r : ChainEntry) (requested : Seat) (s : State) : checkRenamed p r requested s =
    { s with link := (checkRenamed p r requested s).link, trunks := (checkRenamed p r requested s).trunks } := by
  unfold checkRenamed
  split
  · rfl
  · next k _ =>
    exact congrArg (fun x : State => { x with link := (post (.assignDone p requested (.blocked k)) (becomeBlocked p r k s)).link })
      (becomeBlocked_frame p r k s)

theorem checkRenamed_path (p : Place) (r : ChainEntry) (requested : Seat) (s : State) :
    LinkPath s.link (checkRenamed p r requested s).link := by
  unfold checkRenamed
  split
  · exact post_path _ _ (becomeReady_path _ _ _ _ .refl)
  · exact post_path _ _ (becomeBlocked_path _ _ _ _ .refl)

/-- Of the trunk units the check rewrites the place of the unit. -/
theorem checkRenamed_units (p : Place) (r : ChainEntry) (requested : Seat) (s : State) :
    ∃ r', (checkRenamed p r requested s).trunks.units = (s.trunks.putEntry p (some r')).units := by
  unfold checkRenamed
  split
  · exact ⟨_, by rw [(post_keeps _ _).1.2, becomeReady_trunks]; rfl⟩
  · exact ⟨_, by rw [(post_keeps _ _).1.2, becomeBlocked_trunks]⟩

/-- The state in which the renamed unit is checked: what the unit leaves, left, and the assignment off the trunk. -/
def released (p : Place) (e : ChainEntry) (requested : Seat) (s : State) : State :=
  mapTrunk p.wing (fun t => { t with assignment := none }) (releaseForAssignment p e requested s)

theorem completeAssignment_eq (unit : s.trunks.entryAt p = some e) (a : TrunkAnswer) (requested : Seat) :
    completeAssignment p e a requested s = checkRenamed p (e.renamed a requested) requested (released p e requested s) := by
  have units := releaseForAssignment_units p e requested s
  have order : releaseForAssignment p e requested (mapTrunk p.wing (fun t => { t with assignment := none }) s) =
      released p e requested s := by
    rw [mapTrunk_eq, releaseForAssignment_withUnits, released, mapTrunk_eq]
    simp only [mapTrunk, State.setTrunks_trunks, units]
    rfl
  have still : (released p e requested s).trunks.entryAt p = some e := by
    rw [released, mapTrunk_entryAt _ (by intro _; rfl), Trunks.entryAt, units]
    exact unit
  unfold completeAssignment; dsimp only
  rw [order, still]
  rfl

/-- An answer that completes an assignment: the check, over what the unit has left, and the end of the poll. -/
theorem exec_completes (running : s.resetHeld = false) (polled : s.trunks.units[w].poll = some q)
    (unit : s.trunks.entryAt ⟨w, q.pos⟩ = some e) (flight : s.trunks.units[w].assignment = some x) (here : x.pos = q.pos)
    (stored : a.stored = true) (addr : a.addr = some x.seat) (type : a.buttons.unitType = e.buttons.unitType) :
    exec (.pollGoodAnswer w (answerFrame a)) s = .next (endPoll w
      (checkRenamed ⟨w, q.pos⟩ (e.renamed a x.seat) x.seat (released ⟨w, q.pos⟩ e x.seat s))) := by
  rw [exec_pollGoodAnswer running, finishPoll_polled polled, takeAnswer_completes unit flight here stored addr type,
    completeAssignment_eq unit, timeoutAssignment_elsewhere]
  intro y some
  obtain ⟨r, units⟩ := checkRenamed_units ⟨w, q.pos⟩ (e.renamed a x.seat) x.seat (released ⟨w, q.pos⟩ e x.seat s)
  rw [units, units_putEntry, if_pos rfl, released, mapTrunk_units, if_pos rfl] at some
  cases some

theorem becomeBlocked_tells (p : Place) (e : ChainEntry) (k : BlockKind) (s : State) :
    Tells s (becomeBlocked p e k s) [.seatBlocked p e.addr k] :=
  ⟨becomeBlocked_path _ _ _ _ .refl, fun q => becomeBlocked_posts p e k q⟩

theorem becomeReady_tells (p : Place) (e : ChainEntry) (seat : Seat) (s : State) :
    Tells s (becomeReady p e seat s) [.seatReady p seat e.buttons.unitType] :=
  ⟨becomeReady_path _ _ _ _ .refl, fun q => becomeReady_posts q p e seat⟩

theorem failedCheck_congr (plan : t.plan = s.plan) (binding : t.trunks.binding[seat] = s.trunks.binding[seat]) (p : Place)
    (unit : UnitType) : failedCheck t p unit seat = failedCheck s p unit seat := by
  unfold failedCheck
  rw [plan, binding]

section Completion
variable (release : releaseForAssignment p e requested s = B) (r : ChainEntry)
include release

/-- The completion and the end of its poll, over what the unit has left: what stays. -/
theorem completion_frame (w : Wing) (here : p.wing = w) : let t := endPoll w (checkRenamed p r requested (released p e requested s))
    t = { B with trunks := t.trunks, link := t.link } ∧ LinkPath B.link t.link ∧
      t.trunks.units[w].assignment = none ∧ t.trunks.units[w].poll = none ∧
      (∀ p' : Place, p' ≠ p → t.trunks.entryAt p' = s.trunks.entryAt p') ∧
      ∀ w', w' ≠ w → t.trunks.units[w'] = s.trunks.units[w'] := by
  subst here release
  have before := releaseForAssignment_units p e requested s
  obtain ⟨r', units⟩ := checkRenamed_units p r requested (released p e requested s)
  have frame := checkRenamed_frame p r requested (released p e requested s)
  have entries (p' : Place) (other : p' ≠ p) : (checkRenamed p r requested (released p e requested s)).trunks.entryAt p' =
      s.trunks.entryAt p' := by
    have same : (checkRenamed p r requested (released p e requested s)).trunks.entryAt p' =
        ((released p e requested s).trunks.putEntry p (some r')).entryAt p' := by rw [Trunks.entryAt, units, Trunks.entryAt]
    rw [same, entryAt_putEntry, if_neg other, released, mapTrunk_entryAt _ (by intro _; rfl), Trunks.entryAt, before,
      Trunks.entryAt]
  refine ⟨?_, checkRenamed_path _ _ _ (released p e requested s), ?_, ?_,
    fun p' other => (endPoll_entryAt _ _ _).trans (entries p' other), fun w' other => ?_⟩
  · exact congrArg (fun x : State => { x with
      link := (checkRenamed p r requested (released p e requested s)).link
      trunks := (endPoll p.wing (checkRenamed p r requested (released p e requested s))).trunks }) frame
  · rw [endPoll_units, if_pos rfl, Trunk.endPoll_assignment, units, units_putEntry, if_pos rfl, released, mapTrunk_units, if_pos rfl]
  · rw [endPoll_units, if_pos rfl, Trunk.endPoll_poll]
  · rw [endPoll_units, if_neg other, units, units_putEntry, if_neg other, released, mapTrunk_units, if_neg other, before]

/-- The renamed unit that fails a check. -/
theorem completion_blocked (w : Wing) {k : BlockKind} (check : checkUnit B p r = .blocked k) :
    let t := endPoll w (checkRenamed p r requested (released p e requested s))
    t.trunks.entryAt p = some { r with presence := .blocked k } ∧ t.trunks.binding = B.trunks.binding ∧
      t.trunks.blocked = B.trunks.blocked ++ [⟨p, r.addr, k⟩] ∧
      Tells B t [.seatBlocked p r.addr k, .assignDone p requested (.blocked k)] := by
  have checked : checkUnit (released p e requested s) p r = .blocked k := by rw [released, release]; exact check
  have told : Tells B (becomeBlocked p r k (released p e requested s)) [.seatBlocked p r.addr k] :=
    (becomeBlocked_tells p r k (released p e requested s)).after (by rw [released, release]; rfl)
  dsimp only
  rw [checkRenamed_blocked checked, endPoll_entryAt, (post_keeps _ _).1.2, becomeBlocked_trunks]
  refine ⟨(entryAt_putEntry _ _ _ _).trans (if_pos rfl), ?_, ?_, (told.trans (post_tells _ _)).silent (tells_nil rfl)⟩
  · rw [endPoll, mapTrunk_binding, (post_keeps _ _).1.2, becomeBlocked_trunks, released, release]; rfl
  · rw [endPoll, mapTrunk_blocked, (post_keeps _ _).1.2, becomeBlocked_trunks, released, release]; rfl

/-- The renamed unit that passes the checks. -/
theorem completion_ready (w : Wing) (check : checkUnit B p r = .ready seat) :
    let t := endPoll w (checkRenamed p r requested (released p e requested s))
    t.trunks.entryAt p = some { r with presence := .ready } ∧ t.trunks.binding = put B.trunks.binding seat (some p) ∧
      t.trunks.blocked = B.trunks.blocked ∧
      Tells B t [.seatReady p seat r.buttons.unitType, .assignDone p requested .ready] := by
  have checked : checkUnit (released p e requested s) p r = .ready seat := by rw [released, release]; exact check
  have told : Tells B (becomeReady p r seat (released p e requested s)) [.seatReady p seat r.buttons.unitType] :=
    (becomeReady_tells p r seat (released p e requested s)).after (by rw [released, release]; rfl)
  dsimp only
  rw [checkRenamed_ready checked, endPoll_entryAt, (post_keeps _ _).1.2, becomeReady_trunks]
  refine ⟨(entryAt_putEntry _ _ _ _).trans (if_pos rfl), ?_, ?_, (told.trans (post_tells _ _)).silent (tells_nil rfl)⟩
  · rw [endPoll, mapTrunk_binding, (post_keeps _ _).1.2, becomeReady_trunks, released, release]; rfl
  · rw [endPoll, mapTrunk_blocked, (post_keeps _ _).1.2, becomeReady_trunks, released, release]; rfl

end Completion

/-- Settles O26: a completion is the check of the renamed unit over what the unit has left, by its state; the seat's departure has
its own equation. -/
theorem assignmentCompletesOrTimesOut : Obligations.AssignmentCompletesOrTimesOut := by
  refine ⟨fun w x s sending flight => ?timeout, fun w q e x a s sending polled unit flight here stored addr type => ?completes⟩
  case timeout =>
    have told := failAssignment_tells ⟨w, x.pos⟩ .timeout s
    have notices : assignmentNotices s ⟨w, x.pos⟩ .timeout = [.assignFailed ⟨w, x.pos⟩ x.seat .timeout] := by
      simp only [assignmentNotices, flight, Option.toList_some, List.filter_cons, decide_true, if_true, List.filter_nil, List.map_cons,
        List.map_nil]
    obtain ⟨link, binding, blocked⟩ := endPollAt_same ⟨w, x.pos⟩ (failAssignment ⟨w, x.pos⟩ .timeout s)
    refine ⟨_, exec_assignTimeout sending.1 flight, ?_, (told.silent (tells_nil link)).linkFrame sending.queues, ?_, ?_,
      binding.trans (failAssignment_binding _ _ _).1, blocked.trans (failAssignment_binding _ _ _).2, fun w' other => ?_,
      notices ▸ (told.silent (tells_nil link)).posts sending.queues⟩
    · rw [endPollAt_frame, failAssignment_frame]
      rfl
    · rw [endPollAt_assignment, failAssignment_units, if_pos rfl]
      exact filter_here flight rfl
    · rw [endPollAt_chain, failAssignment_units, if_pos rfl]
    · rw [endPollAt_other _ (p := ⟨w, x.pos⟩) other, failAssignment_units, if_neg other]
  case completes =>
    intro p wrongPlace wrongType taken entry checked
    have checks {u B : State} {table : List BlockedEntry} {binding : Vector (Option Place) 512} {before : List NoticeBody}
        (release : releaseForAssignment p e x.seat s = B) (told : Tells u B before) (queues : Queues u) (plan : B.plan = s.plan)
        (bound : B.trunks.binding = binding) (blocked : B.trunks.blocked = table) (kept : binding[x.seat] = s.trunks.binding[x.seat]) :
        ∃ t, exec (.pollGoodAnswer w (answerFrame a)) s = .next t ∧ t = { B with trunks := t.trunks, link := t.link } ∧
          checked u t table binding before := by
      subst bound blocked
      obtain ⟨frame, path, assignment, poll, entries, units⟩ := completion_frame release (e.renamed a x.seat) w rfl
      have failed : failedCheck B p a.buttons.unitType x.seat = failedCheck s p e.buttons.unitType x.seat := by
        rw [type]
        exact failedCheck_congr plan kept p _
      refine ⟨_, exec_completes sending.1 polled unit flight here stored addr type, frame,
        linkFrame_of_path queues (told.path.trans path), assignment, poll, entries, units, ?_⟩
      have blocks {k : BlockKind} (check : failedCheck s p e.buttons.unitType x.seat = some k) :=
        completion_blocked release (e.renamed a x.seat) w (checkUnit_blocked (e := e.renamed a x.seat) rfl (failed.trans check))
      refine ⟨fun wrong => ?_, fun right wrong => ?_, fun right typed taken => ?_, fun right typed free => ?_⟩
      · obtain ⟨now, binds, joins, posted⟩ := blocks (if_pos wrong)
        exact ⟨now, binds, joins, (told.trans posted).posts queues⟩
      · obtain ⟨now, binds, joins, posted⟩ := blocks ((if_neg right).trans (if_pos wrong))
        exact ⟨now, binds, joins, (told.trans posted).posts queues⟩
      · obtain ⟨now, binds, joins, posted⟩ := blocks ((if_neg right).trans ((if_neg typed).trans (if_pos taken)))
        exact ⟨now, binds, joins, (told.trans posted).posts queues⟩
      · have passes := checkUnit_ready (e := e.renamed a x.seat)
          rfl (failed.trans ((if_neg right).trans ((if_neg typed).trans (if_neg free))))
        obtain ⟨now, binds, joins, posted⟩ := completion_ready release (e.renamed a x.seat) w passes
        exact ⟨now, binds, joins, type ▸ (told.trans posted).posts queues⟩
    refine ⟨fun settling => ?_, fun k blocked => ?_, fun ready same => ?_, fun y ready seated other => ?_,
      fun y ready seated other cls still laws => ?_⟩
    · exact checks (releaseForAssignment_settling settling) (tells_nil rfl) sending.queues rfl rfl rfl rfl
    · have left := leaveBlocked_frame p s
      obtain ⟨t, taken, frame, rest⟩ := checks (table := s.trunks.blocked.filter fun b => b.place ≠ p) (binding := s.trunks.binding)
        (releaseForAssignment_blocked blocked) (leaveBlocked_tells p s) sending.queues (by rw [left]) (by rw [leaveBlocked_trunks])
        (by rw [leaveBlocked_trunks]) rfl
      exact ⟨t, taken, frame.trans (congrArg (fun x : State => { x with trunks := t.trunks, link := t.link }) left), rest⟩
    · exact checks (releaseForAssignment_same ready same) (tells_nil rfl) sending.queues rfl rfl rfl rfl
    · intro left gone
      have release : releaseForAssignment p e x.seat s = gone := by
        rw [releaseForAssignment_other ready seated other, deferredAdvance_heldSlot]
      have path : LinkPath s.link gone.link := release ▸ releaseForAssignment_path p e x.seat s .refl
      have trunks : gone.trunks = s.trunks.bind y none := by
        rw [← release, releaseForAssignment_other ready seated other, (deferredAdvance_keeps _ _).2, leaveSeat_trunks]
      have plan : gone.plan = s.plan := by
        rw [← release, releaseForAssignment_other ready seated other]; simp
      exact checks release (tells_nil rfl) (queues_of_path sending.queues path) plan (by rw [trunks]; rfl) (by rw [trunks]; rfl)
        ((put_getElem _ _ _ _).trans (if_neg other.symm))
    · obtain ⟨frame, told⟩ := leaveSeat_noAdvance still (seatsApart laws) cls .plan .plan
      have list : (leaveSeat y .plan .plan s).queue.list = s.queue.list := by rw [frame]
      have release : releaseForAssignment p e x.seat s = leaveSeat y .plan .plan s := by
        rw [releaseForAssignment_other ready seated other, deferredAdvance_noAdvance (still.congr list (by simp))]
      obtain ⟨t, taken, whole, rest⟩ := checks (table := s.trunks.blocked) (binding := put s.trunks.binding y none) release told
        sending.queues (by simp) (by rw [leaveSeat_trunks]; rfl) (by rw [leaveSeat_trunks]; rfl)
        ((put_getElem _ _ _ _).trans (if_neg other.symm))
      exact ⟨t, taken, whole.trans (congrArg (fun x : State => { x with trunks := t.trunks, link := t.link }) frame), rest⟩

end Sys2Proof.Machine
end

section
namespace Sys2Proof.Machine
variable {s t u : State} {seat : Seat} {c d : ChairRecord} {r : SeatRecord}

/-! ### A seat event refused (R39, R89) -/

theorem put_same {α : Type} {n : Nat} (v : Vector α n) (i : Fin n) : put v i v[i] = v := by simp [put]

@[simp] theorem setEntry_same (p : Place) (s : State) : setEntry p (s.trunks.entryAt p) s = s := by
  have chain : put s.trunks.units[p.wing].chain p.pos s.trunks.units[p.wing].chain[p.pos] = s.trunks.units[p.wing].chain :=
    put_same _ _
  have units : (s.trunks.putEntry p (s.trunks.entryAt p)).units = s.trunks.units := by
    simp only [Trunks.putEntry, Trunks.entryAt, chain]
    exact put_same _ _
  exact congrArg (withUnits · s) units

theorem showRefused_some {p : Place} (bound : s.trunks.binding[seat] = some p) : showRefused seat s =
    setEntry p ((s.trunks.entryAt p).map fun e => { e with refusal := 20 }) s := by
  simp only [showRefused, placeOf, bound]
  cases unit : s.trunks.entryAt p with
  | none => exact (unit ▸ setEntry_same p s).symm
  | some e => rfl

theorem showRefused_none (unbound : s.trunks.binding[seat] = none) : showRefused seat s = s := by
  simp only [showRefused, placeOf, unbound]

theorem refuse_refused (q : Queues s) (seat : Seat) (event : SeatEvent) (cause : RefusalCause) :
    EventRefused s (refuse seat event cause s) seat event cause := by
  have told : Tells s (refuse seat event cause s) [.pressRefused seat event cause] :=
    (post_tells _ s).silent (tells_nil (showRefused_keeps seat _).2.1)
  obtain ⟨keeps, seats, queue, floor⟩ := refuse_keeps seat event cause s
  obtain ⟨⟨-, trunks⟩, -⟩ := post_keeps (.pressRefused seat event cause) s
  refine ⟨eq_with_link_trunks keeps seats queue floor, told.linkFrame q, told.posts q, ?_⟩
  cases bound : s.trunks.binding[seat] with
  | none =>
    rw [refuse, showRefused_none (by rw [trunks]; exact bound), trunks]
    exact ⟨rfl, rfl, fun _ => rfl, fun p => (if_neg (by simp)).symm⟩
  | some p =>
    rw [refuse, showRefused_some (p := p) (by rw [trunks]; exact bound), setEntry_trunks, trunks]
    refine ⟨rfl, rfl, putEntry_chain_only _ _ _, fun p' => ?_⟩
    rw [entryAt_putEntry]
    by_cases same : p' = p
    · rw [if_pos same, if_pos (by rw [same]), same]
    · rw [if_neg same, if_neg fun eq => same (Option.some.inj eq).symm]

/-! ### The chair record of a seat (R91) -/

theorem chairOf_none (nobody : ∀ c ∈ s.floor.chairs, c.seat ≠ seat) : s.floor.chairOf seat = none :=
  List.find?_eq_none.2 fun c hc => by simpa using nobody c hc

/-- Chairs in order of seat hold one record for a seat. -/
theorem chair_unique (laws : ChairsLaw s) (hc : c ∈ s.floor.chairs) (hd : d ∈ s.floor.chairs) (same : c.seat = d.seat) : c = d := by
  have nodup : (s.floor.chairs.map (·.seat)).Nodup := sorted_nodup (List.pairwise_map.2 laws.1)
  exact List.inj_on_of_nodup_map nodup hc hd same

theorem chairOf_mem (laws : ChairsLaw s) (hc : c ∈ s.floor.chairs) (same : c.seat = seat) : s.floor.chairOf seat = some c := by
  cases found : s.floor.chairOf seat with
  | none => exact absurd same (by simpa using List.find?_eq_none.1 found c hc)
  | some d =>
    obtain ⟨hd, there⟩ := chairOf_some found
    rw [chair_unique laws hd hc (there.trans same.symm)]

/-- The chair records with the one of a seat replaced. -/
abbrev rewritten (seat : Seat) (d : ChairRecord) (cs : List ChairRecord) : List ChairRecord :=
  cs.map fun x => if x.seat = seat then d else x

theorem mapChairs_eq (laws : ChairsLaw s) (hc : c ∈ s.floor.chairs) (same : c.seat = seat) (g : ChairRecord → ChairRecord) :
    mapChairs seat g s.floor.chairs = rewritten seat (g c) s.floor.chairs :=
  List.map_congr_left fun x hx => by
    split
    · next there => rw [chair_unique laws hx hc (there.trans same.symm)]
    · rfl

theorem mapChairs_mapChairs {h : ChairRecord → ChairRecord} (seats : ∀ x, (h x).seat = x.seat) (g : ChairRecord → ChairRecord)
    (cs : List ChairRecord) : mapChairs seat g (mapChairs seat h cs) = mapChairs seat (fun x => g (h x)) cs := by
  rw [mapChairs, mapChairs, mapChairs, List.map_map]
  refine List.map_congr_left fun x _ => ?_
  by_cases there : x.seat = seat
  · simp [there, seats]
  · simp [there]

theorem mapChairs_find (f : Floor) {g : ChairRecord → ChairRecord} (seats : ∀ x, (g x).seat = x.seat) :
    Floor.chairOf { f with chairs := mapChairs seat g f.chairs } seat = (f.chairOf seat).map g := by
  have same : ((fun c : ChairRecord => c.seat == seat) ∘ fun c => if c.seat = seat then g c else c) = fun c => c.seat == seat := by
    funext x
    by_cases there : x.seat = seat <;> simp [there, seats]
  rw [Floor.chairOf, mapChairs, List.find?_map, same, Floor.chairOf]
  refine Option.map_congr fun x hx => if_pos ?_
  simpa using List.find?_some hx

/-- The chair record of a seat changed in place, its hold as it was. -/
theorem setChairs_mapChairs {g : ChairRecord → ChairRecord} (held : ∀ x, (g x).held = x.held) (seat : Seat) (s : State) :
    setChairs (mapChairs seat g s.floor.chairs) s = s.setFloor { s.floor with chairs := mapChairs seat g s.floor.chairs } :=
  setChairs_eq (mapChairs_held seat held _)

theorem restartBlanking_eq (seat : Seat) (s : State) : restartBlanking seat s = s.setSeats (blankingRestarted s seat) := by
  unfold restartBlanking blankingRestarted
  cases record : s.seats[seat] with
  | none =>
    have same : put s.seats seat none = s.seats := by rw [← record]; simp [put]
    simp only [Option.map_none, same]
    rfl
  | some r => rfl

/-! ### TALK (R91) -/

theorem talk_locked (locked : s.floor.locked[seat] = true) : talk seat s = refuse seat .talk .locked s := by
  simp only [talk, isLocked, locked, if_true]

theorem talk_chair (free : s.floor.locked[seat] = false) (chair : s.floor.chairOf seat = some c) :
    talk seat s = if c.micOpen then closeChair seat s else openChair seat s := by
  simp only [talk, isLocked, free, chair]
  rfl

section Chair
variable (laws : ChairsLaw s) (hc : c ∈ s.floor.chairs) (same : c.seat = seat)
include laws hc same

theorem closeChair_eq : let t := closeChair seat s
    t = { s with link := t.link
                 floor := { s.floor with chairs := rewritten seat { c with micOpen := false, softMuted := false } s.floor.chairs } } ∧
      Tells s t [.chairMic seat false] := by
  dsimp only
  rw [closeChair, setChairs_mapChairs (by intro _; rfl), mapChairs_eq laws hc same]
  exact ⟨rfl, (post_tells _ _).after rfl⟩

theorem openChair_eq : let t := openChair seat s
    t = { s with link := t.link, seats := blankingRestarted s seat
                 floor := { s.floor with
                   chairs := rewritten seat { c with micOpen := true, softMuted := false, strikes := 0 } s.floor.chairs } } ∧
      Tells s t [.chairMic seat true] := by
  unfold openChair
  dsimp only
  rw [setChairs_mapChairs (by intro _; rfl), mapChairs_eq laws hc same, restartBlanking_eq]
  exact ⟨rfl, (post_tells _ _).after rfl⟩

end Chair

/-! ### HOWL and HOWL CLEAR of a chair (R51, R96) -/

theorem mapSeat_some (record : s.seats[seat] = some r) (g : SeatRecord → SeatRecord) :
    mapSeat seat g s = s.setSeats (put s.seats seat (some (g r))) := by
  simp only [mapSeat, record, Option.map_some]

theorem exec_howl (running : s.resetHeld = false) (record : s.seats[seat] = some r) :
    exec (.howl seat) s = .next (raiseHowl seat s) := by
  simp only [exec, execHowl, whileRunning_running running, record]

theorem exec_howlClear (running : s.resetHeld = false) (record : s.seats[seat] = some r) :
    exec (.howlClear seat) s = .next (raiseHowlClear seat s) := by
  simp only [exec, execHowlClear, whileRunning_running running, record]

theorem raiseHowl_chair (cls : classOf s seat = .chair) (record : s.seats[seat] = some r) : raiseHowl seat s =
    howlChair seat (s.setSeats (put s.seats seat (some { r with howlRun := 0, releaseRun := 0 }))) := by
  have still : classOf (s.setSeats (put s.seats seat (some { r with howlRun := 0, releaseRun := 0 }))) seat = .chair := cls
  simp only [raiseHowl, howlEvent, mapSeat_some record, cls, still, or_true, if_true]

theorem raiseHowlClear_chair (cls : classOf s seat = .chair) (record : s.seats[seat] = some r) : raiseHowlClear seat s =
    howlClearChair seat (s.setSeats (put s.seats seat (some { r with releaseRun := 0 }))) := by
  have still : classOf (s.setSeats (put s.seats seat (some { r with releaseRun := 0 }))) seat = .chair := cls
  simp only [raiseHowlClear, howlClearEvent, mapSeat_some record, cls, still, or_true, if_true]

section Howl
variable (laws : ChairsLaw s) (hc : c ∈ s.floor.chairs) (same : c.seat = seat)
include laws hc same

theorem howlChair_silent (silent : c.micOpen = false ∨ c.softMuted = true) : howlChair seat s = s := by
  simp only [howlChair, chairOf_mem laws hc same]
  rw [if_pos]
  simpa using silent

theorem howlChair_soft (live : c.micOpen = true) (unmuted : c.softMuted = false) (soft : (inForce s).lockKind = .soft)
    (few : c.strikes < 2) : let t := howlChair seat s
    t = { s with link := t.link
                 floor := { s.floor with
                   chairs := rewritten seat { c with softMuted := true, strikes := c.strikes + 1 } s.floor.chairs } } ∧
      Tells s t [.howlLock seat .soft (c.strikes + 1)] := by
  simp only [howlChair, chairOf_mem laws hc same]
  rw [if_neg (by simp [live, unmuted]), if_pos ⟨soft, few⟩, setChairs_mapChairs (by intro _; rfl), mapChairs_eq laws hc same]
  exact ⟨rfl, (post_tells _ _).after rfl⟩

theorem howlChair_hard (live : c.micOpen = true) (unmuted : c.softMuted = false)
    (hard : (inForce s).lockKind = .hard ∨ 2 ≤ c.strikes) : let t := howlChair seat s
    t = { s with link := t.link
                 floor := { s.floor with
                   chairs := rewritten seat { c with micOpen := false, softMuted := false } s.floor.chairs
                   locked := put s.floor.locked seat true } } ∧
      Tells s t [.howlLock seat .hard c.strikes, .chairMic seat false] := by
  have no : ¬((inForce s).lockKind = .soft ∧ c.strikes < 2) := fun ⟨soft, few⟩ => by
    rcases hard with hard | many
    · cases hard.symm.trans soft
    · omega
  let u := setLocked seat true (s.setFloor { s.floor with
    chairs := rewritten seat { c with micOpen := false, softMuted := false } s.floor.chairs })
  have shut : howlChair seat s = post (.chairMic seat false) (post (.howlLock seat .hard c.strikes) u) := by
    simp only [howlChair, chairOf_mem laws hc same]
    rw [if_neg (by simp [live, unmuted]), if_neg no, setChairs_mapChairs (by intro _; rfl), mapChairs_eq laws hc same]
  have locked : Tells s (post (.howlLock seat .hard c.strikes) u) _ := (post_tells _ u).after rfl
  rw [shut]
  exact ⟨rfl, locked.trans (post_tells _ _)⟩

theorem howlClearChair_unmuted (unmuted : c.softMuted = false) : howlClearChair seat s = s := by
  simp [howlClearChair, chairOf_mem laws hc same, unmuted]

theorem howlClearChair_muted (muted : c.softMuted = true) : let t := howlClearChair seat s
    t = { s with link := t.link, seats := blankingRestarted s seat
                 floor := { s.floor with chairs := rewritten seat { c with softMuted := false } s.floor.chairs } } ∧
      Tells s t [.howlClear seat .open] := by
  simp only [howlClearChair, chairOf_mem laws hc same, muted, if_true]
  rw [setChairs_mapChairs (by intro _; rfl), mapChairs_eq laws hc same, restartBlanking_eq]
  exact ⟨rfl, (post_tells _ _).after rfl⟩

end Howl

theorem blankingRestarted_put (g : SeatRecord) : blankingRestarted (s.setSeats (put s.seats seat (some g))) seat =
    put s.seats seat (some { g with blanking := (inForce s).blankCount, howlRun := 0, releaseRun := 0 }) := by
  have there : (put s.seats seat (some g))[seat] = some g := by simp [put]
  simp only [blankingRestarted, State.setSeats_seats, there, put_put, Option.map_some]
  rfl

/-! ### The withdrawal of a chair (R91, R92) -/

theorem withdrawChair_none (none : s.floor.chairOf seat = none) : withdrawChair seat s = s := by
  simp only [withdrawChair, none]

/-- Chair records rewritten with the hold count kept, before or after a notice (R92). -/
theorem post_setFloor_chairs (b : NoticeBody) {cs : List ChairRecord}
    (count : cs.countP (·.held) = s.floor.chairs.countP (·.held)) :
    (post b s).setFloor { s.floor with chairs := cs } = post b (s.setFloor { s.floor with chairs := cs }) := by
  have hold : holdCount (s.setFloor { s.floor with chairs := cs }) = holdCount s := count
  have owners : ownerBits (s.setFloor { s.floor with chairs := cs }) = ownerBits s := by simp [ownerBits, hold]
  simp only [post, owners]
  rfl

/-- The record of a chair withdrawn, its hold still to be taken off. -/
abbrev withdrawn (c : ChairRecord) : ChairRecord := { c with micOpen := false, softMuted := false, strikes := 0, afterHold := false }

theorem withdrawChair_eq (laws : ChairsLaw s) (hc : c ∈ s.floor.chairs) (same : c.seat = seat) :
    let quiet := s.setFloor { s.floor with chairs := rewritten seat (withdrawn c) s.floor.chairs }
    withdrawChair seat s = lowerHold seat (if c.micOpen then post (.chairMic seat false) quiet else quiet) := by
  have chair := chairOf_mem laws hc same
  let shut := mapChairs seat (fun c => { c with micOpen := false, softMuted := false }) s.floor.chairs
  dsimp only
  simp only [withdrawChair, chair]
  congr 1
  cases mic : c.micOpen with
  | false =>
    rw [if_neg Bool.false_ne_true, if_neg Bool.false_ne_true, setChairs_mapChairs (by intro _; rfl), mapChairs_eq laws hc same,
      withdrawn, ← mic]
  | true =>
    have closed : closeChair seat s = post (.chairMic seat false) (s.setFloor { s.floor with chairs := shut }) := by
      rw [closeChair, setChairs_mapChairs (by intro _; rfl)]
    have both : mapChairs seat (fun c => { c with softMuted := false, strikes := 0, afterHold := false }) shut =
        rewritten seat (withdrawn c) s.floor.chairs := by
      rw [mapChairs_mapChairs (by intro _; rfl), mapChairs_eq laws hc same]
    rw [if_pos rfl, if_pos rfl, closed, setChairs_mapChairs (by intro _; rfl), ← both]
    exact post_setFloor_chairs (s := s.setFloor { s.floor with chairs := shut }) _ (mapChairs_held seat (by intro _; rfl) _)

/-- A chair that holds nothing has no hold to take off (R92). -/
theorem lowerHold_free (chair : s.floor.chairOf seat = some c) (free : c.held = false) : lowerHold seat s = s := by
  simp [lowerHold, chair, free]

/-! ### The buttons of a chair unit (R42, R45, R46) -/

section Buttons
variable (record : s.seats[seat] = some r)
include record

theorem record_same : s.setSeats (put s.seats seat (some r)) = s := by
  rw [← record, put_same]
  rfl

theorem takePriority_still {down : Bool} {b : ButtonState} (edge : buttonEdge r.priority down = (.none, b)) :
    takePriority seat down s = s.setSeats (put s.seats seat (some { r with priority := b })) := by
  simp only [takePriority, record, edge, mapSeat_some record]

theorem takePriority_pressed (up : r.priority = .up) : takePriority seat true s =
    if classOf s seat = .chair then
      raiseHold seat (s.setSeats (put s.seats seat (some { r with priority := .down, counted := true })))
    else s.setSeats (put s.seats seat (some { r with priority := .down })) := by
  simp only [takePriority, record, up, buttonEdge, mapSeat_some record]

theorem takePriority_released (down : r.priority = .down) : takePriority seat false s =
    let released := s.setSeats (put s.seats seat (some { r with priority := .up, counted := false }))
    if r.counted && classOf s seat == .chair then lowerHold seat released else released := by
  simp only [takePriority, record, down, buttonEdge, mapSeat_some record]

theorem takeTalk_eq (down : Bool) : takeTalk seat down s =
    let moved := s.setSeats (put s.seats seat (some { r with talk := (buttonEdge r.talk down).2 }))
    if (buttonEdge r.talk down).1 = .down ∧ classOf s seat = .chair then talk seat moved else moved := by
  simp only [takeTalk, record, mapSeat_some record]

theorem takeNext_eq (down : Bool) : takeNext seat down s =
    let moved := s.setSeats (put s.seats seat (some { r with next := (buttonEdge r.next down).2 }))
    if (buttonEdge r.next down).1 = .down ∧ classOf s seat = .chair then chairNext seat moved else moved := by
  simp only [takeNext, record, mapSeat_some record]

end Buttons

@[simp] theorem buttonEdge_release (b : ButtonState) : (buttonEdge b false).2 = .up := by cases b <;> rfl
@[simp] theorem buttonEdge_release_ne_down (b : ButtonState) : (buttonEdge b false).1 ≠ .down := by cases b <;> simp [buttonEdge]
theorem buttonEdge_held {b : ButtonState} (held : b ≠ .up) : buttonEdge b true = (.none, b) := by
  cases b with
  | up => exact absurd rfl held
  | down => rfl
  | stale => rfl

/-- Settles O31: TALK, HOWL and HOWL CLEAR by the record of the chair; the withdrawal; and each button by its edge. -/
theorem chairTalkAndHowl : Obligations.ChairTalkAndHowl := by
  refine ⟨fun seat c s sending laws hc same => ?events, fun seat s => ?withdrawal, fun seat r k p n s record => ?buttons⟩
  case events =>
    have q := sending.queues
    have chair := chairOf_mem laws hc same
    have cls : classOf s seat = .chair := (laws.2.1 seat).2 ⟨c, hc, same⟩
    refine ⟨fun locked => ?_, fun free opened => ?_, fun free shut => ?_, fun r record => ?howl⟩
    · rw [talk_locked locked]
      exact refuse_refused q seat .talk .locked
    · obtain ⟨frame, told⟩ := closeChair_eq laws hc same
      exact ⟨_, (talk_chair free chair).trans (if_pos opened), frame, told.posts q⟩
    · obtain ⟨frame, told⟩ := openChair_eq laws hc same
      refine ⟨_, (talk_chair free chair).trans (if_neg (by simp [shut])), ?_, ?_, told.posts q⟩
      · have seats := congrArg State.seats frame
        rw [seats]
        exact frame
      · exact congrArg State.seats frame
    case howl =>
      let cleared := put s.seats seat (some { r with howlRun := 0, releaseRun := 0 })
      let unlocked := s.setSeats (put s.seats seat (some { r with releaseRun := 0 }))
      refine ⟨fun silent => ?_, fun live unmuted soft few => ?_, fun live unmuted hard => ?_, fun unmuted => ?_, fun muted => ?_⟩
      · rw [exec_howl sending.1 record, raiseHowl_chair cls record]
        exact congrArg _ (howlChair_silent (s := s.setSeats cleared) laws hc same silent)
      · rw [exec_howl sending.1 record, raiseHowl_chair cls record]
        obtain ⟨frame, told⟩ := howlChair_soft (s := s.setSeats cleared) laws hc same live unmuted soft few
        have told := told.after (s := s) rfl
        exact ⟨_, rfl, told.linkFrame q, frame, told.posts q⟩
      · rw [exec_howl sending.1 record, raiseHowl_chair cls record]
        obtain ⟨frame, told⟩ := howlChair_hard (s := s.setSeats cleared) laws hc same live unmuted hard
        have told := told.after (s := s) rfl
        exact ⟨_, rfl, told.linkFrame q, frame, told.posts q⟩
      · rw [exec_howlClear sending.1 record, raiseHowlClear_chair cls record]
        exact congrArg _ (howlClearChair_unmuted (s := unlocked) laws hc same unmuted)
      · rw [exec_howlClear sending.1 record, raiseHowlClear_chair cls record]
        obtain ⟨frame, told⟩ := howlClearChair_muted (s := unlocked) laws hc same muted
        rw [show blankingRestarted unlocked seat = _ from blankingRestarted_put _] at frame
        have told := told.after (s := s) rfl
        exact ⟨_, rfl, told.linkFrame q, frame, told.posts q⟩
  case withdrawal =>
    refine ⟨chairOf_none, fun c hc same laws => chairOf_mem laws hc same, fun nobody => withdrawChair_none (chairOf_none nobody),
      fun c hc same laws q => ⟨withdrawChair_eq laws hc same, fun free => (withdrawChair_eq laws hc same).trans ?_⟩⟩
    have chair : Floor.chairOf { s.floor with chairs := rewritten seat (withdrawn c) s.floor.chairs } seat = some (withdrawn c) := by
      rw [← mapChairs_eq laws hc same withdrawn, mapChairs_find _ (by intro _; rfl), chairOf_mem laws hc same]
      rfl
    refine lowerHold_free (c := withdrawn c) ?_ free
    split
    · rw [(post_keeps _ _).2.2.2]
      exact chair
    · exact chair
  case buttons =>
    intro _ isChair
    have held : ∀ b : ButtonState, b ≠ .up → buttonEdge b true = (.none, b) := fun b => buttonEdge_held
    refine ⟨rfl, fun up down chair => ?_, fun up down other => ?_, fun was up chair counted => ?_, fun was up off => ?_,
      fun stale up => ?_, fun still => ?_, fun up down chair => ?_, fun up down other => ?_, fun up => ?_, fun was down => ?_,
      fun up down chair => ?_, fun up down other => ?_, fun up => ?_, fun was down => ?_⟩
    · rw [down, takePriority_pressed record up]
      exact if_pos chair
    · rw [down, takePriority_pressed record up]
      exact if_neg other
    · rw [up, takePriority_released record was]
      exact if_pos (by rw [counted]; exact beq_iff_eq.2 chair)
    · rw [up, takePriority_released record was]
      refine if_neg fun both => ?_
      obtain ⟨counted, chair⟩ := (Bool.and_eq_true _ _).mp both
      exact off.elim (absurd (beq_iff_eq.1 chair)) fun free => by simp [free] at counted
    · rw [up]
      exact takePriority_still record (by rw [stale]; rfl)
    · refine (takePriority_still (b := r.priority) record ?_).trans (record_same record)
      by_cases up : r.priority = .up
      · simp [still, up, buttonEdge]
      · rw [still, decide_eq_true up, held _ up]
    · rw [down, takeTalk_eq record, up]
      exact if_pos ⟨rfl, chair⟩
    · rw [down, takeTalk_eq record, up]
      exact if_neg fun both => other both.2
    · rw [up, takeTalk_eq record, buttonEdge_release]
      exact if_neg fun both => buttonEdge_release_ne_down _ both.1
    · rw [down, takeTalk_eq record, held _ was]
      exact (if_neg fun both => nomatch both.1).trans (record_same record)
    · rw [down, takeNext_eq record, up]
      exact if_pos ⟨rfl, chair⟩
    · rw [down, takeNext_eq record, up]
      exact if_neg fun both => other both.2
    · rw [up, takeNext_eq record, buttonEdge_release]
      exact if_neg fun both => buttonEdge_release_ne_down _ both.1
    · rw [down, takeNext_eq record, held _ was]
      exact (if_neg fun both => nomatch both.1).trans (record_same record)

end Sys2Proof.Machine
end

section
namespace Sys2Proof.Machine
variable {s t : State}

/-! ### The numbers of an answer, most significant byte first (section 11.2) -/

theorem extractByte_eq {n : Nat} (v : BitVec n) (i : Nat) : v.extractLsb' i 8 = BitVec.ofNat 8 (v.toNat / 2 ^ i) := by
  apply BitVec.eq_of_toNat_eq
  rw [BitVec.extractLsb'_toNat, BitVec.toNat_ofNat, Nat.shiftRight_eq_div_pow]

theorem halfBytes_eq (h : Half) : halfBytes h = [BitVec.ofNat 8 (h.toNat / 256), BitVec.ofNat 8 h.toNat] := by
  simp [halfBytes, extractByte_eq]

theorem halfOf_eq (n : Nat) : halfOf n = [BitVec.ofNat 8 (n / 256), BitVec.ofNat 8 n] := by
  simp only [halfOf, halfBytes_eq, List.cons.injEq, and_true]
  exact ⟨by bv_omega, by bv_omega⟩

theorem wordBytes_eq (c : Clock) : wordBytes c = [BitVec.ofNat 8 (c.toNat / 2 ^ 24), BitVec.ofNat 8 (c.toNat / 2 ^ 16),
    BitVec.ofNat 8 (c.toNat / 2 ^ 8), BitVec.ofNat 8 c.toNat] := by
  simp [wordBytes, extractByte_eq]

theorem balanceBytes_eq (b : Int) :
    balanceBytes b = [BitVec.ofInt 8 (b / 65536), BitVec.ofInt 8 (b / 256), BitVec.ofInt 8 b] := by
  simp only [balanceBytes, tripleBytes, List.cons.injEq, and_true]
  refine ⟨?_, ?_, ?_⟩ <;>
    · apply BitVec.eq_of_toNat_eq
      simp only [BitVec.extractLsb'_toNat, BitVec.toNat_ofInt, Nat.shiftRight_eq_div_pow]
      omega

theorem seatBytes_eq (x : Seat) : seatBytes x = [BitVec.ofNat 8 (x.val / 256), BitVec.ofNat 8 x.val] := halfOf_eq _

theorem optionalSeatBytes_some (x : Seat) :
    optionalSeatBytes (some x) = [BitVec.ofNat 8 (x.val / 256), BitVec.ofNat 8 x.val] := halfOf_eq _

/-! ### The range of records a read answers -/

/-- A run of the numbers from a start on is the numbers of that run (R37, R132). -/
theorem drop_take_finRange {n : Nat} (a k : Nat) :
    ((List.finRange n).drop a).take k = (List.finRange n).filter fun p => decide (a ≤ p.val ∧ p.val < a + k) := by
  have whole : List.finRange n = (List.finRange n).take a ++ (((List.finRange n).drop a).take k ++ ((List.finRange n).drop a).drop k) := by
    rw [List.take_append_drop, List.take_append_drop]
  have before : ∀ p ∈ (List.finRange n).take a, p.val < a := fun p hp => by
    obtain ⟨i, hi, rfl⟩ := List.mem_take_iff_getElem.1 hp
    simp at hi ⊢
    omega
  have inside : ∀ p ∈ ((List.finRange n).drop a).take k, a ≤ p.val ∧ p.val < a + k := fun p hp => by
    obtain ⟨i, hi, rfl⟩ := List.mem_take_iff_getElem.1 hp
    simp at hi ⊢
    omega
  have behind : ∀ p ∈ ((List.finRange n).drop a).drop k, a + k ≤ p.val := fun p hp => by
    obtain ⟨i, hi, rfl⟩ := List.mem_drop_iff_getElem.1 hp
    simp
  conv_rhs => rw [whole]
  rw [List.filter_append, List.filter_append, List.filter_eq_nil_iff.2, List.filter_eq_self.2, List.filter_eq_nil_iff.2]
  · simp
  · intro p hp
    have := behind p hp
    simp; omega
  · intro p hp
    simpa using inside p hp
  · intro p hp
    have := before p hp
    simp; omega

theorem numberIn_some {low high n : Nat} (above : low ≤ n) (below : n ≤ high) : numberIn low high n = some n :=
  if_pos ⟨above, below⟩

theorem numberIn_none {low high n : Nat} (out : n < low ∨ high < n) : numberIn low high n = none := if_neg (by omega)

/-! ### The reads answer what stands (R32, R37, R74, R104, R132, R139, R145) -/

theorem takeTrunkRead_badValue {wing start count : Byte}
    (bad : 3 < wing.toNat ∨ start.toNat = 0 ∨ 128 < start.toNat ∨ count.toNat = 0 ∨ 16 < count.toNat) (s : State) :
    takeTrunkRead wing start count s = refusedWith .badValue s := by
  simp only [takeTrunkRead]
  rcases bad with noWing | before | past | few | many
  · rw [wingOf_none noWing]
  · rw [posOf_none (.inl before)]; split <;> simp_all
  · rw [posOf_none (.inr past)]; split <;> simp_all
  · rw [numberIn_none (.inl (by omega))]; split <;> simp_all
  · rw [numberIn_none (.inr many)]; split <;> simp_all

theorem takeTrunkRead_answered {wing start count : Byte} {w : Wing} {pos : Pos} (hw : wing.toNat = w.val)
    (hp : start.toNat = posNumber pos) (few : 1 ≤ count.toNat) (many : count.toNat ≤ 16) (s : State) :
    takeTrunkRead wing start count s = answeredOk (s.setDraws (s.draws + 1))
      (byteOf s.trunks.units[w].chainLength :: assignmentBytes s.trunks.units[w].assignment
        ++ (((List.finRange 128).filter fun p => decide (pos ≤ p ∧ p.val < pos.val + count.toNat)).map
          (positionRecord s w)).flatten) := by
  simp only [takeTrunkRead, wingOf_val hw, posOf_val hp, numberIn_some few many, drop_take_finRange]
  rfl

theorem takeQueueRead_badValue {start count : Byte} (bad : 127 < start.toNat ∨ count.toNat = 0 ∨ 16 < count.toNat) (s : State) :
    takeQueueRead start count s = refusedWith .badValue s := by
  simp only [takeQueueRead]
  rcases bad with past | few | many
  · rw [numberIn_none (.inr past)]
  · rw [numberIn_none (low := 1) (.inl (by omega))]; split <;> simp_all
  · rw [numberIn_none (low := 1) (.inr many)]; split <;> simp_all

theorem takeAccountRead_badValue {start : Half} {count : Byte} (bad : 575 < start.toNat ∨ count.toNat = 0 ∨ 16 < count.toNat)
    (s : State) : takeAccountRead start count s = refusedWith .badValue s := by
  simp only [takeAccountRead]
  rcases bad with past | few | many
  · rw [accountNoOf, dif_neg (by omega)]
  · rw [numberIn_none (.inl (by omega))]; split <;> simp_all
  · rw [numberIn_none (.inr many)]; split <;> simp_all

theorem takeAccountRead_answered {start : Half} {count : Byte} (inside : start.toNat ≤ 575) (few : 1 ≤ count.toNat)
    (many : count.toNat ≤ 16) (s : State) :
    let asked := (List.finRange 576).filter fun a => decide (start.toNat ≤ a.val ∧ a.val < start.toNat + count.toNat)
    takeAccountRead start count s = answeredOk (s.setDraws (s.draws + 1))
      (halfBytes start ++ byteOf asked.length :: (asked.map (accountRecord s)).flatten) := by
  have number : accountNoOf start = some ⟨start.toNat, by omega⟩ := dif_pos (by omega)
  simp only [takeAccountRead, number, numberIn_some few many, drop_take_finRange]

theorem profileNoOf_val {b : Byte} {n : ProfileNo} (e : b.toNat = n.val) : profileNoOf b = some n := by simp [profileNoOf, e]

theorem takeQueueRead_answered {start count : Byte} (inside : start.toNat ≤ 127) (few : 1 ≤ count.toNat)
    (many : count.toNat ≤ 16) (s : State) : takeQueueRead start count s = answeredOk s
      ([byteOf s.queue.entries.length, byteOf (s.queue.entries.countP fun e => e.kind = .priority), firstPlace s]
        ++ ((((s.queue.entries.zipIdx).drop start.toNat).take count.toNat).map fun x => entryRecord s x.1 x.2).flatten) := by
  have kinds : s.queue.entries.countP QueueEntry.isPriority = s.queue.entries.countP fun e => e.kind = .priority :=
    List.countP_congr fun e _ => by simp [QueueEntry.isPriority]
  simp only [takeQueueRead, numberIn_some (Nat.zero_le _) inside, numberIn_some few many, kinds]

theorem takeFloorRead_badValue {start : Half} (past : 511 < start.toNat) (s : State) :
    takeFloorRead start s = refusedWith .badValue s := by
  simp only [takeFloorRead, seatOf_none past]

theorem takeFloorRead_answered {start : Half} {x : Seat} (hx : start.toNat = x.val) (s : State) :
    let locked := (List.finRange 512).filter fun y : Seat => s.floor.locked[y]
    let listed := ((List.finRange 512).filter fun y : Seat => s.floor.locked[y] && decide (x ≤ y)).take 16
    takeFloorRead start s = answeredOk (s.setDraws (s.draws + 1))
      (byteOf s.floor.speakers.length :: s.floor.speakers.map (fun n => byteOf (slotNumber n))
        ++ ((List.finRange 8).map (slotRecord s)).flatten
        ++ byteOf s.floor.chairs.length :: (s.floor.chairs.map (chairBytes s)).flatten
        ++ [byteOf (holdCount s), s.floor.mask.zeroExtend 8] ++ halfOf locked.length
        ++ byteOf listed.length :: (listed.map seatBytes).flatten) := by
  simp only [takeFloorRead, seatOf_val hx, lockedSeats, List.filter_filter, isLocked, Bool.and_comm]

theorem takeProfileGet_badValue {number : Byte} (past : 15 < number.toNat) (s : State) :
    takeProfileGet number s = refusedWith .badValue s := by
  have no : profileNoOf number = none := dif_neg (by omega)
  simp only [takeProfileGet, no]

theorem takeProfileGet_answered {number : Byte} {n : ProfileNo} (hn : number.toNat = n.val) (s : State) :
    takeProfileGet number s = answeredOk s
      ([number, if n = s.profiles.inForce then 1 else 0] ++ (s.profiles.records[n]).bytes) := by
  have flag : boolByte (n == s.profiles.inForce) = if n = s.profiles.inForce then 1 else 0 := by simp [boolByte]
  simp only [takeProfileGet, profileNoOf_val hn, flag]

/-! ### The records (section 11.2) -/

theorem positionRecord_absent {w : Wing} {pos : Pos} (absent : s.trunks.entryAt ⟨w, pos⟩ = none) :
    (positionRecord s w pos).take 4 = [BitVec.ofNat 8 (pos.val + 1), 0, 0xFF, 0xFF] ∧ (positionRecord s w pos).length = 10 ∧
      (positionRecord s w pos)[5]? = some 0xFF := by
  simp only [positionRecord, absent]
  exact ⟨rfl, rfl, rfl⟩

theorem buttonPlaces_delegate (r : Bool) : buttonPlaces (.delegate r) = BitVec.ofNat 8 (16 * r.toNat) := by cases r <;> rfl

theorem buttonPlaces_chair (k p n : Bool) :
    buttonPlaces (.chair k p n) = BitVec.ofNat 8 (16 * k.toNat + 32 * p.toNat + 64 * n.toNat) := by
  cases k <;> cases p <;> cases n <;> rfl

theorem unitTypeCode_eq (u : UnitType) : unitTypeCode u = if u = .chairUnit then 1 else 0 := by cases u <;> rfl

theorem firstPlace_none (nobody : ∀ e ∈ s.queue.entries, eligibility s e ≠ .eligible) : firstPlace s = 0xFF := by
  have no : s.queue.entries.findIdx? (isEligible s) = none :=
    List.findIdx?_eq_none_iff.2 fun e he => beq_eq_false_iff_ne.2 (nobody e he)
  simp only [firstPlace, no]

theorem firstPlace_some {k : Nat} {e : QueueEntry} (there : s.queue.entries[k]? = some e) (may : eligibility s e = .eligible)
    (first : ∀ x ∈ s.queue.entries.take k, eligibility s x ≠ .eligible) : firstPlace s = BitVec.ofNat 8 k := by
  obtain ⟨lt, at_k⟩ := List.getElem?_eq_some_iff.1 there
  have found : s.queue.entries.findIdx? (isEligible s) = some k := by
    refine List.findIdx?_eq_some_iff_getElem.2 ⟨lt, by rw [at_k]; exact beq_iff_eq.2 may, fun j hj => ?_⟩
    have ahead : s.queue.entries[j] ∈ s.queue.entries.take k := List.mem_take_iff_getElem.2 ⟨j, by omega, rfl⟩
    simpa [isEligible] using first _ ahead
  simp only [firstPlace, found]
  rfl

/-- The places 3–7 of an account's flags byte do not touch its low three (log entry 2). -/
theorem accountFlags_low (s : State) (a : AccountNo) :
    (accountFlags s a).toNat % 8 = (s.allowance.accounts[a]).low.toNat + 2 * listCode s a := by
  have open_places : ∀ b u : Byte, (b ||| (u &&& 0xF8)).toNat % 8 = b.toNat % 8 := fun b u => by
    have high : ((u &&& 0xF8 : Byte).toNat) % 2 ^ 3 = 0 := by
      rw [BitVec.toNat_and, Nat.and_mod_two_pow]
      exact Nat.and_zero _
    change _ % 2 ^ 3 = _ % 2 ^ 3
    rw [BitVec.toNat_or, Nat.or_mod_two_pow, high, Nat.or_zero]
  rw [accountFlags, open_places, listCode]
  cases low : (s.allowance.accounts[a]).low <;> simp only [Account.stateByte, low] <;> (repeat' split) <;> rfl

theorem countP_memberSlots (lists : SlotListsLaw s) (a : AccountNo) (f : Slot → Bool) :
    (memberSlots s a).countP f = (List.finRange 8).countP fun n =>
      (s.floor.slots[n]).any fun sl => accountOf s.plan[sl.seat] sl.seat == a && f sl := by
  obtain ⟨nodup, -, occupied, -⟩ := lists
  have speakers : s.floor.speakers.Perm ((List.finRange 8).filter fun n => (s.floor.slots[n]).isSome) :=
    (List.perm_ext_iff_of_nodup nodup ((List.nodup_finRange 8).filter _)).2 fun n => by
      rw [occupied, List.mem_filter]
      exact ⟨fun h => ⟨List.mem_finRange n, h⟩, fun h => h.2⟩
  rw [memberSlots, List.countP_filter, List.countP_filterMap, speakers.countP_eq, List.countP_filter]
  refine List.countP_congr fun n _ => ?_
  cases s.floor.slots[n] <;> simp [and_comm]

theorem slotRecord_free {n : SlotNo} (free : s.floor.slots[n] = none) : (slotRecord s n).length = 19 ∧
    (slotRecord s n)[0]? = some 0 ∧ (slotRecord s n)[12]? = some 0 ∧ (slotRecord s n)[13]? = some 0 := by
  simp only [slotRecord, free]
  exact ⟨rfl, rfl, rfl, rfl⟩

/-- Settles O46: each read by its ranges, and each record by its fields. -/
theorem readsChangeNothing : Obligations.ReadsChangeNothing := by
  refine ⟨fun wing start count s takes => ⟨fun bad => ?_, fun w pos hw hp few many => ?_⟩,
    fun start s takes => ⟨fun past => ?_, fun inside => ?_⟩, fun start count s takes => ⟨fun bad => ?_, fun inside few many => ?_⟩,
    fun start count s takes => ⟨fun bad => ?_, fun inside few many => ?_⟩, fun start s takes => ⟨fun past => ?_, fun x hx => ?_⟩,
    fun number s takes => ⟨fun past => ?_, fun n hn => ?_⟩, fun s takes => ?_, fun s => ?records⟩
  · exact submit_refused rfl (by simp) takes (takeTrunkRead_badValue bad _)
  · exact submit_ok rfl (by simp) takes (takeTrunkRead_answered hw hp few many _) rfl
  · exact submit_refused rfl (by simp) takes (if_neg (by omega))
  · exact submit_ok rfl (by simp) takes (if_pos (by omega)) rfl
  · exact submit_refused rfl (by simp) takes (takeQueueRead_badValue bad _)
  · exact submit_ok rfl (by simp) takes (takeQueueRead_answered inside few many _) rfl
  · exact submit_refused rfl (by simp) takes (takeAccountRead_badValue bad _)
  · exact submit_ok rfl (by simp) takes (takeAccountRead_answered inside few many _) rfl
  · exact submit_refused rfl (by simp) takes (takeFloorRead_badValue past _)
  · exact submit_ok rfl (by simp) takes (takeFloorRead_answered hx _) rfl
  · exact submit_refused rfl (by simp) takes (takeProfileGet_badValue past _)
  · exact submit_ok rfl (by simp) takes (takeProfileGet_answered hn _) rfl
  · exact submit_ok rfl (by simp) takes (s := s) (t := s) rfl rfl
  case records =>
    intro num two three four flag who
    have whose : ∀ x, optionalSeatBytes x = who x := fun x => by
      cases x with
      | none => rfl
      | some y => exact optionalSeatBytes_some y
    refine ⟨fun w pos => ⟨positionRecord_absent, fun e there => ?position⟩, ⟨rfl, fun x => ?assignment⟩, fun b => ?blocked,
      fun e place => ?entry, firstPlace_none, fun k e => firstPlace_some, fun a => ?account,
      fun n => ⟨slotRecord_free, fun sl there => ⟨?slot, ?limit⟩⟩, fun c => ?chair, fun r => ?plan, fun p => ?profile⟩
    case position =>
      intro presence buttons
      have placed : buttonPlaces e.buttons = num buttons := by
        simp only [buttons]
        cases e.buttons with
        | delegate r => exact buttonPlaces_delegate r
        | chair k p n => exact buttonPlaces_chair k p n
      have shown : (e.presence.code, e.presence.blockByte) = presence := by
        simp only [presence]
        cases e.presence <;> rfl
      simp only [positionRecord, there, whose, unitTypeCode_eq, placed, ← shown]
      rfl
    case assignment =>
      rw [assignmentBytes, seatBytes_eq]
      rfl
    case blocked =>
      rw [BlockedEntry.bytes, whose]
      rfl
    case entry =>
      rw [entryRecord, whose, seatBytes_eq, wordBytes_eq]
      rfl
    case account =>
      intro r list
      have listed : listCode s a = list := by simp [listCode, list]
      have record : accountRecord s a = three r.balance ++ two r.cap ++ two r.rate ++ two r.remainder ++ two r.threshold
          ++ two r.delta ++ [accountFlags s a, byteOf (16 * liveMembers s a + holdingMembers s a)] := by
        simp only [accountRecord, balanceBytes_eq, halfOf_eq]
        rfl
      rw [record]
      refine ⟨rfl, rfl, ?_, fun lists => ?_⟩
      · exact congrArg some ((accountFlags_low s a).trans (by rw [listed]))
      · have live : liveMembers s a = membersOpen s a := countP_memberSlots lists a _
        have holding : holdingMembers s a = membersHolding s a := by
          simpa [holdingMembers, membersHolding] using countP_memberSlots lists a fun _ => true
        rw [live, holding]
        rfl
    case slot =>
      simp only [slotRecord, there, seatBytes_eq, wordBytes_eq, halfOf_eq]
      rfl
    case limit =>
      simp only [limitRecord, there, seatBytes_eq, halfOf_eq]
      rfl
    case chair =>
      rw [chairBytes, seatBytes_eq]
      rfl
    case plan =>
      rw [PlanRecord.bytes]
      cases r.location <;> rfl
    case profile =>
      rw [Profile.bytes, halfOf_eq, halfOf_eq]
      rfl

end Sys2Proof.Machine
end

section
namespace Sys2Proof.Machine
variable {s t u : State} {p : Place} {e : ChainEntry} {w : Wing} {pos : Pos} {seat : Seat} {k : Nat} {bound : Prop}

/-! ### One unit of a trunk without an assignment lost (R36) -/

theorem loseUnit_none (absent : s.trunks.entryAt p = none) : loseUnit p s = s := by simp only [loseUnit, absent]

theorem loseUnit_other {q : Place} (other : q ≠ p) (s : State) : (loseUnit p s).trunks.entryAt q = s.trunks.entryAt q := by
  obtain absent | ⟨e, unit⟩ := Option.eq_none_or_eq_some (s.trunks.entryAt p)
  · rw [loseUnit_none absent]
  · exact loseUnit_entryAt unit other

theorem loseUnit_wing (p : Place) (s : State) : (∀ w', w' ≠ p.wing → (loseUnit p s).trunks.units[w'] = s.trunks.units[w']) ∧
    (s.trunks.units[p.wing].assignment = none → (loseUnit p s).trunks.units[p.wing].assignment = none) := by
  obtain absent | ⟨e, unit⟩ := Option.eq_none_or_eq_some (s.trunks.entryAt p)
  · rw [loseUnit_none absent]
    exact ⟨fun _ _ => rfl, id⟩
  · refine ⟨fun w' other => by rw [loseUnit_units unit, if_neg other], fun idle => ?_⟩
    rw [loseUnit_units unit, if_pos rfl, idle]
    rfl

theorem loseUnit_idle (unit : s.trunks.entryAt p = some e) (idle : s.trunks.units[p.wing].assignment = none) :
    loseUnit p s = setEntry p none (loseEffects p e s) := by
  rw [loseUnit_some unit]
  refine failAssignment_elsewhere _ fun x flight => ?_
  rw [setEntry_trunks, units_putEntry, if_pos rfl, loseEffects_units] at flight
  cases idle.symm.trans flight

/-! ### All units of a trunk lost in turn (R36) -/

theorem restart_other {q : Place} (l : List Pos) (s : State) (other : ∀ pos ∈ l, q ≠ ⟨w, pos⟩) :
    (l.foldl (restartPos w) s).trunks.entryAt q = s.trunks.entryAt q := by
  induction l generalizing s with
  | nil => rfl
  | cons pos l ih =>
    obtain ⟨here, rest⟩ := List.forall_mem_cons.1 other
    rw [List.foldl_cons, ih _ rest]
    exact loseUnit_other here s

theorem restart_absent {l : List Pos} (mem : pos ∈ l) (s : State) : (l.foldl (restartPos w) s).trunks.entryAt ⟨w, pos⟩ = none := by
  induction l generalizing s with
  | nil => cases mem
  | cons x l ih =>
    by_cases later : pos ∈ l
    · exact ih later _
    · obtain rfl : pos = x := (List.mem_cons.1 mem).resolve_right later
      rw [List.foldl_cons, restart_other l _ fun y hy same => later (by cases same; exact hy)]
      exact loseUnit_absent _ _

theorem restart_wing (w : Wing) (l : List Pos) (s : State) :
    (∀ w', w' ≠ w → (l.foldl (restartPos w) s).trunks.units[w'] = s.trunks.units[w']) ∧
    (s.trunks.units[w].assignment = none → (l.foldl (restartPos w) s).trunks.units[w].assignment = none) := by
  refine foldl_inv (fun t : State => (∀ w' : Wing, w' ≠ w → t.trunks.units[w'] = s.trunks.units[w']) ∧
    (s.trunks.units[w].assignment = none → t.trunks.units[w].assignment = none)) _ (fun t pos ⟨others, idle⟩ => ?_) l s
    ⟨fun _ _ => rfl, id⟩
  obtain ⟨same, kept⟩ := loseUnit_wing ⟨w, pos⟩ t
  refine ⟨fun w' other => ?_, fun before => kept (idle before)⟩
  rw [← others w' other]
  exact same w' other

theorem restart_keeps (w : Wing) (l : List Pos) (s : State) : Keeps s (l.foldl (restartPos w) s) :=
  foldl_inv (Keeps s) _ (fun t pos before => by
    obtain ⟨pending, held, draws, plan, cursor, allowance, profiles⟩ := before
    obtain ⟨pending', held', draws', plan', cursor', allowance', profiles'⟩ := loseUnit_keeps ⟨w, pos⟩ t
    exact ⟨pending'.trans pending, held'.trans held, draws'.trans draws, plan'.trans plan, cursor'.trans cursor,
      allowance'.trans allowance, profiles'.trans profiles⟩) l s ⟨rfl, rfl, rfl, rfl, rfl, rfl, rfl⟩

theorem restart_trunkLaws (h : TrunkLaws s) (w : Wing) (l : List Pos) : TrunkLaws (l.foldl (restartPos w) s) :=
  foldl_inv TrunkLaws (restartPos w) (fun _ _ h => loseUnit_trunkLaws h _) l s h

/-! #### The places of its seats on the floor and in the queue (R26) -/

theorem loseEffects_holds (h : Holds seat k bound s) (p : Place) (e : ChainEntry) : Holds seat k bound (loseEffects p e s) := by
  unfold loseEffects
  split
  · exact h
  · exact h.of_same (by simp [leaveBlocked]) (by simp [leaveBlocked])
  · next x _ _ => exact deferredAdvance_holds ((leaveSeat_holds h x .lost .lost).of_same) _
  · exact h

theorem loseUnit_holds (h : Holds seat k bound s) (p : Place) : Holds seat k bound (loseUnit p s) := by
  obtain absent | ⟨e, unit⟩ := Option.eq_none_or_eq_some (s.trunks.entryAt p)
  · rwa [loseUnit_none absent]
  · rw [loseUnit_some unit]
    exact (loseEffects_holds h p e).of_same

/-- The seat of the READY unit at a place. -/
abbrev readySeat (s : State) (p : Place) : Option Seat :=
  (s.trunks.entryAt p).bind fun e => if e.presence = .ready then e.addr else none

theorem readySeat_some : readySeat s p = some seat ↔
    ∃ e, s.trunks.entryAt p = some e ∧ e.presence = .ready ∧ e.addr = some seat := by
  rw [readySeat, Option.bind_eq_some_iff]
  refine exists_congr fun e => and_congr_right fun _ => ?_
  split <;> simp_all

theorem loseUnit_gone (ready : readySeat s p = some seat) (holds : Holds seat 1 True s) : Holds seat 0 False (loseUnit p s) := by
  obtain ⟨e, unit, ready, addr⟩ := readySeat_some.1 ready
  rw [loseUnit_some unit]
  exact (loseEffects_gone (p := p) ready addr holds).1.of_same

theorem restart_gone {l : List Pos} (mem : pos ∈ l) (ready : readySeat s ⟨w, pos⟩ = some seat) (holds : Holds seat 1 True s) :
    Holds seat 0 False (l.foldl (restartPos w) s) := by
  induction l generalizing s with
  | nil => cases mem
  | cons x l ih =>
    by_cases here : pos = x
    · subst here
      exact foldl_holds (fun t y h => loseUnit_holds h ⟨w, y⟩) l (loseUnit_gone ready holds)
    · have other : (⟨w, pos⟩ : Place) ≠ ⟨w, x⟩ := by simpa using here
      refine ih ((List.mem_cons.1 mem).resolve_left here) ?_ (loseUnit_holds holds ⟨w, x⟩)
      rw [← ready, readySeat, readySeat, restartPos, loseUnit_other other]

/-! #### The tables of the trunks (R18, R31) -/

theorem loseUnit_blocked (p : Place) (s : State) :
    ∃ keep : BlockedEntry → Bool, (loseUnit p s).trunks.blocked = s.trunks.blocked.filter keep := by
  have all : s.trunks.blocked = s.trunks.blocked.filter fun _ => true := by simp
  obtain absent | ⟨e, unit⟩ := Option.eq_none_or_eq_some (s.trunks.entryAt p)
  · rw [loseUnit_none absent]
    exact ⟨_, all⟩
  · rw [loseUnit_some unit, (failAssignment_binding _ _ _).2]
    change ∃ keep, (loseEffects p e s).trunks.blocked = _
    unfold loseEffects
    split
    · exact ⟨_, all⟩
    · exact ⟨fun b => b.place ≠ p, by rw [(post_keeps _ _).1.2, leaveBlocked_trunks]⟩
    · refine ⟨_, Eq.trans ?_ all⟩
      rw [(deferredAdvance_keeps _ _).2, (post_keeps _ _).1.2, leaveSeat_trunks]
      rfl
    · exact ⟨_, all⟩

theorem restart_blocked (w : Wing) (l : List Pos) (s : State) :
    ∃ keep : BlockedEntry → Bool, (l.foldl (restartPos w) s).trunks.blocked = s.trunks.blocked.filter keep := by
  refine foldl_inv (fun t => ∃ keep : BlockedEntry → Bool, t.trunks.blocked = s.trunks.blocked.filter keep) _
    (fun t pos ⟨keep, before⟩ => ?_) l s ⟨fun _ => true, by simp⟩
  obtain ⟨now, after⟩ := loseUnit_blocked ⟨w, pos⟩ t
  exact ⟨_, after.trans (by rw [before, List.filter_filter])⟩

/-- With the whole trunk lost, the entries that stand are those of the other trunks. -/
theorem restart_entries (s : State) (p : Place) : ((List.finRange 128).foldl (restartPos w) s).trunks.entryAt p =
    if p.wing = w then none else s.trunks.entryAt p := by
  split
  · next here => subst here; exact restart_absent (List.mem_finRange p.pos) s
  · next elsewhere => exact restart_other _ s fun pos _ same => elsewhere (by rw [same])

section Tables
variable (laws : TrunkLaws s)
include laws

theorem boundOn_iff : boundOn s w seat = true ↔ seat ∈ seatsOnWing s w := by
  rw [boundOn, Option.any_eq_true, seatsOnWing, List.mem_filterMap]
  constructor
  · rintro ⟨p, place, onWing⟩
    obtain rfl : p.wing = w := by simpa using onWing
    exact ⟨p.pos, List.mem_finRange _, readySeat_some.2 ((laws.1.1 seat p).1 place)⟩
  · rintro ⟨pos, -, ready⟩
    exact ⟨⟨w, pos⟩, (laws.1.1 seat ⟨w, pos⟩).2 (readySeat_some.1 ready), by simp⟩

theorem restart_binding (seat : Seat) : ((List.finRange 128).foldl (restartPos w) s).trunks.binding[seat] =
    if boundOn s w seat then none else s.trunks.binding[seat] := by
  have after := (restart_trunkLaws laws w (List.finRange 128)).1.1 seat
  ext p
  rw [after, restart_entries]
  by_cases onWing : p.wing = w
  · rw [if_pos onWing]
    refine iff_of_false (by simp) ?_
    split
    · simp
    · next off =>
      intro here
      rw [boundOn, here] at off
      simp [onWing] at off
  · rw [if_neg onWing, ← laws.1.1 seat p]
    split
    · next off =>
      refine iff_of_false (fun here => ?_) (by simp)
      rw [boundOn, here] at off
      simp [onWing] at off
    · rfl

theorem restart_table : ((List.finRange 128).foldl (restartPos w) s).trunks.blocked =
    s.trunks.blocked.filter fun b => b.place.wing ≠ w := by
  obtain ⟨keep, blocked⟩ := restart_blocked w (List.finRange 128) s
  have after := (restart_trunkLaws laws w (List.finRange 128)).2.1.2
  rw [blocked]
  refine List.filter_congr fun b hb => ?_
  have kept : keep b = true ↔ b.place.wing ≠ w := by
    have member := after b
    rw [blocked, List.mem_filter, restart_entries] at member
    rw [← and_iff_right hb (b := keep b = true), member]
    by_cases onWing : b.place.wing = w
    · simp [onWing]
    · rw [if_neg onWing, ← laws.2.1.2 b]
      exact iff_of_true hb onWing
  by_cases here : b.place.wing = w <;> simp_all

theorem restart_seats (off : boundOn s w seat = true) : ((List.finRange 128).foldl (restartPos w) s).seats[seat] = none := by
  by_contra has
  refine (restart_trunkLaws laws w (List.finRange 128)).2.2.2 seat has ?_
  rw [restart_binding laws, if_pos off]

end Tables

end Sys2Proof.Machine
end

section
namespace Sys2Proof.Machine
variable {s t u : State} {p : Place} {e : ChainEntry} {w : Wing} {pos : Pos} {seat : Seat} {wing : Byte}

theorem Keeps.trans (first : Keeps s u) (second : Keeps u t) : Keeps s t := by
  obtain ⟨pending, held, draws, plan, cursor, allowance, profiles⟩ := first
  obtain ⟨pending', held', draws', plan', cursor', allowance', profiles'⟩ := second
  exact ⟨pending'.trans pending, held'.trans held, draws'.trans draws, plan'.trans plan, cursor'.trans cursor,
    allowance'.trans allowance, profiles'.trans profiles⟩

/-! ### TRUNK RESTART in its steps (R36) -/

/-- The assignment of a trunk failed by a restart. -/
def failedByRestart (w : Wing) (s : State) : State :=
  s.trunks.units[w].assignment.toList.foldl (fun u x => post (.assignFailed ⟨w, x.pos⟩ x.seat .restart) u)
    (mapTrunk w (fun t => { t with assignment := none }) s)

/-- The positions of a trunk in ascending order, kept folded so that no comparison of states runs through the 128 losses. -/
@[irreducible] def positions : List Pos := List.finRange 128

theorem positions_eq : positions = List.finRange 128 := by rw [positions]

/-- And its units lost in ascending order of position. -/
def emptiedByRestart (w : Wing) (s : State) : State := positions.foldl (restartPos w) (failedByRestart w s)

/-- The next poll of a trunk made the end probe of an empty chain. -/
def rewound (w : Wing) (s : State) : State := mapTrunk w (fun t => { t with poll := none, roundLength := 0, nextPos := 1 }) s

theorem rewound_trunk (w : Wing) (s : State) :
    (rewound w s).trunks.units[w] = { s.trunks.units[w] with poll := none, roundLength := 0, nextPos := 1 } ∧
    (∀ w', w' ≠ w → (rewound w s).trunks.units[w'] = s.trunks.units[w']) ∧
    ∀ p, (rewound w s).trunks.entryAt p = s.trunks.entryAt p :=
  ⟨by rw [rewound, mapTrunk_units, if_pos rfl], fun w' other => by rw [rewound, mapTrunk_units, if_neg other],
    mapTrunk_entryAt w (by intro _; rfl) s⟩

theorem rewound_keeps (w : Wing) (s : State) : Keeps s (rewound w s) ∧ (rewound w s).link = s.link ∧
    (rewound w s).seats = s.seats ∧ (rewound w s).queue = s.queue ∧ (rewound w s).floor = s.floor := mapTrunk_keeps w _ s

/-- The trunk of a wing has no unit and no assignment. -/
structure Emptied (w : Wing) (s : State) : Prop where
  entries : ∀ pos : Pos, s.trunks.entryAt ⟨w, pos⟩ = none
  assignment : s.trunks.units[w].assignment = none

theorem Emptied.rewound (h : Emptied w s) : (∀ pos : Pos, (rewound w s).trunks.entryAt ⟨w, pos⟩ = none) ∧
    (rewound w s).trunks.units[w].assignment = none ∧ (rewound w s).trunks.units[w].poll = none ∧
    (rewound w s).trunks.units[w].nextTarget = some (0, true) := by
  obtain ⟨trunk, -, entries⟩ := rewound_trunk w s
  have absent : ∀ pos : Pos, (Machine.rewound w s).trunks.entryAt ⟨w, pos⟩ = none := fun pos => (entries _).trans (h.entries pos)
  have empty : (Machine.rewound w s).trunks.units[w].chainLength = 0 := by
    by_contra some
    obtain ⟨pos, -, unit⟩ := highestEntry_unit _ some
    exact unit (absent pos)
  refine ⟨absent, by rw [trunk]; exact h.assignment, by rw [trunk], ?_⟩
  rw [Trunk.nextTarget, empty, trunk]
  rfl

/-- The trunk emptied, its next poll the end probe to position 1. -/
def restarted (w : Wing) (s : State) : State :=
  rewound w (emptiedByRestart w s)

theorem failedByRestart_none (idle : s.trunks.units[w].assignment = none) : failedByRestart w s = s := by
  have same : { s.trunks.units[w] with assignment := none } = s.trunks.units[w] := by rw [← idle]
  have units : put s.trunks.units w { s.trunks.units[w] with assignment := none } = s.trunks.units :=
    (congrArg (put _ w) same).trans (put_same _ _)
  rw [failedByRestart, idle]
  exact congrArg (withUnits · s) units

theorem failedByRestart_some {x : Assignment} (flight : s.trunks.units[w].assignment = some x) :
    failedByRestart w s = failAssignment ⟨w, x.pos⟩ .restart s := by
  rw [failedByRestart, flight, failAssignment_here (p := ⟨w, x.pos⟩) _ flight rfl]
  rfl

theorem takeTrunkRestart_badValue (bad : 3 < wing.toNat) (s : State) : takeTrunkRestart wing s = refusedWith .badValue s := by
  simp only [takeTrunkRestart, wingOf_none bad]

theorem takeTrunkRestart_answered (hw : wing.toNat = w.val) (s : State) : takeTrunkRestart wing s = answeredOk (restarted w s) [] := by
  simp only [takeTrunkRestart, wingOf_val hw]
  cases flight : s.trunks.units[w].assignment with
  | none => rw [restarted, rewound, emptiedByRestart, positions_eq, failedByRestart_none flight]
  | some x => rw [restarted, rewound, emptiedByRestart, positions_eq, failedByRestart_some flight]

/-! #### The failed assignment (R36) -/

theorem failedByRestart_tells (w : Wing) (s : State) : Tells s (failedByRestart w s)
    (s.trunks.units[w].assignment.toList.map fun x => .assignFailed ⟨w, x.pos⟩ x.seat .restart) := by
  cases flight : s.trunks.units[w].assignment with
  | none =>
    rw [failedByRestart_none flight]
    exact tells_nil rfl
  | some x =>
    rw [failedByRestart_some flight, failAssignment_here (p := ⟨w, x.pos⟩) _ flight rfl]
    exact (post_tells _ _).after rfl

theorem failedByRestart_keeps (w : Wing) (s : State) : let t := failedByRestart w s
    t = { s with link := t.link, trunks := t.trunks } ∧ (∀ q, t.trunks.entryAt q = s.trunks.entryAt q) ∧
      t.trunks.binding = s.trunks.binding ∧ t.trunks.blocked = s.trunks.blocked ∧ t.trunks.units[w].assignment = none ∧
      ∀ w', w' ≠ w → t.trunks.units[w'] = s.trunks.units[w'] := by
  dsimp only
  cases flight : s.trunks.units[w].assignment with
  | none =>
    rw [failedByRestart_none flight]
    exact ⟨rfl, fun _ => rfl, rfl, rfl, flight, fun _ _ => rfl⟩
  | some x =>
    rw [failedByRestart_some flight]
    refine ⟨failAssignment_frame _ _ _, failAssignment_entryAt _ _ _, (failAssignment_binding _ _ _).1,
      (failAssignment_binding _ _ _).2, ?_, fun w' other => ?_⟩
    · rw [failAssignment_units, if_pos rfl, flight]
      simp
    · rw [failAssignment_units, if_neg other]

/-! #### Its losses are those of UNIT_LOST (R26, R36) -/

/-- `t` is `s` but for the polls and rounds of its trunks; neither has an assignment on the trunk of the wing. -/
structure Alike (w : Wing) (s t : State) : Prop where
  frame : t = withUnits t.trunks.units s
  entries : ∀ pos : Pos, t.trunks.entryAt ⟨w, pos⟩ = s.trunks.entryAt ⟨w, pos⟩
  idle : s.trunks.units[w].assignment = none
  idle' : t.trunks.units[w].assignment = none

theorem stateAfter_unitLost_none (running : s.resetHeld = false) (absent : s.trunks.entryAt ⟨w, pos⟩ = none) :
    stateAfter (.unitLost w (posNumber pos)) s = s := by
  simp [stateAfter, exec, execUnitLost, whileRunning_running running, posOf_posNumber, absent]

theorem stateAfter_unitLost_some (running : s.resetHeld = false) (unit : s.trunks.entryAt ⟨w, pos⟩ = some e) :
    stateAfter (.unitLost w (posNumber pos)) s = endPollAt ⟨w, pos⟩ (loseUnit ⟨w, pos⟩ s) := by
  simp only [stateAfter, exec_unitLost running unit]

theorem Alike.unitLost (alike : Alike w s t) (running : s.resetHeld = false) (pos : Pos) :
    Alike w (restartPos w s pos) (stateAfter (.unitLost w (posNumber pos)) t) := by
  obtain ⟨frame, entries, idle, idle'⟩ := alike
  have running' : t.resetHeld = false := by rw [frame]; exact running
  obtain absent | ⟨e, unit⟩ := Option.eq_none_or_eq_some (s.trunks.entryAt ⟨w, pos⟩)
  · rw [stateAfter_unitLost_none running' ((entries pos).trans absent), restartPos, loseUnit_none absent]
    exact ⟨frame, entries, idle, idle'⟩
  · have unit' := (entries pos).trans unit
    rw [stateAfter_unitLost_some running' unit']
    refine ⟨?_, fun x => ?_, (loseUnit_wing ⟨w, pos⟩ s).2 idle, ?_⟩
    · rw [endPollAt_frame, loseUnit_idle unit' idle', restartPos, loseUnit_idle unit idle, frame, loseEffects_withUnits]
      rfl
    · rw [endPollAt_entryAt, restartPos]
      by_cases here : x = pos
      · subst here
        rw [loseUnit_absent, loseUnit_absent]
      · have other : (⟨w, x⟩ : Place) ≠ ⟨w, pos⟩ := by simpa using here
        rw [loseUnit_other other, loseUnit_other other, entries]
    · rw [endPollAt_assignment]
      exact (loseUnit_wing ⟨w, pos⟩ t).2 idle'

theorem Alike.restart (alike : Alike w s t) (running : s.resetHeld = false) (l : List Pos) :
    Alike w (l.foldl (restartPos w) s) (l.foldl (fun u pos => stateAfter (.unitLost w (posNumber pos)) u) t) := by
  induction l generalizing s t with
  | nil => exact alike
  | cons pos l ih => exact ih (alike.unitLost running pos) ((loseUnit_keeps ⟨w, pos⟩ s).2.1.trans running)

/-! #### What a restart leaves of its trunk and of the state -/

theorem emptiedByRestart_wing (w : Wing) (s : State) : (emptiedByRestart w s).trunks.units[w].assignment = none ∧
    ∀ w', w' ≠ w → (emptiedByRestart w s).trunks.units[w'] = s.trunks.units[w'] := by
  obtain ⟨-, -, -, -, idle, others⟩ := failedByRestart_keeps w s
  obtain ⟨others', idle'⟩ := restart_wing w positions (failedByRestart w s)
  rw [emptiedByRestart]
  exact ⟨idle' idle, fun w' other => by rw [others' w' other, others w' other]⟩

theorem emptiedByRestart_emptied (w : Wing) (s : State) : Emptied w (emptiedByRestart w s) where
  entries pos := by rw [emptiedByRestart, positions_eq, restart_entries, if_pos rfl]
  assignment := (emptiedByRestart_wing w s).1

theorem emptiedByRestart_keeps (w : Wing) (s : State) : Keeps s (emptiedByRestart w s) := by
  obtain ⟨frame, -⟩ := failedByRestart_keeps w s
  have keeps := restart_keeps w positions (failedByRestart w s)
  rw [emptiedByRestart]
  rw [frame] at keeps ⊢
  exact keeps

theorem restarted_keeps (w : Wing) (s : State) : Keeps s (restarted w s) :=
  (emptiedByRestart_keeps w s).trans (rewound_keeps w _).1

end Sys2Proof.Machine
end

section
namespace Sys2Proof.Machine
variable {s t u : State} {p : Place} {e : ChainEntry} {w : Wing} {pos : Pos} {seat : Seat} {D D' : List Seat}

theorem filter_eq_of_forall {α : Type} {o : Option α} {f : α → Bool} (all : ∀ a, o = some a → f a = true) : o.filter f = o := by
  cases o with
  | none => rfl
  | some a => rw [Option.filter_some, if_pos (all a rfl)]

/-! ### Seats that have left the floor and the queue, with nothing else changed (R26, R29) -/

/-- An entry with a reply binding to one of the seats dropped. -/
def unbindFrom (D : List Seat) (x : QueueEntry) : QueueEntry :=
  if x.target.any (· ∈ D) then { x with target := none, heard := false } else x

@[simp] theorem unbindFrom_seat (D : List Seat) (x : QueueEntry) : (unbindFrom D x).seat = x.seat := by
  unfold unbindFrom; split <;> rfl

@[simp] theorem unbindFrom_kind (D : List Seat) (x : QueueEntry) : (unbindFrom D x).kind = x.kind := by
  unfold unbindFrom; split <;> rfl

theorem unbindFrom_nil (x : QueueEntry) : unbindFrom [] x = x := if_neg (by cases x.target <;> simp)

theorem unbindFrom_one (seat : Seat) : unbindFrom [seat] = unbindEntry seat := by
  funext x
  have same : x.target.any (· ∈ [seat]) = true ↔ x.target = some seat := by cases x.target <;> simp
  simp only [unbindFrom, unbindEntry, same]

theorem unbindFrom_append (D D' : List Seat) (x : QueueEntry) : unbindFrom D' (unbindFrom D x) = unbindFrom (D ++ D') x := by
  unfold unbindFrom
  cases target : x.target with
  | none => simp [target]
  | some y => by_cases here : y ∈ D <;> simp [target, here]

/-- The slots that the seats hold. -/
abbrev slotsHeld (f : Floor) (D : List Seat) : List SlotNo := D.filterMap f.slotOf

/-- From `s` to `t` the seats gave up their records, slots and entries, and the reply bindings to them were dropped. -/
structure GaveUp (s t : State) (D : List Seat) : Prop where
  frame : t = { s with link := t.link, trunks := t.trunks, seats := t.seats
                       queue := { s.queue with entries := t.queue.entries }, floor := t.floor }
  records : ∀ y, y ∉ D → t.seats[y] = s.seats[y]
  entries : t.queue.entries = (s.queue.entries.filter fun x => x.seat ∉ D).map (unbindFrom D)
  floor : t.floor = { s.floor with
    slots := t.floor.slots, speakers := s.floor.speakers.filter fun n => n ∉ slotsHeld s.floor D
    free := (slotsHeld s.floor D).reverse ++ s.floor.free }
  slots : ∀ n : SlotNo, t.floor.slots[n] = (s.floor.slots[n]).filter fun sl => sl.seat ∉ D

theorem gaveUp_nil (frame : t = { s with link := t.link, trunks := t.trunks }) : GaveUp s t [] where
  frame := by rw [frame]
  records _ _ := by rw [frame]
  entries := by
    have same : unbindFrom [] = id := funext unbindFrom_nil
    rw [frame, same]; simp
  floor := by rw [frame]; simp
  slots n := by
    rw [frame]
    exact (filter_eq_of_forall (by simp)).symm

theorem gaveUp_one (apart : SeatsApart s) (frame : t = { unbound seat s with
    link := t.link, trunks := t.trunks
    queue := { s.queue with entries := entriesLeft seat s.queue.entries }, floor := floorLeft seat s.floor }) : GaveUp s t [seat] where
  frame := by rw [frame]; rfl
  records y other := by
    rw [frame]
    exact (put_getElem _ _ _ _).trans (if_neg (by simpa using other))
  entries := by
    rw [frame, unbindFrom_one]
    simp [entriesLeft, unbindEntry]
  floor := by
    rw [frame]
    dsimp only
    rw [floorLeft]
    cases held : s.floor.slotOf seat with
    | none => simp [slotsHeld, held]
    | some n => simp [slotsHeld, held, floorClosing, apart.speakers.erase_eq_filter, bne, beq_eq_decide]
  slots n := by
    rw [frame]
    dsimp only
    rw [floorLeft]
    cases held : s.floor.slotOf seat with
    | none =>
      refine (filter_eq_of_forall fun sl slot => ?_).symm
      simpa using slotOf_none held slot
    | some m =>
      obtain ⟨sl, slot, there⟩ := slotOf_some held
      refine (put_getElem _ _ _ _).trans ?_
      split
      · next same => rw [same, slot, Option.filter_some, if_neg (by simp [there])]
      · next other =>
        refine (filter_eq_of_forall fun a here => ?_).symm
        have elsewhere : a.seat ≠ seat := fun same => other (apart.slots n m a sl here slot (same.trans there.symm))
        simpa using elsewhere

theorem GaveUp.slotOf (h : GaveUp s t D) {y : Seat} (stays : y ∉ D) : t.floor.slotOf y = s.floor.slotOf y := by
  unfold Floor.slotOf
  congr 1
  funext n
  rw [h.slots]
  cases s.floor.slots[n] with
  | none => rfl
  | some sl =>
    rw [Option.filter_some]
    split
    · rfl
    · next gone =>
      have other : sl.seat ≠ y := fun same => stays (same ▸ by simpa using gone)
      simp [other]

theorem GaveUp.slot (h : GaveUp s t D) {n : SlotNo} {sl : Slot} (slot : t.floor.slots[n] = some sl) :
    s.floor.slots[n] = some sl ∧ sl.seat ∉ D := by
  rw [h.slots, Option.filter_eq_some_iff] at slot
  simpa using slot

theorem GaveUp.seatsApart (h : GaveUp s t D) (apart : SeatsApart s) : SeatsApart t where
  entries := by
    rw [h.entries, List.map_map]
    have seats : QueueEntry.seat ∘ unbindFrom D = QueueEntry.seat := funext (unbindFrom_seat D)
    rw [seats]
    exact apart.entries.sublist (List.filter_sublist.map _)
  slots m n a b ha hb := apart.slots m n a b (h.slot ha).1 (h.slot hb).1
  unqueued n a ha x hx := by
    rw [h.entries] at hx
    obtain ⟨y, hy, rfl⟩ := List.mem_map.1 hx
    rw [unbindFrom_seat]
    exact apart.unqueued n a (h.slot ha).1 y (List.mem_filter.1 hy).1
  speakers := by
    rw [h.floor]
    exact apart.speakers.filter _

theorem GaveUp.trans (first : GaveUp s u D) (second : GaveUp u t D') (others : ∀ y ∈ D', y ∉ D) : GaveUp s t (D ++ D') := by
  have held : slotsHeld u.floor D' = slotsHeld s.floor D' := List.filterMap_congr fun y hy => first.slotOf (others y hy)
  refine ⟨?_, fun y gone => ?_, ?_, ?_, fun n => ?_⟩
  · have frame := second.frame
    rw [first.frame] at frame
    exact frame
  · rw [List.mem_append, not_or] at gone
    rw [second.records y gone.2, first.records y gone.1]
  · rw [second.entries, first.entries, List.filter_map, List.map_map, List.filter_filter]
    have both : unbindFrom D' ∘ unbindFrom D = unbindFrom (D ++ D') := funext (unbindFrom_append D D')
    rw [both]
    congr 1
    refine List.filter_congr fun x _ => ?_
    simp [Bool.and_comm]
  · rw [second.floor, held, first.floor]
    simp [slotsHeld, List.filter_filter, Bool.and_comm]
  · rw [second.slots, first.slots, Option.filter_filter]
    congr 1
    funext sl
    simp

end Sys2Proof.Machine
end

section
namespace Sys2Proof.Machine
variable {s t u : State} {p : Place} {e : ChainEntry} {w : Wing} {pos : Pos} {seat : Seat} {D D' : List Seat}

/-! ### The notices of a loss with no advance following (R26) -/

/-- The notices of the loss of the unit at a place. -/
def lossNotices (s : State) (p : Place) : List NoticeBody :=
  match s.trunks.entryAt p with
  | none => []
  | some e =>
    match e.presence, e.addr with
    | .blocked k, _ => [.seatLost p e.addr (.blocked k)]
    | .ready, some seat => leavingNotices s seat .lost .lost ++ [.seatLost p (some seat) .ready]
    | _, _ => []

/-- The state with the entries of seats out of the queue. -/
def withoutEntries (D : List Seat) (s : State) : State :=
  s.setQueue { s.queue with entries := s.queue.entries.filter fun x => x.seat ∉ D }

theorem withoutEntries_nil (s : State) : withoutEntries [] s = s := by
  have same : (s.queue.entries.filter fun x => x.seat ∉ ([] : List Seat)) = s.queue.entries := by simp
  rw [withoutEntries, same]
  rfl

theorem lossNotices_ready (unit : s.trunks.entryAt p = some e) (ready : e.presence = .ready) (addr : e.addr = some seat) :
    lossNotices s p = leavingNotices s seat .lost .lost ++ [.seatLost p (some seat) .ready] := by
  simp only [lossNotices, unit, ready, addr]

theorem lossNotices_blocked (unit : s.trunks.entryAt p = some e) {k : BlockKind} (blocked : e.presence = .blocked k) :
    lossNotices s p = [.seatLost p e.addr (.blocked k)] := by
  simp only [lossNotices, unit, blocked]

theorem lossNotices_none (absent : s.trunks.entryAt p = none) : lossNotices s p = [] := by simp only [lossNotices, absent]

/-- A SETTLING unit has nothing to leave; nor would a READY one of no seat, of which there is none (R18). -/
theorem lossNotices_quiet (unit : s.trunks.entryAt p = some e)
    (quiet : e.presence = .settling ∨ e.presence = .ready ∧ e.addr = none) : lossNotices s p = [] := by
  rcases quiet with settling | ⟨ready, addr⟩
  · simp only [lossNotices, unit, settling]
  · simp only [lossNotices, unit, ready, addr]

theorem readySeat_none (quiet : ∀ e, s.trunks.entryAt p = some e → e.presence = .ready → e.addr = none) : readySeat s p = none := by
  by_contra some
  obtain ⟨y, some⟩ := Option.ne_none_iff_exists'.1 some
  obtain ⟨e, unit, ready, addr⟩ := readySeat_some.1 some
  cases (quiet e unit ready).symm.trans addr

theorem lossNotices_congr (entry : t.trunks.entryAt p = s.trunks.entryAt p)
    (leaving : ∀ y, readySeat s p = some y → leavingNotices t y .lost .lost = leavingNotices s y .lost .lost) :
    lossNotices t p = lossNotices s p := by
  cases unit : s.trunks.entryAt p with
  | none => rw [lossNotices_none unit, lossNotices_none (entry.trans unit)]
  | some e =>
    have unit' := entry.trans unit
    cases presence : e.presence with
    | settling => rw [lossNotices_quiet unit (.inl presence), lossNotices_quiet unit' (.inl presence)]
    | blocked k => rw [lossNotices_blocked unit presence, lossNotices_blocked unit' presence]
    | ready =>
      cases addr : e.addr with
      | none => rw [lossNotices_quiet unit (.inr ⟨presence, addr⟩), lossNotices_quiet unit' (.inr ⟨presence, addr⟩)]
      | some y =>
        rw [lossNotices_ready unit presence addr, lossNotices_ready unit' presence addr,
          leaving y (readySeat_some.2 ⟨e, unit, presence, addr⟩)]

/-- The notices of a seat that leaves read its slot, and its entry's kind and place. -/
theorem leavingNotices_congr {g : QueueEntry → QueueEntry} (entries : t.queue.entries = s.queue.entries.map g)
    (seats : ∀ x, (g x).seat = x.seat) (kinds : ∀ x, (g x).kind = x.kind) (slotOf : t.floor.slotOf seat = s.floor.slotOf seat)
    (slots : ∀ n, s.floor.slotOf seat = some n → t.floor.slots[n] = s.floor.slots[n]) (c : CloseReason) (l : LeaveReason) :
    leavingNotices t seat c l = leavingNotices s seat c l := by
  have same : (fun x : QueueEntry => x.seat == seat) ∘ g = fun x => x.seat == seat := funext fun x => by simp [seats]
  have entry : t.queue.entryOf seat = (s.queue.entryOf seat).map g := by
    rw [RequestQueue.entryOf, entries, List.find?_map, same, RequestQueue.entryOf]
  have place : t.queue.placeOf seat = s.queue.placeOf seat := by
    rw [RequestQueue.placeOf, entries, List.findIdx_map, same, RequestQueue.placeOf]
  unfold leavingNotices
  rw [entry, place, slotOf]
  congr 1
  · cases held : s.floor.slotOf seat with
    | none => rfl
    | some n => simp only [slots n held]
  · cases s.queue.entryOf seat with
    | none => rfl
    | some x => simp [kinds]

/-- After other seats left, a seat's own notices are as if their entries alone were gone. -/
theorem GaveUp.leavingNotices (h : GaveUp s t D) (stays : seat ∉ D) (D' : List Seat) (c : CloseReason) (l : LeaveReason) :
    leavingNotices (withoutEntries D' t) seat c l = leavingNotices (withoutEntries (D ++ D') s) seat c l := by
  refine leavingNotices_congr (s := withoutEntries (D ++ D') s) (t := withoutEntries D' t) (g := unbindFrom D)
    ?_ (unbindFrom_seat D) (unbindFrom_kind D) (h.slotOf stays) (fun n held => ?_) c l
  · change t.queue.entries.filter _ = (s.queue.entries.filter _).map _
    rw [h.entries, List.filter_map, List.filter_filter]
    congr 1
    refine List.filter_congr fun x _ => ?_
    simp [Bool.and_comm]
  · obtain ⟨sl, slot, there⟩ := slotOf_some held
    refine (h.slots n).trans (filter_eq_of_forall fun a here => ?_)
    cases slot.symm.trans here
    simpa [there] using stays

/-! ### One loss, and all of a trunk in turn (R36) -/

theorem loss_noAdvance (still : NoAdvance s) (apart : SeatsApart s) (idle : s.trunks.units[p.wing].assignment = none)
    (cls : ∀ y, readySeat s p = some y → s.plan[y].cls ≠ .chair) :
    GaveUp s (loseUnit p s) (readySeat s p).toList ∧ Tells s (loseUnit p s) (lossNotices s p) := by
  obtain absent | ⟨e, unit⟩ := Option.eq_none_or_eq_some (s.trunks.entryAt p)
  · rw [loseUnit_none absent, readySeat_none (fun e unit => by cases absent.symm.trans unit), lossNotices_none absent]
    exact ⟨gaveUp_nil rfl, tells_nil rfl⟩
  have seatless (quiet : e.presence = .ready → e.addr = none) : readySeat s p = none :=
    readySeat_none fun x same => by cases unit.symm.trans same; exact quiet
  rw [loseUnit_idle unit idle]
  cases presence : e.presence with
  | settling =>
    rw [seatless (by simp [presence]), lossNotices_quiet unit (.inl presence), loseEffects_settling presence]
    exact ⟨gaveUp_nil rfl, tells_nil rfl⟩
  | blocked k =>
    have told := (leaveBlocked_tells p s).trans (post_tells (.seatLost p e.addr (.blocked k)) _)
    rw [seatless (by simp [presence]), lossNotices_blocked unit presence, loseEffects_blocked presence]
    refine ⟨gaveUp_nil ?_, told.silent (tells_nil rfl)⟩
    rw [leaveBlocked_frame]
    rfl
  | ready =>
    cases addr : e.addr with
    | none =>
      have stays : loseEffects p e s = s := by simp only [loseEffects, presence, addr]
      rw [seatless fun _ => addr, lossNotices_quiet unit (.inr ⟨presence, addr⟩), stays]
      exact ⟨gaveUp_nil rfl, tells_nil rfl⟩
    | some y =>
      have ready := readySeat_some.2 ⟨e, unit, presence, addr⟩
      obtain ⟨frame, told⟩ := loseEffects_noAdvance (p := p) presence addr still apart (cls y ready)
      rw [ready, lossNotices_ready unit presence addr]
      refine ⟨gaveUp_one apart ?_, told.silent (tells_nil rfl)⟩
      exact congrArg (fun x : State => { x with trunks := (setEntry p none (loseEffects p e s)).trunks }) frame

/-- The seats of the READY units at some positions of a wing. -/
abbrev seatsAt (s : State) (w : Wing) (l : List Pos) : List Seat := l.filterMap fun pos => readySeat s ⟨w, pos⟩

theorem seatsAt_cons (s : State) (w : Wing) (pos : Pos) (l : List Pos) :
    seatsAt s w (pos :: l) = (readySeat s ⟨w, pos⟩).toList ++ seatsAt s w l := by
  cases ready : readySeat s ⟨w, pos⟩ <;> simp [seatsAt, ready]

theorem readySeat_loseUnit {q : Place} (other : q ≠ p) : readySeat (loseUnit p s) q = readySeat s q := by
  rw [readySeat, loseUnit_other other]

theorem restart_noAdvance {l : List Pos} (ascending : l.Pairwise (· < ·)) (still : NoAdvance s) (apart : SeatsApart s)
    (idle : s.trunks.units[w].assignment = none) (once : (seatsAt s w l).Nodup)
    (cls : ∀ y ∈ seatsAt s w l, s.plan[y].cls ≠ .chair) : let t := l.foldl (restartPos w) s
    GaveUp s t (seatsAt s w l) ∧
      Tells s t (l.flatMap fun pos => lossNotices (withoutEntries (seatsAt s w (l.filter (· < pos))) s) ⟨w, pos⟩) := by
  induction l generalizing s with
  | nil => exact ⟨gaveUp_nil rfl, tells_nil rfl⟩
  | cons x l ih =>
    obtain ⟨first, ascending⟩ := List.pairwise_cons.1 ascending
    have away : ∀ pos ∈ l, (⟨w, pos⟩ : Place) ≠ ⟨w, x⟩ := fun pos mem same =>
      absurd (first pos mem) (by cases same; exact lt_irrefl _)
    have seats : ∀ l', (∀ pos ∈ l', pos ∈ l) → seatsAt (restartPos w s x) w l' = seatsAt s w l' := fun l' sub =>
      List.filterMap_congr fun pos mem => readySeat_loseUnit (away pos (sub pos mem))
    rw [seatsAt_cons] at once cls ⊢
    obtain ⟨-, once', others⟩ := List.nodup_append.1 once
    obtain ⟨gaveUp, told⟩ := loss_noAdvance (p := ⟨w, x⟩) still apart idle fun y ready => cls y (by simp [ready])
    have plan : (restartPos w s x).plan = s.plan := (loseUnit_keeps ⟨w, x⟩ s).2.2.2.1
    have profiles : (restartPos w s x).profiles = s.profiles := (loseUnit_keeps ⟨w, x⟩ s).2.2.2.2.2.2
    have list : (restartPos w s x).queue.list = s.queue.list := by
      have frame := congrArg (·.queue.list) gaveUp.frame
      exact frame
    obtain ⟨gaveUp', told'⟩ := ih (s := restartPos w s x) ascending (still.congr list profiles) (gaveUp.seatsApart apart)
      ((loseUnit_wing ⟨w, x⟩ s).2 idle) (by rw [seats l fun _ => id]; exact once')
      (by rw [seats l fun _ => id, plan]; exact fun y mem => cls y (List.mem_append_right _ mem))
    rw [seats l fun _ => id] at gaveUp'
    refine ⟨gaveUp.trans gaveUp' fun y mem gone => others y gone y mem rfl, ?_⟩
    have head : (x :: l).filter (· < x) = [] := List.filter_eq_nil_iff.2 fun pos mem => by
      rcases List.mem_cons.1 mem with rfl | later
      · simp
      · simpa using (first pos later).le
    have tail : ∀ pos ∈ l,
        lossNotices (withoutEntries (seatsAt (restartPos w s x) w (l.filter (· < pos))) (restartPos w s x)) ⟨w, pos⟩ =
        lossNotices (withoutEntries (seatsAt s w ((x :: l).filter (· < pos))) s) ⟨w, pos⟩ := fun pos mem => by
      rw [seats _ fun _ => List.mem_of_mem_filter, List.filter_cons_of_pos (by simpa using first pos mem), seatsAt_cons]
      refine lossNotices_congr (loseUnit_other (away pos mem) s) fun y ready => gaveUp.leavingNotices ?_ _ _ _
      exact fun gone => others y gone y (List.mem_filterMap.2 ⟨pos, mem, ready⟩) rfl
    rw [List.flatMap_cons, head, ← List.flatMap_congr tail]
    have here : withoutEntries (seatsAt s w []) s = s := withoutEntries_nil s
    rw [here]
    exact told.trans told'

end Sys2Proof.Machine
end

section
namespace Sys2Proof.Machine
variable {s t u : State} {p : Place} {e : ChainEntry} {w : Wing} {pos : Pos} {seat : Seat} {wing : Byte}

/-! ### What a restart leaves where the laws hold (R26, R31, R36) -/

theorem failedByRestart_trunkLaws (h : TrunkLaws s) (w : Wing) : TrunkLaws (failedByRestart w s) := by
  cases flight : s.trunks.units[w].assignment with
  | none => rwa [failedByRestart_none flight]
  | some x => rw [failedByRestart_some flight]; exact failAssignment_trunkLaws h _ _

theorem failedByRestart_boundOn (w : Wing) (s : State) (seat : Seat) : boundOn (failedByRestart w s) w seat = boundOn s w seat := by
  obtain ⟨-, -, binding, -⟩ := failedByRestart_keeps w s
  rw [boundOn, binding, boundOn]

theorem failedByRestart_gaveUp (w : Wing) (s : State) : GaveUp s (failedByRestart w s) [] :=
  gaveUp_nil (failedByRestart_keeps w s).1

theorem failedByRestart_readySeat (w : Wing) (s : State) (p : Place) : readySeat (failedByRestart w s) p = readySeat s p := by
  obtain ⟨-, entries, -⟩ := failedByRestart_keeps w s
  rw [readySeat, entries]

theorem failedByRestart_seatsAt (w : Wing) (s : State) (l : List Pos) : seatsAt (failedByRestart w s) w l = seatsAt s w l :=
  List.filterMap_congr fun _ _ => failedByRestart_readySeat w s _

section Laws
variable (laws : TrunkLaws s)
include laws

theorem emptiedByRestart_tables (w : Wing) : let t := emptiedByRestart w s
    (∀ seat : Seat, t.trunks.binding[seat] = if boundOn s w seat then none else s.trunks.binding[seat]) ∧
    t.trunks.blocked = s.trunks.blocked.filter (fun b => b.place.wing ≠ w) ∧
    ∀ seat : Seat, boundOn s w seat = true → t.seats[seat] = none := by
  dsimp only
  have laws' := failedByRestart_trunkLaws laws w
  obtain ⟨-, -, binding, blocked, -⟩ := failedByRestart_keeps w s
  rw [emptiedByRestart, positions_eq]
  refine ⟨fun seat => ?_, ?_, fun seat on => restart_seats laws' (by rwa [failedByRestart_boundOn])⟩
  · rw [restart_binding laws', failedByRestart_boundOn, binding]
  · rw [restart_table laws', blocked]

theorem mem_seatsAt {l : List Pos} : seat ∈ seatsAt s w l ↔ ∃ pos ∈ l, s.trunks.binding[seat] = some ⟨w, pos⟩ := by
  rw [List.mem_filterMap]
  refine exists_congr fun pos => and_congr_right fun _ => ?_
  rw [laws.1.1]
  exact readySeat_some

theorem emptiedByRestart_gone (floor : FloorLaws s) (on : boundOn s w seat = true) : Holds seat 0 False (emptiedByRestart w s) := by
  obtain ⟨pos, mem, bound⟩ := (mem_seatsAt laws).1 ((boundOn_iff laws).1 on)
  obtain ⟨frame, -⟩ := failedByRestart_keeps w s
  have holds : Holds seat 1 True (failedByRestart w s) := (holds_of_laws floor.1 floor.2.2 seat).of_same (by rw [frame]) (by rw [frame])
  have ready : readySeat (failedByRestart w s) ⟨w, pos⟩ = some seat := by
    rw [failedByRestart_readySeat]
    exact readySeat_some.2 ((laws.1.1 seat _).1 bound)
  rw [emptiedByRestart, positions_eq]
  exact restart_gone mem ready holds

/-- A seat is bound to one place (R18). -/
theorem seatsOnWing_nodup (w : Wing) : (seatsOnWing s w).Nodup := by
  refine (List.nodup_finRange 128).filterMap fun a b seat ha hb => ?_
  have hereA := (laws.1.1 seat ⟨w, a⟩).2 (readySeat_some.1 ha)
  have hereB := (laws.1.1 seat ⟨w, b⟩).2 (readySeat_some.1 hb)
  simpa using hereA.symm.trans hereB

theorem restartNotices_eq (w : Wing) (pos : Pos) : restartNotices s w pos =
    lossNotices (withoutEntries (seatsAt s w ((List.finRange 128).filter (· < pos))) s) ⟨w, pos⟩ := by
  let left := withoutEntries (seatsAt s w ((List.finRange 128).filter (· < pos))) s
  have ahead : (s.setQueue { s.queue with entries := s.queue.entries.filter fun x =>
      !((s.trunks.binding[x.seat]).any fun p => p.wing == w && decide (p.pos < pos)) }) = left := by
    refine congrArg (fun es => s.setQueue { s.queue with entries := es }) (List.filter_congr fun x _ => ?_)
    rw [Bool.eq_iff_iff, Bool.not_eq_true', Bool.eq_false_iff, decide_eq_true_eq, not_iff_not, mem_seatsAt laws, Option.any_eq_true]
    constructor
    · rintro ⟨p, bound, here⟩
      obtain ⟨rfl, before⟩ : p.wing = w ∧ p.pos < pos := by simpa using here
      exact ⟨p.pos, List.mem_filter.2 ⟨List.mem_finRange _, by simpa using before⟩, bound⟩
    · rintro ⟨x, mem, bound⟩
      exact ⟨⟨w, x⟩, bound, by simpa using (List.mem_filter.1 mem).2⟩
  change _ = lossNotices left ⟨w, pos⟩
  obtain absent | ⟨e, unit⟩ := Option.eq_none_or_eq_some (s.trunks.entryAt ⟨w, pos⟩)
  · rw [lossNotices_none (s := left) absent]
    simp only [restartNotices, absent]
  · cases presence : e.presence with
    | settling =>
      rw [lossNotices_quiet (s := left) unit (.inl presence)]
      simp only [restartNotices, unit, presence]
    | blocked k =>
      rw [lossNotices_blocked (s := left) unit presence]
      simp only [restartNotices, unit, presence]
    | ready =>
      cases addr : e.addr with
      | none =>
        rw [lossNotices_quiet (s := left) unit (.inr ⟨presence, addr⟩)]
        simp only [restartNotices, unit, presence, addr]
      | some y =>
        rw [lossNotices_ready (s := left) unit presence addr]
        simp only [restartNotices, unit, presence, addr, ahead]

theorem emptiedByRestart_noAdvance (floor : FloorLaws s) (still : NoAdvance s)
    (cls : ∀ seat : Seat, boundOn s w seat = true → s.plan[seat].cls ≠ .chair) :
    GaveUp s (emptiedByRestart w s) (seatsOnWing s w) ∧ Tells s (emptiedByRestart w s)
      ((s.trunks.units[w].assignment.toList.map fun a => .assignFailed ⟨w, a.pos⟩ a.seat .restart)
        ++ (List.finRange 128).flatMap (restartNotices s w)) := by
  obtain ⟨frame, entries, -, -, idle, -⟩ := failedByRestart_keeps w s
  have gaveUp := failedByRestart_gaveUp w s
  have seats := failedByRestart_seatsAt w s
  obtain ⟨gone, told⟩ := restart_noAdvance (s := failedByRestart w s) (l := List.finRange 128) (List.pairwise_lt_finRange 128)
    (still.congr (by rw [frame]) (by rw [frame])) (gaveUp.seatsApart (seatsApart floor)) idle
    (by rw [seats]; exact seatsOnWing_nodup laws w) (by
      rw [seats, frame]
      exact fun y mem => cls y ((boundOn_iff laws).2 mem))
  have notices : ((List.finRange 128).flatMap fun pos => lossNotices (withoutEntries (seatsAt (failedByRestart w s) w
      ((List.finRange 128).filter (· < pos))) (failedByRestart w s)) ⟨w, pos⟩) = (List.finRange 128).flatMap (restartNotices s w) := by
    refine List.flatMap_congr fun pos _ => ?_
    rw [restartNotices_eq laws, seats]
    exact lossNotices_congr (entries _) fun y _ => gaveUp.leavingNotices (by simp) _ _ _
  rw [notices] at told
  rw [seats] at gone
  rw [emptiedByRestart, positions_eq]
  exact ⟨gaveUp.trans gone (by simp), (failedByRestart_tells w s).trans told⟩

end Laws

end Sys2Proof.Machine
end

section
namespace Sys2Proof.Machine
variable {s t u : State} {w : Wing} {wing : Byte}

/-! ### TRUNK RESTART as an order (R36) -/

theorem eq_with_stores (keeps : Keeps s t) : t = { s with
    link := t.link, trunks := t.trunks, seats := t.seats, queue := t.queue, floor := t.floor } := by
  obtain ⟨pending, held, draws, plan, cursor, allowance, profiles⟩ := keeps
  cases s; cases t
  simp_all

theorem exec_trunkRestart (takes : TakesOrders s) (hw : wing.toNat = w.val) : let t := answered 0x13 .ok [] (restarted w (oweAnswer s))
    exec (.trunkRestart wing) s = .next t ∧ Answers s t 0x13 .ok [] ∧ LinkFrame s t :=
  submit_answered (i := .trunkRestart wing) rfl (by simp) (by simp) (by simp) takes (takeTrunkRestart_answered hw _)

/-- What a restart leaves, its answer handed on, is what it leaves of the state and of all stores but the link. -/
theorem answered_restarted (k : Byte) (w : Wing) (s : State) : let t := answered k .ok [] (restarted w s)
    t.seats = (emptiedByRestart w s).seats ∧ t.queue = (emptiedByRestart w s).queue ∧ t.floor = (emptiedByRestart w s).floor ∧
      t.trunks = (restarted w s).trunks ∧ Keeps s t ∧ t.link.notices = (emptiedByRestart w s).link.notices := by
  obtain ⟨⟨keeps, trunks⟩, seats, queue, floor⟩ := withAnswer_keeps (answerIn (restarted w s) k .ok []) (restarted w s)
  obtain ⟨-, link', seats', queue', floor'⟩ := rewound_keeps w (emptiedByRestart w s)
  exact ⟨seats.trans seats', queue.trans queue', floor.trans floor', trunks, (restarted_keeps w s).trans keeps,
    (withAnswer_notices _ _).trans (congrArg Link.notices link')⟩

/-- The losses of a restart are those that UNIT_LOST makes one after another. -/
theorem restarted_unitsLost (running : s.resetHeld = false) (w : Wing) :
    let lost := positions.foldl (fun u pos => stateAfter (.unitLost w (posNumber pos)) u) (failedByRestart w s)
    { lost with trunks := (restarted w s).trunks } = restarted w s ∧ (restarted w s).trunks.binding = lost.trunks.binding ∧
      (restarted w s).trunks.blocked = lost.trunks.blocked := by
  obtain ⟨frame, -, -, -, idle, -⟩ := failedByRestart_keeps w s
  have alike := (Alike.mk (w := w) (s := failedByRestart w s) rfl (fun _ => rfl) idle idle).restart
    (by rw [frame]; exact running) positions
  dsimp only
  rw [alike.frame]
  exact ⟨rfl, rfl, rfl⟩

/-- Settles O27: the steps of a restart, each loss as UNIT_LOST makes it; then its tables, its seats and its notices. -/
theorem trunkRestartEmptiesTheChain : Obligations.TrunkRestartEmptiesTheChain := by
  refine fun wing s takes => ⟨fun bad => submit_refused rfl (by simp) takes (takeTrunkRestart_badValue bad _), fun w hw => ?_⟩
  obtain ⟨taken, answers, frame⟩ := exec_trunkRestart takes hw
  obtain ⟨seats, queue, floor, trunks, ⟨pending, held, draws, plan, cursor, allowance, profiles⟩, notices⟩ :=
    answered_restarted 0x13 w (oweAnswer s)
  obtain ⟨entries, assignment, poll, next⟩ := (emptiedByRestart_emptied w (oweAnswer s)).rewound
  refine ⟨_, taken, answers, frame, ?_⟩
  refine ⟨by rw [trunks]; exact entries, by rw [trunks]; exact assignment, by rw [trunks]; exact poll, by rw [trunks]; exact next,
    fun w' other => ?_, plan, cursor, allowance, profiles, ?lost, fun laws floorLaws => ?laws⟩
  · rw [trunks]
    exact ((rewound_trunk w _).2.1 w' other).trans ((emptiedByRestart_wing w (oweAnswer s)).2 w' other)
  case lost =>
    intro failed lost
    obtain ⟨same, binding, blocked⟩ := restarted_unitsLost (s := oweAnswer s) takes.1 w
    have steps : lost = positions.foldl (fun u pos => stateAfter (.unitLost w (posNumber pos)) u) (failedByRestart w (oweAnswer s)) :=
      congrArg (List.foldl _ failed) positions_eq.symm
    rw [steps, trunks]
    exact ⟨congrArg (answered 0x13 .ok []) same.symm, binding, blocked⟩
  case laws =>
    obtain ⟨binding, blocked, forgotten⟩ := emptiedByRestart_tables (s := oweAnswer s) laws w
    have gone (seat : Seat) (on : boundOn s w seat = true) := emptiedByRestart_gone (s := oweAnswer s) laws floorLaws on
    rw [trunks, seats, queue, floor]
    refine ⟨binding, blocked, forgotten, fun n sl slot => ?_, fun x hx => ⟨?_, ?_⟩, fun still cls => ?_⟩
    · exact eq_false_of_ne_true fun on => (gone _ on).noSlot n sl slot rfl
    · exact eq_false_of_ne_true fun on => (gone _ on).noEntry x hx rfl
    · refine eq_false_of_ne_true fun on => ?_
      obtain ⟨y, target, on⟩ := (Option.any_eq_true _ _).1 on
      exact (gone y on).targets x hx target
    · obtain ⟨gaveUp, told⟩ := emptiedByRestart_noAdvance (s := oweAnswer s) laws floorLaws still cls
      have on (seat : Seat) : boundOn s w seat = decide (seat ∈ seatsOnWing s w) := by
        rw [Bool.eq_iff_iff, boundOn_iff laws, decide_eq_true_eq]
      change ∀ seat, boundOn s w seat = decide (seat ∈ seatsOnWing (oweAnswer s) w) at on
      refine ⟨?_, fun seat off => ?_, ?_, ?_, fun n => ?_, ?_⟩
      · have whole := eq_with_stores ⟨pending, held, draws, plan, cursor, allowance, profiles⟩
        have left : (emptiedByRestart w (oweAnswer s)).queue =
            { s.queue with entries := (emptiedByRestart w (oweAnswer s)).queue.entries } := congrArg State.queue gaveUp.frame
        rw [trunks, seats, queue, floor, left] at whole
        exact whole
      · exact gaveUp.records seat (by simpa [on] using off)
      · have gone : unbindFrom (seatsOnWing (oweAnswer s) w) = fun x =>
            if (x.target).any (boundOn s w) then { x with target := none, heard := false } else x := funext fun x => by
          simp only [unbindFrom, ← on]
        rw [gaveUp.entries, gone]
        refine congrArg _ (List.filter_congr fun x _ => ?_)
        simp [on]
      · exact gaveUp.floor
      · rw [gaveUp.slots]
        refine congrArg (Option.filter · _) (funext fun sl => ?_)
        simp [on]
      · have posted := told.posts (.inr (by simp [oweAnswer]))
        unfold Posts at posted ⊢
        rw [notices]
        exact posted

end Sys2Proof.Machine
end

section
namespace Sys2Proof.Machine
variable {s t u : State} {seat : Seat} {r : SeatRecord} {n : SlotNo} {sl : Slot}

/-! ### The howl guard at the slot of a seat (R95) -/

theorem mapSeat_put (now : SeatRecord) (g : SeatRecord → SeatRecord) :
    mapSeat seat g (s.setSeats (put s.seats seat (some now))) = s.setSeats (put s.seats seat (some (g now))) := by
  have there : (s.setSeats (put s.seats seat (some now))).seats[seat] = some now := put_getElem_self _ _ _
  rw [mapSeat_some there, State.setSeats_seats, put_put]
  rfl

theorem exec_howl_none (running : s.resetHeld = false) (fresh : s.seats[seat] = none) : exec (.howl seat) s = .next s := by
  simp only [exec, execHowl, whileRunning_running running, fresh]

theorem exec_howlClear_none (running : s.resetHeld = false) (fresh : s.seats[seat] = none) :
    exec (.howlClear seat) s = .next s := by
  simp only [exec, execHowlClear, whileRunning_running running, fresh]

theorem raiseHowl_delegate (cls : classOf s seat = .delegate) (record : s.seats[seat] = some r) : raiseHowl seat s =
    howlSlot seat (s.setSeats (put s.seats seat (some { r with howlRun := 0, releaseRun := 0 }))) := by
  have still : classOf (s.setSeats (put s.seats seat (some { r with howlRun := 0, releaseRun := 0 }))) seat = .delegate := cls
  simp only [raiseHowl, howlEvent, mapSeat_some record, cls, still, true_or, if_true, reduceCtorEq, if_false]

theorem raiseHowlClear_delegate (cls : classOf s seat = .delegate) (record : s.seats[seat] = some r) : raiseHowlClear seat s =
    howlClearSlot seat (s.setSeats (put s.seats seat (some { r with releaseRun := 0 }))) := by
  have still : classOf (s.setSeats (put s.seats seat (some { r with releaseRun := 0 }))) seat = .delegate := cls
  simp only [raiseHowlClear, howlClearEvent, mapSeat_some record, cls, still, true_or, if_true, reduceCtorEq, if_false]

theorem howlSlot_none (nowhere : s.floor.slotOf seat = none) : howlSlot seat s = s := by
  simp only [howlSlot, nowhere]

theorem howlClearSlot_none (nowhere : s.floor.slotOf seat = none) : howlClearSlot seat s = s := by
  simp only [howlClearSlot, nowhere]

/-- A seat that is neither CHAIR nor holds a slot as DELEGATE has no microphone to lock (R52, R53). -/
theorem raiseHowl_idle (record : s.seats[seat] = some r) (idle : s.plan[seat].cls = .vacant ∨ s.plan[seat].cls = .listener ∨
    (s.plan[seat].cls = .delegate ∧ s.floor.slotOf seat = none)) :
    raiseHowl seat s = s.setSeats (put s.seats seat (some { r with howlRun := 0, releaseRun := 0 })) ∧
      raiseHowlClear seat s = s.setSeats (put s.seats seat (some { r with releaseRun := 0 })) := by
  have silent (other : ¬(classOf s seat = .delegate ∨ classOf s seat = .chair)) :
      raiseHowl seat s = s.setSeats (put s.seats seat (some { r with howlRun := 0, releaseRun := 0 })) ∧
        raiseHowlClear seat s = s.setSeats (put s.seats seat (some { r with releaseRun := 0 })) := by
    rw [raiseHowl, raiseHowlClear, if_neg other, if_neg other, mapSeat_some record, mapSeat_some record]
    exact ⟨rfl, rfl⟩
  rcases idle with vacant | listener | ⟨cls, nowhere⟩
  · exact silent (by rw [classOf, vacant]; decide)
  · exact silent (by rw [classOf, listener]; decide)
  · rw [raiseHowl_delegate cls record, raiseHowlClear_delegate cls record]
    exact ⟨howlSlot_none nowhere, howlClearSlot_none nowhere⟩

/-- The floor with the record of one slot rewritten. -/
abbrev slotRewritten (n : SlotNo) (sl : Slot) (f : Floor) : Floor := { f with slots := put f.slots n (some sl) }

section Slot
variable (held : s.floor.slotOf seat = some n) (slot : s.floor.slots[n] = some sl)
include held

theorem closeSeat_some (c : CloseReason) : closeSeat seat c s = advanceCheck (closeSlot n c s) := by
  simp only [closeSeat, held]

include slot

theorem slotOf_seat : sl.seat = seat := by
  obtain ⟨a, there, same⟩ := slotOf_some held
  rwa [← Option.some.inj (slot.symm.trans there)] at same

/-- The slot of a seat closed by the whole close path, with no advance following (R82). -/
theorem closeSlot_noAdvance (still : NoAdvance s) (c : CloseReason) : let t := advanceCheck (closeSlot n c s)
    t = { s with link := t.link, floor := floorClosing n s.floor
                 queue := { s.queue with entries := s.queue.entries.map (hearEntry seat) } } ∧
      Tells s t [.floorClosed n seat c sl.origin sl.elapsed] := by
  obtain ⟨frame, told⟩ := closeSlot_open still.1 c slot
  rw [slotOf_seat held slot] at frame told
  have noAdvance : NoAdvance (closeSlot n c s) := by rw [frame]; exact still
  rw [advanceCheck_noAdvance noAdvance]
  exact ⟨frame, told⟩

theorem howlSlot_silent (silent : sl.condition ≠ .open) : howlSlot seat s = s := by
  simp only [howlSlot, held, slot, if_pos silent]

theorem howlSlot_soft (live : sl.condition = .open) (soft : (inForce s).lockKind = .soft) (few : sl.strikes < 2) :
    let t := howlSlot seat s
    t = { s with link := t.link
                 floor := slotRewritten n { sl with condition := .softLocked, strikes := sl.strikes + 1 } s.floor } ∧
      Tells s t [.howlLock seat .soft (sl.strikes + 1)] := by
  simp only [howlSlot, held, slot]
  rw [if_neg (not_not.2 live), if_pos ⟨soft, few⟩, mapSlot_of_some slot]
  exact ⟨rfl, (post_tells _ _).after rfl⟩

theorem howlSlot_hard (live : sl.condition = .open) (hard : (inForce s).lockKind = .hard ∨ 2 ≤ sl.strikes) : howlSlot seat s =
    setLocked seat true (advanceCheck (closeSlot n .howl (post (.howlLock seat .hard sl.strikes) s))) := by
  have no : ¬((inForce s).lockKind = .soft ∧ sl.strikes < 2) := fun ⟨soft, few⟩ => by
    rcases hard with hard | many
    · cases hard.symm.trans soft
    · omega
  simp only [howlSlot, held, slot]
  rw [if_neg (not_not.2 live), if_neg no]
  exact congrArg _ (closeSeat_some (s := post (.howlLock seat .hard sl.strikes) s) held .howl)

/-- The hard lock of a slot with no advance following: its close, told after HOWL LOCK, and the flag (R95, R97). -/
theorem howlSlot_hard_noAdvance (live : sl.condition = .open) (hard : (inForce s).lockKind = .hard ∨ 2 ≤ sl.strikes)
    (still : NoAdvance s) : let t := howlSlot seat s
    t = { s with link := t.link
                 queue := { s.queue with entries := s.queue.entries.map (hearEntry seat) }
                 floor := { floorClosing n s.floor with locked := put s.floor.locked seat true } } ∧
      Tells s t [.howlLock seat .hard sl.strikes, .floorClosed n seat .howl sl.origin sl.elapsed] := by
  obtain ⟨frame, told⟩ := closeSlot_noAdvance (s := post (.howlLock seat .hard sl.strikes) s) held slot still .howl
  dsimp only at frame ⊢
  rw [howlSlot_hard held slot live hard]
  refine ⟨?_, ((post_tells _ s).trans told).silent (tells_nil rfl)⟩
  conv_lhs => rw [setLocked, frame]
  rfl

theorem howlClearSlot_other (other : sl.condition ≠ .softLocked) : howlClearSlot seat s = s := by
  simp only [howlClearSlot, held, slot, if_pos other]

theorem howlClearSlot_open (locked : sl.condition = .softLocked) (free : holdCount s = 0) : let t := howlClearSlot seat s
    t = { s with link := t.link, seats := blankingRestarted s seat
                 floor := slotRewritten n { sl with condition := .open } s.floor } ∧
      Tells s t [.howlClear seat .open] := by
  simp only [howlClearSlot, held, slot]
  rw [if_neg (not_not.2 locked), if_pos free, mapSlot_of_some slot, restartBlanking_eq]
  exact ⟨rfl, (post_tells _ _).after rfl⟩

theorem howlClearSlot_muted (locked : sl.condition = .softLocked) (hold : 0 < holdCount s) : let t := howlClearSlot seat s
    t = { s with link := t.link, floor := slotRewritten n { sl with condition := .muted } s.floor } ∧
      Tells s t [.howlClear seat .muted] := by
  simp only [howlClearSlot, held, slot]
  rw [if_neg (not_not.2 locked), if_neg (Nat.ne_of_gt hold), mapSlot_of_some slot]
  exact ⟨rfl, (post_tells _ _).after rfl⟩

end Slot

/-! ### The howl phase and the runs of a report (R50 to R53) -/

theorem howlPhase_slot (held : s.floor.slotOf seat = some n) (slot : s.floor.slots[n] = some sl) : howlPhase s seat =
    if sl.condition = .open then HowlPhase.live else if sl.condition = .softLocked then .lockedSoft else .off := by
  simp only [howlPhase, conditionOf_slot held slot]
  cases sl.condition <;> rfl

theorem howlPhase_noSlot (nowhere : s.floor.slotOf seat = none) : howlPhase s seat = match s.floor.chairOf seat with
    | some c => if c.micOpen = false then .off else if c.softMuted = true then .lockedSoft else .live
    | none => .off := by
  simp only [howlPhase, conditionOf_none nowhere]
  cases s.floor.chairOf seat with
  | none => rfl
  | some c => cases mic : c.micOpen <;> simp [mic]

theorem SeatRecord.withPhase_phase (r : SeatRecord) (phase : HowlPhase) : (r.withPhase phase).phase = phase := by
  unfold SeatRecord.withPhase
  split
  · assumption
  · rfl

/-- The seat's record as a report finds it, its phase just read (R50). -/
abbrev phaseRead (seat : Seat) (now : SeatRecord) (s : State) : State := s.setSeats (put s.seats seat (some now))

section Phases
variable {now : SeatRecord} (record : s.seats[seat] = some r) (read : r.withPhase (howlPhase s seat) = now) (level : Nat)
include record read

theorem takeHowl_off (off : howlPhase s seat = .off) :
    takeHowl seat level s = phaseRead seat { now with howlRun := 0, releaseRun := 0 } s := by
  subst read
  simp only [takeHowl, record, mapSeat_some record, SeatRecord.withPhase_phase, off, mapSeat_put]

theorem takeHowl_live (live : howlPhase s seat = .live) :
    takeHowl seat level s = takeLive seat now level (phaseRead seat now s) := by
  subst read
  simp only [takeHowl, record, mapSeat_some record, SeatRecord.withPhase_phase, live]

theorem takeHowl_lockedSoft (locked : howlPhase s seat = .lockedSoft) :
    takeHowl seat level s = takeLockedSoft seat now level (phaseRead seat now s) := by
  subst read
  simp only [takeHowl, record, mapSeat_some record, SeatRecord.withPhase_phase, locked]

end Phases

section Runs
variable (now : SeatRecord) (level : Nat)

theorem takeLive_blanked (blanked : 0 < now.blanking) : takeLive seat now level (phaseRead seat now s) =
    phaseRead seat { now with blanking := now.blanking - 1 } s := by
  rw [takeLive, if_pos blanked, mapSeat_put]

theorem takeLive_heard (heard : now.blanking = 0) : takeLive seat now level (phaseRead seat now s) =
    if level < (inForce s).howlLimit then phaseRead seat { now with howlRun := 0 } s
    else if now.howlRun + 1 < (inForce s).howlCount then phaseRead seat { now with howlRun := now.howlRun + 1 } s
    else raiseHowl seat (phaseRead seat now s) := by
  have profile : inForce (phaseRead seat now s) = inForce s := rfl
  simp only [takeLive, heard, Nat.lt_irrefl, if_false, profile, mapSeat_put, ← not_lt, ite_not]

theorem takeLockedSoft_eq : takeLockedSoft seat now level (phaseRead seat now s) =
    if (inForce s).howlLimit - 12 < level then phaseRead seat { now with releaseRun := 0 } s
    else if now.releaseRun + 1 < (inForce s).softRelease then phaseRead seat { now with releaseRun := now.releaseRun + 1 } s
    else raiseHowlClear seat (phaseRead seat now s) := by
  have profile : inForce (phaseRead seat now s) = inForce s := rfl
  simp only [takeLockedSoft, profile, mapSeat_put, ← not_lt, ite_not]

end Runs

/-- Settles O30: HOWL and HOWL CLEAR by the condition of the slot, and a report by the phase it finds. -/
theorem howlLocksTheSlot : Obligations.HowlLocksTheSlot := by
  refine ⟨fun seat r n sl s sending record cls held slot => ?howl, fun seat r n sl s sending record cls held slot => ?clear,
    fun seat s running => ⟨fun fresh => ⟨exec_howl_none running fresh, exec_howlClear_none running fresh⟩, fun r record idle => ?_⟩,
    fun seat r level s running record => ?report⟩
  case howl =>
    have q := sending.queues
    intro cleared
    have held : cleared.floor.slotOf seat = some n := held
    have slot : cleared.floor.slots[n] = some sl := slot
    rw [exec_howl sending.1 record, raiseHowl_delegate cls record]
    refine ⟨fun silent => congrArg _ (howlSlot_silent held slot silent), fun live soft few => ?_, fun live hard => ?_,
      fun live hard still => ?_⟩
    · obtain ⟨frame, told⟩ := howlSlot_soft held slot live soft few
      have told := told.after (s := s) rfl
      exact ⟨_, rfl, congrArg State.floor frame ▸ frame, told.linkFrame q, congrArg State.floor frame, told.posts q⟩
    · exact congrArg _ (howlSlot_hard held slot live hard)
    · obtain ⟨frame, told⟩ := howlSlot_hard_noAdvance held slot live hard still
      have told := told.after (s := s) rfl
      have floor := congrArg State.floor frame
      have queue := congrArg State.queue frame
      refine ⟨_, rfl, ?_, told.linkFrame q, congrArg RequestQueue.entries queue, floor, told.posts q⟩
      rw [floor, queue]
      exact frame
  case clear =>
    have q := sending.queues
    let cleared := s.setSeats (put s.seats seat (some { r with releaseRun := 0 }))
    have held : cleared.floor.slotOf seat = some n := held
    have slot : cleared.floor.slots[n] = some sl := slot
    rw [exec_howlClear sending.1 record, raiseHowlClear_delegate cls record]
    refine ⟨fun other => congrArg _ (howlClearSlot_other held slot other), fun locked free => ?_, fun locked hold => ?_⟩
    · obtain ⟨frame, told⟩ := howlClearSlot_open held slot locked free
      rw [show blankingRestarted cleared seat = _ from blankingRestarted_put _] at frame
      have told := told.after (s := s) rfl
      have seats := congrArg State.seats frame
      have floor := congrArg State.floor frame
      refine ⟨_, rfl, ?_, told.linkFrame q, seats, floor, told.posts q⟩
      rw [seats, floor]
      exact frame
    · obtain ⟨frame, told⟩ := howlClearSlot_muted held slot locked hold
      have told := told.after (s := s) rfl
      have seats := congrArg State.seats frame
      have floor := congrArg State.floor frame
      refine ⟨_, rfl, ?_, seats, floor, told.posts q⟩
      rw [seats, floor]
      exact frame
  · rw [exec_howl running record, exec_howlClear running record]
    obtain ⟨howl, clear⟩ := raiseHowl_idle record idle
    exact ⟨congrArg _ howl, congrArg _ clear⟩
  case report =>
    intro phase now record' limit taken
    have read : howlPhase s seat = phase := by
      obtain nowhere | ⟨n, held⟩ := Option.eq_none_or_eq_some (s.floor.slotOf seat)
      · simp only [phase, nowhere]
        exact howlPhase_noSlot nowhere
      · obtain ⟨sl, slot, -⟩ := slotOf_some held
        simp only [phase, held, slot]
        exact howlPhase_slot held slot
    have whole : r.withPhase (howlPhase s seat) = now := congrArg r.withPhase read
    have there : (record' now).seats[seat] = some now := put_getElem_self _ _ _
    have off (h : phase = .off) := takeHowl_off record whole level (read.trans h)
    have live (h : phase = .live) : taken = _ := takeHowl_live record whole level (read.trans h)
    have locked (h : phase = .lockedSoft) : taken = _ :=
      (takeHowl_lockedSoft record whole level (read.trans h)).trans (takeLockedSoft_eq now level)
    have howl : exec (.howl seat) (record' now) = .next (raiseHowl seat (record' now)) := exec_howl running there
    have howlClear : exec (.howlClear seat) (record' now) = .next (raiseHowlClear seat (record' now)) :=
      exec_howlClear running there
    refine ⟨off, fun h blanked => (live h).trans (takeLive_blanked now level blanked), fun h heard low => ?_,
      fun h heard loud few => ?_, fun h heard loud last => ?_, fun h loud => ?_, fun h low few => ?_, fun h low last => ?_⟩
    · rw [live h, takeLive_heard now level heard, if_pos low]
    · rw [live h, takeLive_heard now level heard, if_neg (not_lt.2 loud), if_pos few]
    · rw [howl, live h, takeLive_heard now level heard, if_neg (not_lt.2 loud), if_neg (not_lt.2 last)]
    · rw [locked h, if_pos loud]
    · rw [locked h, if_neg (not_lt.2 low), if_pos few]
    · rw [howlClear, locked h, if_neg (not_lt.2 low), if_neg (not_lt.2 last)]

end Sys2Proof.Machine
end

section
namespace Sys2Proof.Machine
variable {s t u : State} {seat : Seat} {r : SeatRecord} {n : SlotNo} {rest : List SlotNo} {sl : Slot} {e : QueueEntry}

/-! ### The seat records do not reach the link, the queue and the closing of slots -/

section SetSeats
variable (v : Vector (Option SeatRecord) 512)

theorem setSeats_ite (c : Prop) [Decidable c] (s t : State) :
    (if c then s else t).setSeats v = if c then s.setSeats v else t.setSeats v := apply_ite (State.setSeats · v) _ _ _

theorem post_setSeats (b : NoticeBody) (s : State) : post b (s.setSeats v) = (post b s).setSeats v := rfl

theorem noteOwners_setSeats (o : OwnerBits) (s : State) : noteOwners o (s.setSeats v) = (noteOwners o s).setSeats v := by
  unfold noteOwners; rw [setSeats_ite]; rfl

theorem setEntries_setSeats (es : List QueueEntry) (s : State) : setEntries es (s.setSeats v) = (setEntries es s).setSeats v :=
  noteOwners_setSeats v (ownerBits s) (s.setQueue { s.queue with entries := es })

theorem takeOut_setSeats (seat : Seat) (l : LeaveReason) (s : State) :
    takeOut seat l (s.setSeats v) = (takeOut seat l s).setSeats v := by
  unfold takeOut
  rw [State.setSeats_queue]
  split
  · rfl
  · rw [setEntries_setSeats, post_setSeats]

theorem setList_setSeats (l : ListState) (k : Option Nat) (s : State) : setList l k (s.setSeats v) = (setList l k s).setSeats v :=
  noteOwners_setSeats v (ownerBits s) (s.setQueue { s.queue with list := l, drainLimit := k, skips := 0 })

theorem skipEntry_setSeats (s : State) (e : QueueEntry) : skipEntry (s.setSeats v) e = (skipEntry s e).setSeats v := by
  unfold skipEntry
  rw [takeOut_setSeats]
  rfl

theorem endDrain_setSeats (s : State) : endDrain (s.setSeats v) = (endDrain s).setSeats v := by
  have skipped : s.queue.entries.foldl skipEntry (s.setSeats v) = (s.queue.entries.foldl skipEntry s).setSeats v :=
    (List.foldl_hom (State.setSeats · v) fun u e => skipEntry_setSeats v u e)
  unfold endDrain
  dsimp only
  rw [State.setSeats_queue, skipped, post_setSeats, setList_setSeats]
  rfl

theorem drainEndTest_setSeats (s : State) : drainEndTest (s.setSeats v) = (drainEndTest s).setSeats v := by
  unfold drainEndTest
  rw [endDrain_setSeats, setSeats_ite]
  rfl

theorem closeSlot_setSeats (n : SlotNo) (c : CloseReason) (s : State) :
    closeSlot n c (s.setSeats v) = (closeSlot n c s).setSeats v := by
  obtain free | ⟨sl, slot⟩ := Option.eq_none_or_eq_some s.floor.slots[n]
  · rw [closeSlot_none c free, closeSlot_none (s := s.setSeats v) c free]
  · let closed := post (.floorClosed n sl.seat c sl.origin sl.elapsed) (s.setFloor (floorClosing n s.floor))
    rw [closeSlot_some c slot, closeSlot_some (s := s.setSeats v) c slot]
    exact drainEndTest_setSeats v (closed.setQueue { closed.queue with entries := closed.queue.entries.map (hearEntry sl.seat) })

end SetSeats

/-! ### An entry taken out of the queue (R70) -/

/-- The entry of a seat, found by equality of its seat. -/
theorem entryOf_eq (q : RequestQueue) (seat : Seat) : q.entryOf seat = q.entries.find? fun e => e.seat = seat :=
  congrArg (q.entries.find? ·) (funext fun _ => beq_eq_decide _ _)

theorem entryOf_mem (apart : (s.queue.entries.map (·.seat)).Nodup) (he : e ∈ s.queue.entries) (same : e.seat = seat) :
    s.queue.entryOf seat = some e := by
  cases found : s.queue.entryOf seat with
  | none => exact absurd same (by simpa using List.find?_eq_none.1 found e he)
  | some d =>
    have there : d.seat = seat := by simpa using List.find?_some found
    rw [List.inj_on_of_nodup_map apart (List.mem_of_find?_eq_some found) he (there.trans same.symm)]

theorem takeOut_takenOut (apart : (s.queue.entries.map (·.seat)).Nodup) (he : e ∈ s.queue.entries) (same : e.seat = seat)
    (l : LeaveReason) : takeOut seat l s = takenOut e l s := by
  simp only [takeOut, entryOf_mem apart he same, takenOut, dropEntry_eq_filter apart, RequestQueue.placeOf, same]

/-- The removal of a seat's entry, where it has one. -/
theorem takeOut_eq (apart : (s.queue.entries.map (·.seat)).Nodup) (seat : Seat) (l : LeaveReason) : takeOut seat l s =
    (s.queue.entries.find? fun e => e.seat = seat).toList.foldl (fun u e => takenOut e l u) s := by
  rw [← entryOf_eq]
  cases found : s.queue.entryOf seat with
  | none => exact takeOut_none found l
  | some e => exact takeOut_takenOut apart (List.mem_of_find?_eq_some found) (by simpa using List.find?_some found) l

theorem hasEntry_eq_false (unqueued : ∀ e ∈ s.queue.entries, e.seat ≠ seat) : hasEntry s seat = false := by
  rw [hasEntry, entryOf_none unqueued]
  rfl

theorem inForce_congr (profiles : t.profiles = s.profiles) : inForce t = inForce s := by simp only [inForce, profiles]

/-! ### A slot opened by a press or by voice (R81) -/

/-- A seat holds no slot. -/
theorem slotOf_none_iff (f : Floor) (seat : Seat) :
    f.slotOf seat = none ↔ ∀ (m : SlotNo) (sl : Slot), f.slots[m] = some sl → sl.seat ≠ seat := by
  refine ⟨fun nowhere _ _ => slotOf_none nowhere, fun free => List.find?_eq_none.2 fun m _ => ?_⟩
  simpa [Option.any_eq_true] using free m

/-- The record of a slot opened now by the seat itself, with no drain grant. -/
abbrev speechNow (s : State) (seat : Seat) (o : Origin) : Slot := ⟨seat, .open, o, false, s.link.clock, 0, none, false, 0, false⟩

theorem newSlot_own {o : Origin} (own : o ≠ .queue ∧ o ≠ .next) (s : State) (seat : Seat) :
    newSlot s seat o false = speechNow s seat o := by
  simp [newSlot, own]

theorem occupy_own {o : Origin} (own : o ≠ .queue ∧ o ≠ .next) (n : SlotNo) (rest : List SlotNo) (seat : Seat) (s : State) :
    occupy n rest seat o false s = post (.floorOpened n seat o false false s.link.clock) { s with
      seats := blankingRestarted s seat, floor := floorOpening n rest (speechNow s seat o) s.floor } := by
  simp only [occupy, newSlot_own own, restartBlanking_eq]
  rfl

theorem openSlot_unqueued (o : Origin) (free : s.floor.free = n :: rest) (unqueued : ∀ e ∈ s.queue.entries, e.seat ≠ seat) :
    openSlot seat o false s = occupy n rest seat o false s := by
  simp [openSlot, free, hasEntry_eq_false unqueued]

/-- A seat with no entry opens the slot at the head of the free-slot order. -/
theorem openSlot_own {o : Origin} (own : o ≠ .queue ∧ o ≠ .next) (free : s.floor.free = n :: rest)
    (unqueued : ∀ e ∈ s.queue.entries, e.seat ≠ seat) : let t := openSlot seat o false s
    t = { s with link := t.link, seats := blankingRestarted s seat
                 floor := floorOpening n rest (speechNow s seat o) s.floor } ∧
      Tells s t [.floorOpened n seat o false false s.link.clock] := by
  dsimp only
  rw [openSlot_unqueued o free unqueued, occupy_own own]
  exact ⟨rfl, (post_tells _ _).after rfl⟩

/-- A seat that waits is taken off the queue first; the drain end test of that comes after the opening (R70, R150). -/
theorem openSlot_waiting (o : Origin) (free : s.floor.free = n :: rest)
    (waits : ∃ e ∈ s.queue.entries, e.seat = seat) :
    openSlot seat o false s = drainEndTest (occupy n rest seat o false (takeOut seat .granted s)) := by
  simp only [openSlot, free, (hasEntry_iff s seat).2 waits, if_true]

/-! ### Voice at the floor (R48, R49, R88) -/

theorem exec_voiceStart (running : s.resetHeld = false) (record : s.seats[seat] = some r) :
    exec (.voiceStart seat) s = .next (if r.voiced then s else becomeVoiced seat s) := by
  simp only [exec, execVoiceStart, whileRunning_running running, record]

theorem exec_silence (running : s.resetHeld = false) (record : s.seats[seat] = some r) :
    exec (.silence seat) s = .next (if r.voiced then becomeQuiet seat s else s) := by
  simp only [exec, execSilence, whileRunning_running running, record]

theorem exec_voice_none (running : s.resetHeld = false) (fresh : s.seats[seat] = none) :
    exec (.voiceStart seat) s = .next s ∧ exec (.silence seat) s = .next s := by
  simp only [exec, execVoiceStart, execSilence, whileRunning_running running, fresh, and_self]

/-- The record of a seat that begins to speak. -/
abbrev SeatRecord.heardNow (r : SeatRecord) : SeatRecord := { r with voiced := true, attackRun := 0, quietCount := 0 }

/-- The record of a seat that falls silent. -/
abbrev SeatRecord.fallen (r : SeatRecord) : SeatRecord := { r with voiced := false, quietCount := 0 }

section Record
variable (record : s.seats[seat] = some r)
include record

theorem becomeVoiced_delegate (cls : s.plan[seat].cls = .delegate) :
    becomeVoiced seat s = voiceStartEvent seat (s.setSeats (put s.seats seat (some r.heardNow))) := by
  simp only [becomeVoiced, classOf, cls, mapSeat_some record, if_true]

theorem becomeVoiced_other (cls : s.plan[seat].cls ≠ .delegate) :
    becomeVoiced seat s = s.setSeats (put s.seats seat (some r.heardNow)) := by
  simp only [becomeVoiced, classOf, cls, mapSeat_some record, if_false]

theorem becomeQuiet_delegate (cls : s.plan[seat].cls = .delegate) :
    becomeQuiet seat s = silenceEvent seat (s.setSeats (put s.seats seat (some r.fallen))) := by
  simp only [becomeQuiet, classOf, cls, mapSeat_some record, if_true]

theorem becomeQuiet_other (cls : s.plan[seat].cls ≠ .delegate) :
    becomeQuiet seat s = s.setSeats (put s.seats seat (some r.fallen)) := by
  simp only [becomeQuiet, classOf, cls, mapSeat_some record, if_false]

end Record

/-- A seat that begins to speak is opened (R88). -/
def VoiceOpens (s : State) (seat : Seat) : Prop :=
  (inForce s).mode = .voice ∧ s.plan[seat].voice = true ∧
    (∀ (m : SlotNo) (sl : Slot), s.floor.slots[m] = some sl → sl.seat ≠ seat) ∧ s.floor.locked[seat] = false ∧
    isMasked s seat = false ∧ s.floor.occupied < (inForce s).speakerLimit ∧ holdCount s = 0

theorem voiceStartEvent_eq (seat : Seat) (s : State) :
    (VoiceOpens s seat → voiceStartEvent seat s = openSlot seat .voice false s) ∧
      (¬VoiceOpens s seat → voiceStartEvent seat s = s) := by
  have tests : ((inForce s).mode == .voice && s.plan[seat].voice && (s.floor.slotOf seat).isNone && !isLocked s seat
      && !isMasked s seat && freeSlotExists s && holdCount s == 0) = true ↔ VoiceOpens s seat := by
    simp only [VoiceOpens, ← slotOf_none_iff, isLocked, freeSlotExists, Bool.and_eq_true, beq_iff_eq, Bool.not_eq_true',
      decide_eq_true_eq, Option.isNone_iff_eq_none, and_assoc]
  exact ⟨fun opens => if_pos (tests.2 opens), fun stays => if_neg (mt tests.1 stays)⟩

/-- The slot of a seat is closed by its silence when voice opened it (R88). -/
theorem silenceEvent_voice (held : s.floor.slotOf seat = some n) (slot : s.floor.slots[n] = some sl) (voice : sl.origin = .voice) :
    silenceEvent seat s = advanceCheck (closeSlot n .silence s) := by
  simp only [silenceEvent, held, slot, voice, if_true, closeSeat_some held]

theorem silenceEvent_other (other : ∀ (m : SlotNo) (sl : Slot), s.floor.slotOf seat = some m → s.floor.slots[m] = some sl →
    sl.origin ≠ .voice) : silenceEvent seat s = s := by
  unfold silenceEvent
  split
  · rfl
  · next n held =>
    split
    · next sl slot => exact if_neg (other n sl held slot)
    · rfl

/-! ### The level of a report (R47, R48) -/

theorem takeVoice_eq (record : s.seats[seat] = some r) (level : Nat) : takeVoice seat level s =
    if 16 + 4 * (inForce s).voiceStep ≤ level then
      if r.voiced then s.setSeats (put s.seats seat (some { r with quietCount := 0 }))
      else if (inForce s).voiceAttack ≤ r.attackRun + 1 then becomeVoiced seat s
      else s.setSeats (put s.seats seat (some { r with attackRun := r.attackRun + 1 }))
    else if r.voiced then s
    else s.setSeats (put s.seats seat (some { r with attackRun := 0 })) := by
  simp only [takeVoice, record, mapSeat_some record, Profile.voiceThreshold]

/-- What VOICE START of a seat that is opened comes to: its entry out of the queue, its slot, the notices (R70, R81, R88). -/
theorem voiceStart_opens (law : QueueLaw s) (n : SlotNo) (rest : List SlotNo) :
    let v := put s.seats seat (some r.heardNow)
    let out := (s.queue.entries.find? fun e => e.seat = seat).toList.foldl (fun u e => takenOut e .granted u) s
    let opened := post (.floorOpened n seat .voice false false s.link.clock) { out with
      seats := put s.seats seat
        (some { r.heardNow with blanking := (inForce s).blankCount, howlRun := 0, releaseRun := 0 })
      floor := floorOpening n rest (speechNow s seat .voice) s.floor }
    occupy n rest seat .voice false (takeOut seat .granted (s.setSeats v)) = opened ∧
      opened = { s with link := opened.link, seats := opened.seats
                        queue := { s.queue with entries := s.queue.entries.filter (fun e => e.seat ≠ seat) }
                        floor := opened.floor } ∧
      Tells s opened (((s.queue.entries.find? fun e => e.seat = seat).toList.map fun e =>
          .queueLeft seat e.kind .granted (s.queue.entries.findIdx fun x => x.seat == seat))
        ++ [.floorOpened n seat .voice false false s.link.clock]) := by
  intro v out opened
  have apart := law.2.1
  have outEq : takeOut seat .granted s = out := takeOut_eq apart seat .granted
  have left : Tells s out _ := outEq ▸ takeOut_tells seat .granted s
  obtain ⟨keeps, seats, floor⟩ : KeepsTrunks s out ∧ out.seats = s.seats ∧ out.floor = s.floor := outEq ▸ takeOut_keeps seat .granted s
  have clock : out.link.clock = s.link.clock := left.path.clock
  obtain ⟨⟨-, -, -, -, -, -, profiles⟩, -⟩ := id keeps
  have profile : inForce out = inForce s := inForce_congr profiles
  have speech : speechNow (out.setSeats v) seat .voice = speechNow s seat .voice :=
    congrArg (fun c : Clock => (⟨seat, .open, .voice, false, c, 0, none, false, 0, false⟩ : Slot)) clock
  have queue : out.queue = { s.queue with entries := s.queue.entries.filter (fun e => e.seat ≠ seat) } := by
    rw [← outEq, takeOut_queue, dropEntry_eq_filter apart]
  have blanking : blankingRestarted (out.setSeats v) seat =
      put s.seats seat (some { r.heardNow with blanking := (inForce s).blankCount, howlRun := 0, releaseRun := 0 }) := by
    have rewrite := blankingRestarted_put (s := out) (seat := seat) r.heardNow
    rw [profile, seats] at rewrite
    exact rewrite
  refine ⟨?_, ?_, ?_⟩
  · rw [takeOut_setSeats, outEq, occupy_own (by decide), blanking, speech, State.setSeats_floor, State.setSeats_link, floor, clock]
    rfl
  · have whole : out = { s with link := out.link, queue := out.queue } := by
      have frame := eq_with_queue_floor keeps seats
      rwa [floor] at frame
    rw [queue] at whole
    conv_lhs => rw [show opened = { out with link := opened.link, seats := opened.seats, floor := opened.floor } from rfl, whole]
  · rw [entryOf_eq] at left
    exact left.trans ((post_tells _ _).after rfl)

/-- Settles O29: VOICE START by whether the seat is opened, SILENCE by whether voice opened its slot, and a report by its level. -/
theorem voiceOpensAndSilenceCloses : Obligations.VoiceOpensAndSilenceCloses := by
  refine ⟨fun seat r s sending record quiet cls => ?start, fun seat s running => ⟨exec_voice_none running, fun r record => ?others⟩,
    fun seat r s sending record voiced cls => ?silence, fun seat r level s running record => ?level⟩
  case start =>
    intro heard opens
    let voiced := s.setSeats (put s.seats seat (some heard))
    have eq : exec (.voiceStart seat) s = .next (voiceStartEvent seat voiced) := by
      rw [exec_voiceStart sending.1 record, quiet, if_neg Bool.false_ne_true, becomeVoiced_delegate record cls]
    obtain ⟨opening, staying⟩ := voiceStartEvent_eq seat voiced
    refine ⟨fun stays => eq.trans (congrArg _ (staying stays)), fun may law n rest free => ?_⟩
    rw [eq, opening may]
    obtain ⟨occupied, frame, told⟩ := voiceStart_opens (r := r) (seat := seat) law n rest
    intro out opened
    have waiting (waits : ∃ e ∈ s.queue.entries, e.seat = seat) : openSlot seat .voice false voiced = drainEndTest opened :=
      (openSlot_waiting (s := voiced) .voice free waits).trans (congrArg _ occupied)
    refine ⟨fun waits => congrArg _ (waiting waits), fun way => congrArg _ ?_, frame, rfl, rfl, told.linkFrame sending.queues,
      told.posts sending.queues⟩
    by_cases waits : ∃ e ∈ s.queue.entries, e.seat = seat
    · have list : opened.queue.list = .open := by
        rw [show opened.queue = _ from congrArg State.queue frame]
        exact way.resolve_left fun unqueued => waits.elim fun e ⟨he, same⟩ => unqueued e he same
      rw [waiting waits, drainEndTest_open list]
    · have unqueued : ∀ e ∈ s.queue.entries, e.seat ≠ seat := fun e he same => waits ⟨e, he, same⟩
      have kept : takeOut seat .granted voiced = voiced := takeOut_none (s := voiced) (entryOf_none unqueued) .granted
      rw [openSlot_unqueued (s := voiced) .voice free unqueued]
      exact (congrArg _ kept.symm).trans occupied
  case others =>
    refine ⟨fun voiced => ?_, fun quiet => ?_, fun cls => ⟨fun quiet => ?_, fun voiced => ?_⟩⟩
    · rw [exec_voiceStart running record, if_pos voiced]
    · rw [exec_silence running record, if_neg (by simp [quiet])]
    · rw [exec_voiceStart running record, if_neg (by simp [quiet]), becomeVoiced_other record cls]
    · rw [exec_silence running record, if_pos voiced, becomeQuiet_other record cls]
  case silence =>
    intro fell
    have q := sending.queues
    have eq : exec (.silence seat) s = .next (silenceEvent seat fell) := by
      rw [exec_silence sending.1 record, if_pos voiced, becomeQuiet_delegate record cls]
    rw [eq]
    refine ⟨fun other => congrArg _ (silenceEvent_other fun m sl held slot => ?_), fun n sl held slot voice => ⟨?_, fun still => ?_⟩⟩
    · exact other m sl slot (slotOf_seat (s := s) held slot)
    · exact congrArg _ (silenceEvent_voice (s := fell) held slot voice)
    · obtain ⟨frame, told⟩ := closeSlot_noAdvance (s := fell) held slot still .silence
      rw [← silenceEvent_voice (s := fell) held slot voice, voice] at told
      rw [← silenceEvent_voice (s := fell) held slot voice] at frame
      have told := told.after (s := s) rfl
      have floor := congrArg State.floor frame
      have queue := congrArg State.queue frame
      refine ⟨_, rfl, ?_, told.linkFrame q, congrArg RequestQueue.entries queue, floor, told.posts q⟩
      rw [floor, queue]
      exact frame
  case level =>
    intro threshold attack record'
    rw [takeVoice_eq record]
    refine ⟨fun loud voiced => ?_, fun loud quiet few => ?_, fun loud quiet last => ?_, fun low voiced => ?_, fun low quiet => ?_⟩
    · rw [if_pos loud, if_pos voiced]
    · rw [if_pos loud, if_neg (by simp [quiet]), if_neg (not_le.2 few)]
    · rw [if_pos loud, if_neg (by simp [quiet]), if_pos last, exec_voiceStart running record, if_neg (by simp [quiet])]
    · rw [if_neg (not_le.2 low), if_pos voiced]
    · rw [if_neg (not_le.2 low), if_neg (by simp [quiet])]

end Sys2Proof.Machine
end

section
namespace Sys2Proof.Machine
variable {s t u : State} {seat : Seat} {r : SeatRecord} {n : SlotNo} {rest : List SlotNo} {sl : Slot} {e : QueueEntry}
  {es : List QueueEntry}

theorem refused_of_eq (q : Queues s) {event : SeatEvent} {cause : RefusalCause} (eq : t = refuse seat event cause s) :
    EventRefused s t seat event cause := eq ▸ refuse_refused q seat event cause

/-! ### The two groups of the queue (R59) -/

/-- In a lawful queue the PRIORITY group is what stands before the first ORDINARY entry. -/
theorem groups_eq (sorted : es.Pairwise fun a b => b.kind = .priority → a.kind = .priority) :
    es.takeWhile QueueEntry.isPriority = es.filter (fun x => x.kind = .priority) ∧
      es.dropWhile QueueEntry.isPriority = es.filter fun x => x.kind = .ordinary := by
  induction es with
  | nil => exact ⟨rfl, rfl⟩
  | cons x es ih =>
    obtain ⟨before, sorted⟩ := List.pairwise_cons.1 sorted
    cases kind : x.kind with
    | priority => simp [QueueEntry.isPriority, kind, ih sorted]
    | ordinary =>
      have behind : ∀ y ∈ es, y.kind = .ordinary := fun y hy => by
        cases other : y.kind with
        | ordinary => rfl
        | priority => cases kind.symm.trans (before y hy other)
      have none : es.filter (fun y => y.kind = .priority) = [] :=
        List.filter_eq_nil_iff.2 fun y hy => by simp [behind y hy]
      have all : es.filter (fun y => y.kind = .ordinary) = es :=
        List.filter_eq_self.2 fun y hy => by simp [behind y hy]
      simp [QueueEntry.isPriority, kind, none, all]

/-- The entries ahead of a new entry of a kind, and those behind it. -/
def aheadOf : EntryKind → List QueueEntry → List QueueEntry
  | .ordinary, es => es
  | .priority, es => es.filter fun x => x.kind = .priority

def behindOf : EntryKind → List QueueEntry → List QueueEntry
  | .ordinary, _ => []
  | .priority, es => es.filter fun x => x.kind = .ordinary

theorem joinGroup_eq (sorted : es.Pairwise fun a b => b.kind = .priority → a.kind = .priority) (e : QueueEntry) :
    joinGroup e es = aheadOf e.kind es ++ e :: behindOf e.kind es := by
  unfold joinGroup
  cases e.kind with
  | ordinary => rfl
  | priority => rw [(groups_eq sorted).1, (groups_eq sorted).2]; rfl

theorem aheadOf_subset (kind : EntryKind) (es : List QueueEntry) : aheadOf kind es ⊆ es := by
  cases kind with
  | ordinary => exact List.Subset.refl _
  | priority => exact List.filter_sublist.subset

/-- The place of an entry that joins is the number of entries ahead of it. -/
theorem findIdx_joined {ahead behind : List QueueEntry} (unqueued : ∀ x ∈ ahead, x.seat ≠ seat) (same : e.seat = seat) :
    ((ahead ++ e :: behind).findIdx fun x => x.seat == seat) = ahead.length := by
  rw [List.findIdx_append, if_neg]
  · simp [List.findIdx_cons, same]
  · rw [List.findIdx_lt_length]
    rintro ⟨x, hx, there⟩
    exact unqueued x hx (by simpa using there)

theorem setEntries_eq (es : List QueueEntry) (s : State) :
    setEntries es s = { s with link := (setEntries es s).link, queue := { s.queue with entries := es } } := by
  unfold setEntries noteOwners
  split <;> rfl

/-- A notice posted of a change of the entries. -/
theorem post_setEntries_eq (b : NoticeBody) (es : List QueueEntry) (s : State) : let t := post b (setEntries es s)
    t = { s with link := t.link, queue := { s.queue with entries := es } } ∧ Tells s t [b] := by
  exact ⟨congrArg (State.setLink · (post b (setEntries es s)).link) (setEntries_eq es s),
    (setEntries_tells es s).trans (post_tells b _)⟩

theorem takenOut_eq (e : QueueEntry) (l : LeaveReason) (s : State) : let t := takenOut e l s
    t = { s with link := t.link, queue := { s.queue with entries := s.queue.entries.filter fun x => x.seat ≠ e.seat } } ∧
      Tells s t [.queueLeft e.seat e.kind l (s.queue.entries.findIdx fun x => x.seat == e.seat)] := post_setEntries_eq _ _ s

/-! ### Joining the queue by a press (R63) -/

/-- How an entry made by a press is marked (R58). -/
def pressSource : EntryKind → EntrySource
  | .ordinary => .press
  | .priority => .longPress

theorem enqueuePress_enters (list : s.queue.list = .open) (room : s.queue.entries.length < 128) (kind : EntryKind)
    (event : SeatEvent) : enqueuePress seat kind event s =
      enterQueue ⟨seat, kind, none, false, s.link.clock, pressSource kind⟩ false s := by
  have notFull : s.queue.isFull = false := decide_eq_false (not_le.2 room)
  simp only [enqueuePress, RequestQueue.draining, list, notFull]
  cases kind <;> rfl

/-- A request to join by a press: refused while the list drains or the queue is full, and otherwise the entry at the tail of its
group, an eligible one followed by the advance check (R63, R90). -/
theorem enqueuePress_joins (q : Queues s) (law : QueueLaw s) (unqueued : ∀ x ∈ s.queue.entries, x.seat ≠ seat)
    (kind : EntryKind) (event : SeatEvent) :
    let e : QueueEntry := ⟨seat, kind, none, false, s.link.clock, pressSource kind⟩
    let ahead := aheadOf kind s.queue.entries
    let joined := post (.queueEntered seat kind (pressSource kind) ahead.length none false)
      (setEntries (ahead ++ e :: behindOf kind s.queue.entries) s)
    let t := enqueuePress seat kind event s
    (s.queue.list = .draining → EventRefused s t seat event .draining) ∧
      (s.queue.list = .open → 128 ≤ s.queue.entries.length → EventRefused s t seat event .full) ∧
      (s.queue.list = .open → s.queue.entries.length < 128 →
        t = (if eligibility s e = .eligible then advanceCheck joined else joined) ∧
        joined = { s with link := joined.link, queue := joined.queue } ∧
        Posts s joined [.queueEntered seat kind (pressSource kind) ahead.length none false] ∧ (NoAdvance s → t = joined)) := by
  intro e ahead joined t
  obtain ⟨frame, told⟩ : joined = _ ∧ Tells s joined _ := post_setEntries_eq _ _ s
  refine ⟨fun list => ?_, fun list full => ?_, fun list room => ?_⟩
  · exact refused_of_eq q (if_pos (by simp [RequestQueue.draining, list]))
  · exact refused_of_eq q ((if_neg (by simp [RequestQueue.draining, list])).trans (if_pos (decide_eq_true full)))
  · have place (v : State) (entries : v.queue.entries = ahead ++ e :: behindOf kind s.queue.entries) :
        v.queue.placeOf seat = ahead.length := by
      rw [RequestQueue.placeOf, entries]
      exact findIdx_joined (fun x hx => unqueued x (aheadOf_subset kind _ hx)) rfl
    have group : joinGroup e (dropEntry seat s.queue.entries) = ahead ++ e :: behindOf kind s.queue.entries := by
      rw [dropEntry_eq_filter law.2.1, filter_unqueued unqueued, joinGroup_eq law.2.2.1]
    have may : isEligible joined e = decide (eligibility s e = .eligible) := by
      rw [isEligible, beq_eq_decide, frame]
      rfl
    have eq : t = if eligibility s e = .eligible then advanceCheck joined else joined := by
      have entered : t = enterQueue e false s := enqueuePress_enters list room kind event
      rw [entered, enterQueue, group, place _ (by rw [setEntries_eq])]
      change (if isEligible joined e then advanceCheck joined else joined) = _
      rw [may]
      simp only [decide_eq_true_eq]
    refine ⟨eq, congrArg State.queue frame ▸ frame, told.posts q, fun still => eq.trans ?_⟩
    have noAdvance : NoAdvance joined := by rw [frame]; exact still
    rw [advanceCheck_noAdvance noAdvance, ite_self]

/-! ### A SHORT PRESS, case by case (R84 to R86) -/

/-- A request that can open no slot (R85, R86). -/
theorem queueOrRefuse_eq (seat : Seat) (s : State) :
    ((inForce s).queueWhenFull = true → queueOrRefuse seat s = enqueuePress seat .ordinary .shortPress s) ∧
      ((inForce s).queueWhenFull = false → queueOrRefuse seat s = refuse seat .shortPress .noSlot s) :=
  ⟨fun yes => if_pos yes, fun no => if_neg (by simp [no])⟩

theorem freeSlotExists_iff (s : State) : freeSlotExists s = true ↔ s.floor.occupied < (inForce s).speakerLimit :=
  decide_eq_true_iff

theorem firstEligible_isNone (s : State) :
    (firstEligible s).isNone = true ↔ ∀ e ∈ s.queue.entries, eligibility s e ≠ .eligible := by
  rw [firstEligible_eq, Option.isNone_iff_eq_none, List.find?_eq_none]
  simp only [decide_eq_true_eq, ne_eq]

/-- The press that opens a free slot, unless priority is held (R85, R86). -/
abbrev openUnlessHeld (seat : Seat) (s : State) : State :=
  if 0 < holdCount s then refuse seat .shortPress .priority s else openSlot seat .press false s

theorem requestOpen_eq (seat : Seat) (s : State) :
    (s.floor.occupied < (inForce s).speakerLimit → (∀ e ∈ s.queue.entries, eligibility s e ≠ .eligible) →
      requestOpen seat s = openUnlessHeld seat s) ∧
    (¬s.floor.occupied < (inForce s).speakerLimit ∨ ¬(∀ e ∈ s.queue.entries, eligibility s e ≠ .eligible) →
      requestOpen seat s = queueOrRefuse seat s) := by
  have tests : (freeSlotExists s && (firstEligible s).isNone) = true ↔
      s.floor.occupied < (inForce s).speakerLimit ∧ ∀ e ∈ s.queue.entries, eligibility s e ≠ .eligible := by
    rw [Bool.and_eq_true, freeSlotExists_iff, firstEligible_isNone]
  exact ⟨fun free nobody => if_pos (tests.2 ⟨free, nobody⟩), fun full => if_neg (mt tests.1 (not_and_or.2 full))⟩

theorem requestOverride_free (free : s.floor.occupied < (inForce s).speakerLimit) (seat : Seat) :
    requestOverride seat s = openUnlessHeld seat s := if_pos ((freeSlotExists_iff s).2 free)

theorem requestOverride_guarded (full : ¬s.floor.occupied < (inForce s).speakerLimit) (none : oldestUnguarded s.floor = none)
    (seat : Seat) : requestOverride seat s = queueOrRefuse seat s := by
  rw [requestOverride, if_neg (mt (freeSlotExists_iff s).1 full)]
  simp only [none]

theorem requestOverride_replaces (full : ¬s.floor.occupied < (inForce s).speakerLimit) (oldest : oldestUnguarded s.floor = some n)
    (seat : Seat) : requestOverride seat s =
      if 0 < holdCount s then refuse seat .shortPress .priority s else replaceSpeaker n seat s := by
  rw [requestOverride, if_neg (mt (freeSlotExists_iff s).1 full)]
  simp only [oldest]

theorem shortPress_speaker (held : s.floor.slotOf seat = some n) :
    shortPress seat s = if (inForce s).speakerMayClose then advanceCheck (closeSlot n .seat s) else s := by
  simp only [shortPress, held, Option.isSome_some, if_true, closeSeat_some held]

section Standing
variable (nowhere : s.floor.slotOf seat = none)
include nowhere

theorem shortPress_waiting (waits : ∃ e ∈ s.queue.entries, e.seat = seat) :
    shortPress seat s = drainEndTest (takeOut seat .seat s) := by
  simp [shortPress, nowhere, (hasEntry_iff s seat).2 waits, leaveQueue]

theorem longPress_waiting (mode : (inForce s).mode ≠ .voice) (entry : s.queue.entryOf seat = some e) :
    longPress seat s = promote seat s := by
  simp [longPress, nowhere, mode, entry]

section Unqueued
variable (unqueued : ∀ e ∈ s.queue.entries, e.seat ≠ seat)
include unqueued

theorem shortPress_voice (mode : (inForce s).mode = .voice) : shortPress seat s = s := by
  simp [shortPress, nowhere, hasEntry_eq_false unqueued, mode]

theorem press_locked (mode : (inForce s).mode ≠ .voice) (locked : s.floor.locked[seat] = true) :
    shortPress seat s = refuse seat .shortPress .locked s ∧ longPress seat s = refuse seat .longPress .locked s := by
  have flag : isLocked s seat = true := locked
  simp [shortPress, longPress, nowhere, hasEntry_eq_false unqueued, entryOf_none unqueued, mode, flag]

section Unlocked
variable (mode : (inForce s).mode ≠ .voice) (unlocked : s.floor.locked[seat] = false)
include mode unlocked

theorem press_masked (masked : isMasked s seat = true) :
    shortPress seat s = refuse seat .shortPress .masked s ∧ longPress seat s = refuse seat .longPress .masked s := by
  have flag : isLocked s seat = false := unlocked
  simp [shortPress, longPress, nowhere, hasEntry_eq_false unqueued, entryOf_none unqueued, mode, flag, masked]

theorem longPress_joins (unmasked : isMasked s seat = false) : longPress seat s = enqueuePress seat .priority .longPress s := by
  have flag : isLocked s seat = false := unlocked
  simp [longPress, nowhere, entryOf_none unqueued, mode, flag, unmasked]

end Unlocked

theorem shortPress_requests (unlocked : s.floor.locked[seat] = false) (unmasked : isMasked s seat = false) :
    ((inForce s).mode = .queue → shortPress seat s = enqueuePress seat .ordinary .shortPress s) ∧
      ((inForce s).mode = .open → shortPress seat s = requestOpen seat s) ∧
      ((inForce s).mode = .override → shortPress seat s = requestOverride seat s) := by
  have flag : isLocked s seat = false := unlocked
  refine ⟨fun mode => ?_, fun mode => ?_, fun mode => ?_⟩ <;>
    simp [shortPress, nowhere, hasEntry_eq_false unqueued, mode, flag, unmasked]

end Unqueued
end Standing

theorem longPress_ignored (ignored : (inForce s).mode = .voice ∨ ∃ n, s.floor.slotOf seat = some n) : longPress seat s = s := by
  rcases ignored with mode | ⟨n, held⟩
  · exact if_pos mode
  · simp [longPress, held]

/-- A promotion: the entry goes to the tail of the PRIORITY group (R64). -/
theorem promote_eq (law : QueueLaw s) (he : e ∈ s.queue.entries) (same : e.seat = seat) (kind : e.kind = .ordinary) :
    let others := s.queue.entries.filter fun x => x.seat ≠ seat
    let ahead := others.filter fun x => x.kind = .priority
    let t := promote seat s
    t = { s with link := t.link, queue := { s.queue with entries :=
      ahead ++ { e with kind := .priority } :: others.filter fun x => x.kind = .ordinary } } ∧
      Tells s t [.queuePromoted seat ahead.length] := by
  intro others ahead
  have group : joinGroup { e with kind := .priority } (dropEntry seat s.queue.entries) =
      ahead ++ { e with kind := .priority } :: others.filter fun x => x.kind = .ordinary := by
    rw [dropEntry_eq_filter law.2.1]
    exact joinGroup_eq (law.2.2.1.filter _) { e with kind := .priority }
  have others_apart : ∀ x ∈ ahead, x.seat ≠ seat := fun x hx => by
    simpa using (List.mem_filter.1 (List.mem_of_mem_filter hx)).2
  have place : (setEntries (ahead ++ { e with kind := .priority } :: others.filter fun x => x.kind = .ordinary) s).queue.placeOf seat =
      ahead.length := by
    rw [setEntries_eq]
    exact findIdx_joined others_apart same
  have eq : promote seat s = post (.queuePromoted seat ahead.length)
      (setEntries (ahead ++ { e with kind := .priority } :: others.filter fun x => x.kind = .ordinary) s) := by
    simp only [promote, entryOf_mem law.2.1 he same, kind, reduceCtorEq, if_false, group, place]
  dsimp only
  rw [eq]
  exact post_setEntries_eq _ _ s

theorem promote_priority (law : QueueLaw s) (he : e ∈ s.queue.entries) (same : e.seat = seat) (kind : e.kind = .priority) :
    promote seat s = s := by
  simp only [promote, entryOf_mem law.2.1 he same, kind, if_true]

/-- An override replacement with the list OPEN, up to its advance check: the oldest unprotected speaker makes room (R86). -/
theorem replaced_eq (list : s.queue.list = .open) (slot : s.floor.slots[n] = some sl)
    (unqueued : ∀ e ∈ s.queue.entries, e.seat ≠ seat) : let o := openSlot seat .press false (closeSlot n .replaced s)
    o = { s with link := o.link, seats := blankingRestarted s seat
                 queue := { s.queue with entries := s.queue.entries.map (hearEntry sl.seat) }
                 floor := floorOpening n s.floor.free (speechNow s seat .press) (floorClosing n s.floor) } ∧
      Tells s o [.floorClosed n sl.seat .replaced sl.origin sl.elapsed, .floorOpened n seat .press false false s.link.clock] := by
  obtain ⟨closed, shut⟩ := closeSlot_open list .replaced slot
  have clock : (closeSlot n .replaced s).link.clock = s.link.clock := shut.path.clock
  have speech : speechNow (closeSlot n .replaced s) seat .press = speechNow s seat .press :=
    congrArg (fun c : Clock => (⟨seat, .open, .press, false, c, 0, none, false, 0, false⟩ : Slot)) clock
  have free : (closeSlot n .replaced s).floor.free = n :: s.floor.free := by rw [closed]; rfl
  have still : ∀ e ∈ (closeSlot n .replaced s).queue.entries, e.seat ≠ seat := fun e he => by
    rw [closed] at he
    obtain ⟨x, hx, rfl⟩ := List.mem_map.1 he
    exact (hearEntry_seat sl.seat x).1 ▸ unqueued x hx
  obtain ⟨frame, told⟩ := openSlot_own (o := .press) (by decide) free still
  rw [clock] at told
  refine ⟨?_, shut.trans told⟩
  dsimp only at closed frame ⊢
  rw [speech] at frame
  exact frame.trans (congrArg (fun c : State => { c with
    link := (openSlot seat .press false (closeSlot n .replaced s)).link, seats := blankingRestarted c seat
    floor := floorOpening n s.floor.free (speechNow s seat .press) c.floor }) closed)

/-! ### The REQUEST button (R43, R44) -/

/-- The press duration, by the numbers of the two clocks (R44). -/
theorem pressDuration_eq (now start : Clock) :
    pressDuration now start = min ((2 ^ 32 + now.toNat - start.toNat) % 2 ^ 32) 255 := by
  rw [pressDuration, BitVec.toNat_sub]
  congr 2
  have := start.isLt
  omega

section Request
variable (record : s.seats[seat] = some r)
include record

theorem takeRequest_still {down : Bool} {b : ButtonState} (edge : buttonEdge r.request down = (.none, b)) :
    takeRequest seat down s = s.setSeats (put s.seats seat (some { r with request := b })) := by
  simp only [takeRequest, record, edge, mapSeat_some record]

theorem takeRequest_pressed (up : r.request = .up) : takeRequest seat true s =
    s.setSeats (put s.seats seat (some { r with request := .down, pressStart := some s.link.clock })) := by
  simp only [takeRequest, record, up, buttonEdge, mapSeat_some record]

theorem takeRequest_released (down : r.request = .down) {start : Clock} (since : r.pressStart = some start) :
    takeRequest seat false s =
      let released := s.setSeats (put s.seats seat (some { r with request := .up, pressStart := none }))
      if s.plan[seat].cls = .delegate then
        if (inForce s).longPress ≤ min ((2 ^ 32 + s.link.clock.toNat - start.toNat) % 2 ^ 32) 255 then longPress seat released
        else shortPress seat released
      else released := by
  simp only [takeRequest, record, down, buttonEdge, mapSeat_some record, since, Option.getD_some, pressDuration_eq, classOf]

end Request

/-- Settles O32: a press by where its seat stands and the mode in force, and the REQUEST button by its edge. -/
theorem shortPressCases : Obligations.ShortPressCases := by
  refine ⟨fun seat s sending => ?presses, fun seat r down s record => ?button⟩
  case presses =>
    have q : Queues s := .inl sending
    intro joins t u
    refine ⟨fun n held shut => ?_, fun n held may => ?_, fun n sl held slot may still => ?_,
      fun held => longPress_ignored (.inr held), fun mode => longPress_ignored (.inl mode),
      fun nowhere law => ⟨fun e he same => ?waiting, fun unqueued => ?fresh⟩⟩
    · exact (shortPress_speaker held).trans (if_neg (by simp [shut]))
    · exact (shortPress_speaker held).trans (if_pos may)
    · have eq : t = advanceCheck (closeSlot n .seat s) := (shortPress_speaker held).trans (if_pos may)
      obtain ⟨frame, told⟩ := closeSlot_noAdvance held slot still .seat
      rw [← eq] at frame told
      have queue := congrArg State.queue frame
      exact ⟨queue ▸ frame, congrArg RequestQueue.entries queue, told.posts q⟩
    case waiting =>
      have left : takeOut seat .seat s = takenOut e .seat s := takeOut_takenOut law.2.1 he same .seat
      have eq : t = drainEndTest (takenOut e .seat s) := left ▸ shortPress_waiting nowhere ⟨e, he, same⟩
      refine ⟨eq, fun list => ?_, fun kind => ?_, fun kind mode => ?_⟩
      · obtain ⟨frame, told⟩ := takenOut_eq e .seat s
        rw [same] at frame told
        have standing : (takenOut e .seat s).queue.list = .open := (congrArg (fun u : State => u.queue.list) frame).trans list
        rw [← drainEndTest_open standing, ← eq] at frame told
        have queue := congrArg State.queue frame
        exact ⟨queue ▸ frame, congrArg RequestQueue.entries queue, told.posts q⟩
      · by_cases mode : (inForce s).mode = .voice
        · exact longPress_ignored (.inl mode)
        · exact (longPress_waiting nowhere mode (entryOf_mem law.2.1 he same)).trans (promote_priority law he same kind)
      · intro ahead
        obtain ⟨frame, told⟩ := promote_eq law he same kind
        rw [← longPress_waiting nowhere mode (entryOf_mem law.2.1 he same)] at frame told
        exact ⟨frame, told.posts q⟩
    case fresh =>
      refine ⟨shortPress_voice nowhere unqueued, fun mode locked => ?_, fun mode unlocked masked => ?_, fun unlocked unmasked => ?_⟩
      · obtain ⟨short, long⟩ := press_locked nowhere unqueued mode locked
        exact ⟨refused_of_eq q short, refused_of_eq q long⟩
      · obtain ⟨short, long⟩ := press_masked nowhere unqueued mode unlocked masked
        exact ⟨refused_of_eq q short, refused_of_eq q long⟩
      · have join {event : SeatEvent} {kind : EntryKind} {v : State} (eq : v = enqueuePress seat kind event s) :
            joins event kind (pressSource kind) v := by
          rw [eq]
          cases kind <;> exact enqueuePress_joins q law unqueued _ event
        intro free noneEligible speech opens opensFirst waits oldest
        obtain ⟨queueMode, openMode, overrideMode⟩ := shortPress_requests nowhere unqueued unlocked unmasked
        have opening (eq : t = openUnlessHeld seat s) : opens ∧ opensFirst := by
          refine ⟨fun hold => refused_of_eq q (eq.trans (if_pos hold)), fun n rest none first => ?_⟩
          have eq : t = openSlot seat .press false s := eq.trans (if_neg (by simp [none]))
          obtain ⟨frame, told⟩ := openSlot_own (o := .press) (by decide) first unqueued
          rw [← eq] at frame told
          exact ⟨frame, told.linkFrame q, told.posts q⟩
        have waiting (eq : t = queueOrRefuse seat s) : waits :=
          ⟨fun yes => join (eq.trans ((queueOrRefuse_eq seat s).1 yes)),
            fun no => refused_of_eq q (eq.trans ((queueOrRefuse_eq seat s).2 no))⟩
        refine ⟨fun mode => join (longPress_joins nowhere unqueued mode unlocked unmasked), fun mode => join (queueMode mode),
          fun mode => ⟨fun room nobody => ?_, fun full => ?_⟩, fun mode => ⟨fun room => ?_, fun full none => ?_,
            fun n sl full first slot => ?_⟩⟩
        · exact opening ((openMode mode).trans ((requestOpen_eq seat s).1 room nobody))
        · exact waiting ((openMode mode).trans ((requestOpen_eq seat s).2 full))
        · exact opening ((overrideMode mode).trans (requestOverride_free room seat))
        · exact waiting ((overrideMode mode).trans (requestOverride_guarded full none seat))
        · intro o
          have eq := (overrideMode mode).trans (requestOverride_replaces full first seat)
          have replaced (none : holdCount s = 0) : t = advanceCheck o := eq.trans (if_neg (by simp [none]))
          refine ⟨fun hold => refused_of_eq q (eq.trans (if_pos hold)), replaced, fun none list => ?_⟩
          obtain ⟨frame, told⟩ := replaced_eq list slot unqueued
          have queue := congrArg State.queue frame
          refine ⟨fun still => ?_, queue ▸ frame, queue, told.linkFrame q, told.posts q⟩
          have noAdvance : NoAdvance o := by rw [show o = _ from frame]; exact still
          exact (replaced none).trans (advanceCheck_noAdvance noAdvance)
  case button =>
    intro record' t
    refine ⟨fun up pressed => ?_, fun held pressed => ?_, fun up released => ?_, fun stale released => ?_,
      fun start was released since => ?_⟩
    · exact (congrArg (takeRequest seat · s) pressed).trans (takeRequest_pressed record up)
    · exact (takeRequest_still (b := r.request) record (by rw [pressed, buttonEdge_held held])).trans (record_same record)
    · exact (takeRequest_still (b := r.request) record (by rw [released, up]; rfl)).trans (record_same record)
    · exact takeRequest_still record (by rw [released, stale]; rfl)
    · intro out duration
      have eq : t = _ := released ▸ takeRequest_released record was since
      exact ⟨fun other => eq.trans (if_neg other), fun delegate long => eq.trans ((if_pos delegate).trans (if_pos long)),
        fun delegate short => eq.trans ((if_pos delegate).trans (if_neg (not_le.2 short)))⟩

end Sys2Proof.Machine
end

section
namespace Sys2Proof.Machine
variable {s t u : State} {seat x y : Seat} {r : SeatRecord} {n : SlotNo} {sl : Slot} {l d : List Seat}

/-! ### Seat records rewritten at once, by a rule that the blanking does not see -/

/-- A table of seat records. -/
abbrev SeatTable : Type := Vector (Option SeatRecord) 512

/-- `T` rewrites each seat record of a table by the rule of its seat. -/
def Rewrites (G : Seat → SeatRecord → SeatRecord) (T : SeatTable → SeatTable) : Prop :=
  ∀ (v : SeatTable) (x : Seat), (T v)[x] = (v[x]).map (G x)

theorem exists_rewrites (G : Seat → SeatRecord → SeatRecord) : ∃ T, Rewrites G T :=
  ⟨fun v => Vector.ofFn fun x : Seat => (v[x]).map (G x), fun v x => by simp⟩

/-- The seat records of the part rewritten at once. -/
def mapSeats (T : SeatTable → SeatTable) (s : State) : State := s.setSeats (T s.seats)

/-- A record whose microphone is made live (R51). -/
abbrev SeatRecord.blanked (r : SeatRecord) (count : Nat) : SeatRecord := { r with blanking := count, howlRun := 0, releaseRun := 0 }

theorem mapSeat_seats (seat : Seat) (g : SeatRecord → SeatRecord) (s : State) (x : Seat) :
    (mapSeat seat g s).seats[x] = if x = seat then (s.seats[x]).map g else s.seats[x] := by
  rw [mapSeat, State.setSeats_seats, put_getElem]
  split
  · next same => rw [same]
  · rfl

/-- States that differ in their seat records alone, and agree there seat by seat. -/
theorem setSeats_ext {v w : Vector (Option SeatRecord) 512} (same : ∀ x : Seat, v[x] = w[x]) : s.setSeats v = s.setSeats w :=
  congrArg s.setSeats (Vector.ext fun i hi => same ⟨i, hi⟩)

theorem mapSeat_mapSeats {T : SeatTable → SeatTable} {G : Seat → SeatRecord → SeatRecord} (rewrites : Rewrites G T)
    {g : SeatRecord → SeatRecord} (commute : ∀ r, g (G seat r) = G seat (g r)) (s : State) :
    mapSeat seat g (mapSeats T s) = mapSeats T (mapSeat seat g s) := by
  refine setSeats_ext (s := s) fun x => ?_
  have left := mapSeat_seats seat g (mapSeats T s) x
  have right := rewrites (mapSeat seat g s).seats x
  rw [mapSeat_seats] at right
  refine left.trans (Eq.trans ?_ right.symm)
  rw [mapSeats, State.setSeats_seats, rewrites]
  split
  · next same =>
    subst same
    cases s.seats[x] with
    | none => rfl
    | some r => exact congrArg some (commute r)
  · rfl

theorem takeOut_mapSeats (T : SeatTable → SeatTable) (seat : Seat) (l : LeaveReason) (s : State) :
    takeOut seat l (mapSeats T s) = mapSeats T (takeOut seat l s) := by
  rw [mapSeats, mapSeats, takeOut_setSeats, (takeOut_keeps seat l s).2.1]

theorem drainEndTest_mapSeats (T : SeatTable → SeatTable) (s : State) : drainEndTest (mapSeats T s) = mapSeats T (drainEndTest s) := by
  rw [mapSeats, mapSeats, drainEndTest_setSeats, (drainEndTest_keeps s).2.1]

section Commutes
variable {T : SeatTable → SeatTable} {G : Seat → SeatRecord → SeatRecord} (rewrites : Rewrites G T)
  (commute : ∀ x r k, G x (r.blanked k) = (G x r).blanked k)
include rewrites commute

theorem restartBlanking_mapSeats (seat : Seat) (s : State) :
    restartBlanking seat (mapSeats T s) = mapSeats T (restartBlanking seat s) := by
  rw [restartBlanking_eq, restartBlanking_eq]
  exact mapSeat_mapSeats rewrites (fun r => (commute seat r (inForce s).blankCount).symm) s

theorem occupy_mapSeats (n : SlotNo) (rest : List SlotNo) (seat : Seat) (o : Origin) (g : Bool) (s : State) :
    occupy n rest seat o g (mapSeats T s) = mapSeats T (occupy n rest seat o g s) :=
  congrArg (post (.floorOpened n seat o g (newSlot s seat o g).drainGrant (newSlot s seat o g).grantTime))
    (restartBlanking_mapSeats rewrites commute seat (s.setFloor { s.floor with
      slots := put s.floor.slots n (some (newSlot s seat o g)), free := rest, speakers := s.floor.speakers ++ [n] }))

theorem openSlot_mapSeats (seat : Seat) (o : Origin) (g : Bool) (s : State) :
    openSlot seat o g (mapSeats T s) = mapSeats T (openSlot seat o g s) := by
  unfold openSlot
  rw [show (mapSeats T s).floor = s.floor from rfl, show hasEntry (mapSeats T s) seat = hasEntry s seat from rfl]
  split
  · rfl
  · split
    · rw [takeOut_mapSeats, occupy_mapSeats rewrites commute, drainEndTest_mapSeats]
    · rw [occupy_mapSeats rewrites commute]

theorem advance_mapSeats (k : Nat) (s : State) : advance k (mapSeats T s) = mapSeats T (advance k s) := by
  induction k generalizing s with
  | zero => rfl
  | succ k ih =>
    unfold advance
    rw [show nextToAdvance (mapSeats T s) = nextToAdvance s from rfl]
    split
    · rfl
    · rw [openSlot_mapSeats rewrites commute, ih]

theorem closeSeat_mapSeats (seat : Seat) (c : CloseReason) (s : State) :
    closeSeat seat c (mapSeats T s) = mapSeats T (closeSeat seat c s) := by
  have closed (n : SlotNo) : closeSlot n c (mapSeats T s) = mapSeats T (closeSlot n c s) := by
    rw [mapSeats, mapSeats, closeSlot_setSeats, (closeSlot_keeps n c s).2]
  unfold closeSeat
  rw [show (mapSeats T s).floor = s.floor from rfl]
  split
  · rfl
  · rw [closed, advanceCheck, advance_mapSeats rewrites commute, advanceCheck]

theorem silenceEvent_mapSeats (seat : Seat) (s : State) : silenceEvent seat (mapSeats T s) = mapSeats T (silenceEvent seat s) := by
  unfold silenceEvent
  rw [show (mapSeats T s).floor = s.floor from rfl]
  split
  · rfl
  · split
    · rw [closeSeat_mapSeats rewrites commute]
      exact (apply_ite (mapSeats T) _ _ _).symm
    · rfl

/-- A seat that falls silent does so whatever the records of the others (R49). -/
theorem becomeQuiet_mapSeats (spared : ∀ r, G seat r = r) (s : State) :
    becomeQuiet seat (mapSeats T s) = mapSeats T (becomeQuiet seat s) := by
  have fallen : mapSeat seat (fun r => { r with voiced := false, quietCount := 0 }) (mapSeats T s) = _ :=
    mapSeat_mapSeats rewrites (fun r => by rw [spared, spared]) s
  unfold becomeQuiet
  dsimp only
  rw [fallen, silenceEvent_mapSeats rewrites commute]
  exact (apply_ite (mapSeats T) _ _ _).symm

end Commutes

end Sys2Proof.Machine
end

section
namespace Sys2Proof.Machine
variable {s t u : State} {seat x y : Seat} {r : SeatRecord} {n : SlotNo} {sl : Slot} {l d : List Seat}

/-! ### What the floor does not reach of a seat's record -/

/-- A record but for what an opening restarts (R51). -/
abbrev SeatRecord.followed (r : SeatRecord) : SeatRecord := r.blanked 0

/-- The records of the seats so far as the seat input unit alone writes them. -/
abbrev KeepsFollowed (s t : State) : Prop :=
  t.seats.map (Option.map SeatRecord.followed) = s.seats.map (Option.map SeatRecord.followed)

theorem KeepsFollowed.at (h : KeepsFollowed s t) (x : Seat) :
    (t.seats[x]).map SeatRecord.followed = (s.seats[x]).map SeatRecord.followed := by
  simpa using congrArg (·[x]) h

@[simp] theorem restartBlanking_followed (seat : Seat) (s : State) : KeepsFollowed s (restartBlanking seat s) := by
  rw [restartBlanking_eq]
  refine Vector.ext fun i hi => ?_
  have here := mapSeat_seats seat (·.blanked (inForce s).blankCount) s ⟨i, hi⟩
  simp only [Vector.getElem_map]
  refine (congrArg (Option.map SeatRecord.followed) here).trans ?_
  split
  · rw [Option.map_map]; rfl
  · rfl

@[simp] theorem openSlot_followed (seat : Seat) (o : Origin) (g : Bool) (s : State) : KeepsFollowed s (openSlot seat o g s) := by
  unfold openSlot occupy; (repeat' split) <;> simp [KeepsFollowed]

@[simp] theorem advance_followed (k : Nat) (s : State) : KeepsFollowed s (advance k s) := by
  induction k generalizing s with
  | zero => rfl
  | succ k ih => unfold advance; split <;> simp [KeepsFollowed, ih]

@[simp] theorem silenceEvent_followed (seat : Seat) (s : State) : KeepsFollowed s (silenceEvent seat s) := by
  unfold silenceEvent closeSeat advanceCheck; (repeat' split) <;> simp [KeepsFollowed]

/-- The chair records and the LOCKED flags stand. -/
abbrev KeepsChairsLocked (s t : State) : Prop := t.floor.chairs = s.floor.chairs ∧ t.floor.locked = s.floor.locked

@[simp] theorem openSlot_locked (seat : Seat) (o : Origin) (g : Bool) (s : State) :
    (openSlot seat o g s).floor.locked = s.floor.locked := by
  cases h : s.floor.free with
  | nil => rw [openSlot_of_full _ _ _ h]
  | cons n rest => rw [openSlot_floor _ _ _ h]; rfl

@[simp] theorem advance_locked (k : Nat) (s : State) : (advance k s).floor.locked = s.floor.locked := by
  induction k generalizing s with
  | zero => rfl
  | succ k ih => unfold advance; split <;> simp [ih]

@[simp] theorem closeSlot_locked (n : SlotNo) (c : CloseReason) (s : State) :
    (closeSlot n c s).floor.locked = s.floor.locked := by
  rw [closeSlot_floor]
  split <;> rfl

@[simp] theorem silenceEvent_chairsLocked (seat : Seat) (s : State) : KeepsChairsLocked s (silenceEvent seat s) := by
  unfold silenceEvent closeSeat advanceCheck; (repeat' split) <;> simp [KeepsChairsLocked]

@[simp] theorem quietSeat_chairsLocked (s : State) (seat : Seat) : KeepsChairsLocked s (quietSeat s seat) := by
  unfold quietSeat becomeQuiet mapSeat; (repeat' split) <;> simp [KeepsChairsLocked]

/-! ### One seat at the expiry (R49) -/

/-- The record of a seat after the expiry, under a voice release value (R49). -/
def SeatRecord.expired (release : Nat) (r : SeatRecord) : SeatRecord :=
  if r.voiced = true ∧ release ≤ r.quietCount + 1 then r.fallen else quieter r

theorem SeatRecord.expired_followed (release : Nat) (r : SeatRecord) :
    (r.expired release).followed = r.followed.expired release := by
  unfold SeatRecord.expired quieter
  split
  · rfl
  · split <;> rfl

theorem becomeQuiet_followed (seat : Seat) (s : State) :
    KeepsFollowed (mapSeat seat SeatRecord.fallen s) (becomeQuiet seat s) := by
  unfold becomeQuiet
  dsimp only
  split
  · exact silenceEvent_followed seat _
  · rfl

/-- A seat falls quiet at the expiry. -/
abbrev FallsQuiet (s : State) (x : Seat) : Prop :=
  ∃ r, s.seats[x] = some r ∧ r.voiced = true ∧ (inForce s).voiceRelease ≤ r.quietCount + 1

theorem quietSeat_falls (falls : FallsQuiet s x) : quietSeat s x = becomeQuiet x s := by
  obtain ⟨r, record, voiced, last⟩ := falls
  simp only [quietSeat, record, voiced, last, Bool.not_true, Bool.false_eq_true, if_false, if_true]

theorem quietSeat_stays (stays : ¬FallsQuiet s x) : quietSeat s x = mapSeat x quieter s := by
  obtain fresh | ⟨r, record⟩ := Option.eq_none_or_eq_some s.seats[x]
  · have same : put s.seats x none = s.seats := fresh ▸ put_same _ _
    simp only [quietSeat, mapSeat, fresh, Option.map_none, same]
    rfl
  · cases voiced : r.voiced with
    | false =>
      have same : quieter r = r := if_neg (by simp [voiced])
      rw [mapSeat_some record, same, record_same record]
      simp [quietSeat, record, voiced]
    | true =>
      have few : ¬(inForce s).voiceRelease ≤ r.quietCount + 1 := fun last => stays ⟨r, record, voiced, last⟩
      have more : quieter r = { r with quietCount := r.quietCount + 1 } := if_pos voiced
      rw [mapSeat_some record, more]
      simp only [quietSeat, record, voiced, few, Bool.not_true, Bool.false_eq_true, if_false, mapSeat_some record]

/-- What the expiry makes of the records, so far as the seat input unit alone writes them. -/
theorem quietSeat_followed (s : State) (x y : Seat) : ((quietSeat s x).seats[y]).map SeatRecord.followed =
    if y = x then ((s.seats[y]).map SeatRecord.followed).map (SeatRecord.expired (inForce s).voiceRelease)
    else (s.seats[y]).map SeatRecord.followed := by
  have rewritten (g : SeatRecord → SeatRecord) (rule : ∀ r, s.seats[x] = some r → g r = r.expired (inForce s).voiceRelease) :
      ((mapSeat x g s).seats[y]).map SeatRecord.followed =
        if y = x then ((s.seats[y]).map SeatRecord.followed).map (SeatRecord.expired (inForce s).voiceRelease)
        else (s.seats[y]).map SeatRecord.followed := by
    rw [mapSeat_seats]
    split
    · next same =>
      subst same
      rw [Option.map_map, Option.map_map]
      refine Option.map_congr fun r record => ?_
      rw [Function.comp, Function.comp, rule r record, SeatRecord.expired_followed]
    · rfl
  by_cases falls : FallsQuiet s x
  · rw [quietSeat_falls falls, (becomeQuiet_followed x s).at y]
    obtain ⟨r, record, voiced, last⟩ := falls
    refine rewritten _ fun r' record' => ?_
    rw [← Option.some.inj (record.symm.trans record'), SeatRecord.expired, if_pos ⟨voiced, last⟩]
  · rw [quietSeat_stays falls]
    exact rewritten _ fun r record => (if_neg fun both => falls ⟨r, record, both⟩).symm

theorem quietSeats_profile (l : List Seat) (s : State) : inForce (l.foldl quietSeat s) = inForce s :=
  inForce_congr (foldl_keeps State.profiles quietSeat (by simp) l s)

theorem quietSeats_followed (apart : l.Nodup) (s : State) (y : Seat) : ((l.foldl quietSeat s).seats[y]).map SeatRecord.followed =
    if y ∈ l then ((s.seats[y]).map SeatRecord.followed).map (SeatRecord.expired (inForce s).voiceRelease)
    else (s.seats[y]).map SeatRecord.followed := by
  induction l generalizing s with
  | nil => rfl
  | cons x l ih =>
    obtain ⟨fresh, apart⟩ := List.nodup_cons.1 apart
    rw [List.foldl_cons, ih apart, quietSeat_followed, show inForce (quietSeat s x) = inForce s from quietSeats_profile [x] s]
    by_cases same : y = x
    · simp [same, fresh]
    · simp [same]

/-! ### Seats that do not fall quiet -/

/-- The rule that raises the quiet counts of a list of seats (R49). -/
def quieterOf (l : List Seat) (x : Seat) : SeatRecord → SeatRecord := if x ∈ l then quieter else id

/-- Where none of them falls quiet, the seats have their counts raised and nothing else is done. -/
theorem quietSeats_stay (apart : l.Nodup) (stay : ∀ x ∈ l, ¬FallsQuiet s x) {T : SeatTable → SeatTable}
    (rewrites : Rewrites (quieterOf l) T) : l.foldl quietSeat s = mapSeats T s := by
  induction l generalizing s T with
  | nil =>
    refine (setSeats_ext (s := s) (w := s.seats) fun x => ?_).symm
    simp [rewrites _ x, quieterOf]
  | cons x l ih =>
    obtain ⟨fresh, apart⟩ := List.nodup_cons.1 apart
    obtain ⟨T', rewrites'⟩ := exists_rewrites (quieterOf l)
    have others : ∀ y ∈ l, (mapSeat x quieter s).seats[y] = s.seats[y] := fun y hy => by
      rw [mapSeat_seats, if_neg (by rintro rfl; exact fresh hy)]
    have still : ∀ y ∈ l, ¬FallsQuiet (mapSeat x quieter s) y := fun y hy ⟨r, record, falls⟩ =>
      stay y (List.mem_cons_of_mem x hy) ⟨r, (others y hy).symm.trans record, falls⟩
    rw [List.foldl_cons, quietSeat_stays (stay x List.mem_cons_self), ih apart still rewrites']
    refine setSeats_ext (s := s) fun y => ?_
    rw [rewrites', rewrites, mapSeat_seats]
    by_cases same : y = x
    · simp [quieterOf, same, fresh]
    · simp [quieterOf, same]

theorem quieterOf_blanked (l : List Seat) (x : Seat) (r : SeatRecord) (k : Nat) :
    quieterOf l x (r.blanked k) = (quieterOf l x r).blanked k := by
  unfold quieterOf
  split
  · unfold quieter; split <;> rfl
  · rfl

end Sys2Proof.Machine
end

section
namespace Sys2Proof.Machine
variable {s t u : State} {seat x y : Seat} {r : SeatRecord} {n : SlotNo} {sl : Slot} {l d : List Seat}

/-! ### A seat that falls quiet alone (R49, R88) -/

/-- Around the one seat that falls quiet, the expiry is its silence with the counts of the others raised. -/
theorem quietSeats_alone {before after : List Seat} (apart : (before ++ seat :: after).Nodup) (falls : FallsQuiet s seat)
    (stay : ∀ x ∈ before ++ after, ¬FallsQuiet s x) {T : SeatTable → SeatTable} (rewrites : Rewrites (quieterOf (before ++ after)) T) :
    (before ++ seat :: after).foldl quietSeat s = becomeQuiet seat (mapSeats T s) := by
  obtain ⟨T₁, rewrites₁⟩ := exists_rewrites (quieterOf before)
  obtain ⟨T₂, rewrites₂⟩ := exists_rewrites (quieterOf after)
  obtain ⟨apart₁, apart₂, disjoint⟩ := List.nodup_append.1 apart
  obtain ⟨fresh, apart₂⟩ := List.nodup_cons.1 apart₂
  have first : before.foldl quietSeat s = mapSeats T₁ s :=
    quietSeats_stay apart₁ (fun x hx => stay x (List.mem_append_left _ hx)) rewrites₁
  have kept (x : Seat) (outside : x ∉ before) : (mapSeats T₁ s).seats[x] = s.seats[x] := by
    rw [mapSeats, State.setSeats_seats, rewrites₁, quieterOf, if_neg outside]
    exact congrFun Option.map_id _
  have falls : FallsQuiet (mapSeats T₁ s) seat := by
    obtain ⟨r, record, quiet⟩ := falls
    exact ⟨r, (kept seat fun hx => disjoint seat hx seat List.mem_cons_self rfl).trans record, quiet⟩
  have still : ∀ x ∈ after, ¬FallsQuiet (becomeQuiet seat (mapSeats T₁ s)) x := by
    rintro x hx ⟨r, record, voiced, last⟩
    have other : x ≠ seat := by rintro rfl; exact fresh hx
    have same := (becomeQuiet_followed seat (mapSeats T₁ s)).at x
    rw [record, mapSeat_seats, if_neg other, kept x fun there => disjoint x there x (List.mem_cons_of_mem _ hx) rfl] at same
    obtain ⟨r', record', view⟩ := Option.map_eq_some_iff.1 same.symm
    have profile : inForce (becomeQuiet seat (mapSeats T₁ s)) = inForce s := inForce_congr (by simp [mapSeats])
    rw [profile] at last
    refine stay x (List.mem_append_right _ hx) ⟨r', record', ?_, ?_⟩
    · exact (congrArg SeatRecord.voiced view).trans voiced
    · exact last.trans_eq (congrArg (·.quietCount + 1) view).symm
  have both : mapSeats T₂ (mapSeats T₁ s) = mapSeats T s := setSeats_ext (s := s) fun x => by
    rw [rewrites₂, rewrites, mapSeats, State.setSeats_seats, rewrites₁, Option.map_map]
    refine congrArg (Option.map · _) (funext fun r => ?_)
    by_cases here : x ∈ before
    · have outside : x ∉ after := fun there => disjoint x here x (List.mem_cons_of_mem _ there) rfl
      simp [quieterOf, here, outside]
    · simp [quieterOf, here]
  rw [List.foldl_append, List.foldl_cons, first, quietSeat_falls falls, quietSeats_stay apart₂ still rewrites₂,
    ← becomeQuiet_mapSeats rewrites₂ (quieterOf_blanked after) (fun r => by rw [quieterOf, if_neg fresh]; rfl), both]

/-! ### The slots that silence closes at the expiry, with no advance following -/

/-- The seat falls quiet and its class takes SILENCE to the floor (R49, R88). -/
def fallsAt (s : State) (x : Seat) : Bool := (s.seats[x]).any fun r =>
  r.voiced && decide ((inForce s).voiceRelease ≤ r.quietCount + 1) && decide (s.plan[x].cls = .delegate)

/-- The slot that the silence of a seat closes. -/
def closesAt (s : State) (x : Seat) : Option SlotNo := (s.floor.slotOf x).filter fun n =>
  fallsAt s x && (s.floor.slots[n]).any fun sl => decide (sl.origin = .voice)

theorem fallsAt_iff : fallsAt s x = true ↔ FallsQuiet s x ∧ s.plan[x].cls = .delegate := by
  simp only [fallsAt, Option.any_eq_true, Bool.and_eq_true, decide_eq_true_eq, FallsQuiet, ← exists_and_right, and_assoc]

theorem closesAt_some : closesAt s x = some n ↔
    s.floor.slotOf x = some n ∧ (FallsQuiet s x ∧ s.plan[x].cls = .delegate) ∧ ∃ sl, s.floor.slots[n] = some sl ∧ sl.origin = .voice := by
  simp only [closesAt, Option.filter_eq_some_iff, Bool.and_eq_true, fallsAt_iff, Option.any_eq_true, decide_eq_true_eq]

/-- A seat that closes nothing has its own record rewritten at most. -/
theorem quietSeat_closesNone (none : closesAt s x = none) : ∃ o, quietSeat s x = s.setSeats (put s.seats x o) := by
  by_cases falls : FallsQuiet s x
  · obtain ⟨r, record, -⟩ := id falls
    rw [quietSeat_falls falls]
    by_cases cls : s.plan[x].cls = .delegate
    · refine ⟨some r.fallen, (becomeQuiet_delegate record cls).trans (silenceEvent_other fun m sl held slot voice => ?_)⟩
      exact Option.eq_none_iff_forall_ne_some.1 none m (closesAt_some.2 ⟨held, ⟨falls, cls⟩, sl, slot, voice⟩)
    · exact ⟨some r.fallen, becomeQuiet_other record cls⟩
  · exact ⟨_, quietSeat_stays falls⟩

theorem quietSeat_closesSome (closes : closesAt s x = some n) (still : NoAdvance s) : ∃ sl, s.floor.slots[n] = some sl ∧
    let t := quietSeat s x
    ∃ o, t = { s with link := t.link, seats := put s.seats x o, floor := floorClosing n s.floor
                      queue := { s.queue with entries := s.queue.entries.map (hearEntry x) } } ∧
      Tells s t [.floorClosed n x .silence .voice sl.elapsed] := by
  obtain ⟨held, ⟨falls, cls⟩, sl, slot, voice⟩ := closesAt_some.1 closes
  obtain ⟨r, record, -⟩ := id falls
  let fell := s.setSeats (put s.seats x (some r.fallen))
  have eq : quietSeat s x = advanceCheck (closeSlot n .silence fell) := by
    rw [quietSeat_falls falls, becomeQuiet_delegate record cls]
    exact silenceEvent_voice (s := fell) held slot voice
  obtain ⟨frame, told⟩ := closeSlot_noAdvance (s := fell) held slot still .silence
  rw [← eq] at frame told
  rw [voice] at told
  exact ⟨sl, slot, _, frame, told.after rfl⟩

/-- The notice of the close of a slot by silence. -/
def silenceNotice (s : State) (n : SlotNo) : Option NoticeBody :=
  (s.floor.slots[n]).map fun sl => .floorClosed n sl.seat .silence .voice sl.elapsed

/-- From `s` to `t` the seats of a list have been taken at the expiry: the slots their silence closes, in the order of the list. -/
structure Silenced (s t : State) (l : List Seat) : Prop where
  frame : t = { s with
    link := t.link, seats := t.seats, queue := { s.queue with entries := t.queue.entries }, floor := t.floor }
  records : ∀ x, x ∉ l → t.seats[x] = s.seats[x]
  floor : t.floor = { s.floor with
    slots := t.floor.slots, speakers := s.floor.speakers.filter (fun n => n ∉ l.filterMap (closesAt s))
    free := (l.filterMap (closesAt s)).reverse ++ s.floor.free }
  slots : ∀ n : SlotNo, t.floor.slots[n] = if n ∈ l.filterMap (closesAt s) then none else s.floor.slots[n]
  entries : t.queue.entries = s.queue.entries.map fun e =>
    if e.target.any (fun x => decide (x ∈ l) && (closesAt s x).isSome) then { e with heard := true } else e
  told : Tells s t ((l.filterMap (closesAt s)).filterMap (silenceNotice s))

/-- The stores an operation rewrites, read off its result. -/
theorem eq_with_stores_rewritten {k : Link} {v : SeatTable} {es : List QueueEntry} {f : Floor}
    (frame : t = { u with link := k, seats := v, queue := { u.queue with entries := es }, floor := f }) :
    t = { u with link := t.link, seats := t.seats, queue := { u.queue with entries := t.queue.entries }, floor := t.floor } := by
  subst frame; rfl

theorem silenced_nil (s : State) : Silenced s s [] where
  frame := rfl
  records _ _ := rfl
  floor := by simp
  slots _ := by simp
  entries := by simp
  told := tells_nil rfl

section Step
variable (h : Silenced s u l) (fresh : x ∉ l)
include h fresh

/-- A seat not yet taken holds the slot it held. -/
theorem Silenced.slotOf : u.floor.slotOf x = s.floor.slotOf x := by
  refine congrArg (List.find? · (List.finRange 8)) (funext fun n => ?_)
  rw [h.slots]
  split
  · next closed =>
    obtain ⟨y, hy, closes⟩ := List.mem_filterMap.1 closed
    obtain ⟨a, slot, same⟩ := slotOf_some (closesAt_some.1 closes).1
    have other : y ≠ x := by rintro rfl; exact fresh hy
    simp [slot, same, other]
  · rfl

/-- A seat not yet taken closes what it would have closed at first. -/
theorem Silenced.closes : closesAt u x = closesAt s x := by
  have profile : inForce u = inForce s := inForce_congr (by rw [h.frame])
  have cls : u.plan[x].cls = s.plan[x].cls := by rw [h.frame]
  have standing (n : SlotNo) (held : s.floor.slotOf x = some n) : u.floor.slots[n] = s.floor.slots[n] := by
    rw [h.slots, if_neg]
    intro closed
    obtain ⟨y, hy, closes⟩ := List.mem_filterMap.1 closed
    obtain ⟨a, slot, same⟩ := slotOf_some (closesAt_some.1 closes).1
    have there : a.seat = x := slotOf_seat (s := s) held slot
    exact fresh (same.symm.trans there ▸ hy)
  refine Option.ext fun n => ?_
  rw [closesAt_some, closesAt_some, h.slotOf fresh]
  refine and_congr_right fun held => ?_
  simp only [FallsQuiet, h.records x fresh, profile, cls, standing n held]

/-- The next seat of the expiry is taken (R49, R88). -/
theorem Silenced.next (still : NoAdvance s) (speakers : s.floor.speakers.Nodup) : Silenced s (quietSeat u x) (l ++ [x]) := by
  have mine (y : Seat) (outside : y ∉ l ++ [x]) : y ∉ l ∧ y ≠ x := by simpa using outside
  obtain none | ⟨n, closes⟩ := Option.eq_none_or_eq_some (closesAt s x)
  · have same : (l ++ [x]).filterMap (closesAt s) = l.filterMap (closesAt s) := by
      simp [List.filterMap_append, none]
    obtain ⟨o, eq⟩ := quietSeat_closesNone ((h.closes fresh).trans none)
    rw [eq]
    refine ⟨?_, fun y outside => ?_, ?_, ?_, ?_, ?_⟩
    · exact congrArg (State.setSeats · _) h.frame
    · obtain ⟨outside, other⟩ := mine y outside
      exact (put_getElem_ne _ _ other).trans (h.records y outside)
    · rw [same]; exact h.floor
    · rw [same]; exact h.slots
    · refine h.entries.trans (List.map_congr_left fun e _ => ?_)
      cases e.target with
      | none => rfl
      | some y => by_cases here : y = x <;> simp [here, none]
    · rw [same]; exact h.told.silent (tells_nil rfl)
  · obtain ⟨sl, slot, o, frame, told⟩ := quietSeat_closesSome ((h.closes fresh).trans closes) (by rw [h.frame]; exact still)
    let t := quietSeat u x
    have closed : (l ++ [x]).filterMap (closesAt s) = l.filterMap (closesAt s) ++ [n] := by
      simp [List.filterMap_append, closes]
    have floor : t.floor = floorClosing n u.floor := congrArg State.floor frame
    have apart : n ∉ l.filterMap (closesAt s) := fun there => by
      rw [h.slots, if_pos there] at slot
      cases slot
    have slot : s.floor.slots[n] = some sl := by rwa [h.slots, if_neg apart] at slot
    have same : sl.seat = x := slotOf_seat (s := s) (closesAt_some.1 closes).1 slot
    refine ⟨?_, fun y outside => ?_, ?_, fun m => ?_, ?_, ?_⟩
    · exact (eq_with_stores_rewritten frame).trans (congrArg (fun v : State => { v with
        link := t.link, seats := t.seats, queue := { v.queue with entries := t.queue.entries }, floor := t.floor }) h.frame)
    · obtain ⟨outside, other⟩ := mine y outside
      rw [show t.seats = _ from congrArg State.seats frame]
      exact (put_getElem_ne _ _ other).trans (h.records y outside)
    · rw [closed, show (quietSeat u x).floor = _ from floor, h.floor, floorClosing, (speakers.filter _).erase_eq_filter,
        List.filter_filter]
      simp [bne, beq_eq_decide, Bool.and_comm]
    · rw [closed, show (quietSeat u x).floor = _ from floor, floorClosing, put_getElem, h.slots]
      by_cases here : m = n <;> simp [here]
    · have heard : t.queue.entries = u.queue.entries.map (hearEntry x) := congrArg (fun v : State => v.queue.entries) frame
      refine heard.trans ?_
      rw [h.entries, List.map_map]
      refine List.map_congr_left fun e _ => ?_
      cases target : e.target with
      | none => simp [hearEntry, target]
      | some y =>
        by_cases here : y = x
        · simp [hearEntry, target, here, fresh, closes]
        · by_cases taken : y ∈ l ∧ (closesAt s y).isSome <;> simp [hearEntry, target, here, taken]
    · rw [closed, List.filterMap_append]
      have notice : [n].filterMap (silenceNotice s) = [.floorClosed n x .silence .voice sl.elapsed] := by
        simp [silenceNotice, slot, same]
      rw [notice]
      exact h.told.trans told

end Step

theorem quietSeats_silenced (still : NoAdvance s) (speakers : s.floor.speakers.Nodup) (h : Silenced s u d) (apart : (d ++ l).Nodup) :
    Silenced s (l.foldl quietSeat u) (d ++ l) := by
  induction l generalizing u d with
  | nil => simpa using h
  | cons x l ih =>
    have fresh : x ∉ d := fun hx => (List.nodup_append.1 apart).2.2 x hx x List.mem_cons_self rfl
    rw [List.append_cons] at apart ⊢
    exact ih (h.next fresh still speakers) apart

end Sys2Proof.Machine
end

section
namespace Sys2Proof.Machine
variable {s t u : State} {seat x y : Seat} {r r' : SeatRecord} {n : SlotNo} {sl : Slot} {l d : List Seat}

/-! ### The expiry of all seats (R49) -/

theorem exec_seatInputExpiry (running : s.resetHeld = false) :
    exec .seatInputExpiry s = .next ((List.finRange 512).foldl quietSeat s) := by
  simp only [exec, execSeatInputExpiry, whileRunning_running running]

/-- What the expiry leaves of the other units, and of the chairs and the locks of the floor. -/
theorem quietSeats_keeps (l : List Seat) (s : State) : let t := l.foldl quietSeat s
    t.plan = s.plan ∧ t.cursor = s.cursor ∧ t.trunks = s.trunks ∧ t.allowance = s.allowance ∧
      t.profiles = s.profiles ∧ t.floor.chairs = s.floor.chairs ∧ t.floor.locked = s.floor.locked :=
  ⟨foldl_keeps State.plan _ (by simp) l s, foldl_keeps State.cursor _ (by simp) l s, foldl_keeps State.trunks _ (by simp) l s,
    foldl_keeps State.allowance _ (by simp) l s, foldl_keeps State.profiles _ (by simp) l s,
    foldl_keeps (·.floor.chairs) _ (fun s x => (quietSeat_chairsLocked s x).1) l s,
    foldl_keeps (·.floor.locked) _ (fun s x => (quietSeat_chairsLocked s x).2) l s⟩

theorem quietSeats_none (apart : l.Nodup) (here : x ∈ l) (fresh : s.seats[x] = none) : (l.foldl quietSeat s).seats[x] = none := by
  have followed := quietSeats_followed apart s x
  rw [if_pos here, fresh] at followed
  exact Option.map_eq_none_iff.1 followed

/-- The record of a seat taken at the expiry, but for what an opening restarts. -/
theorem quietSeats_some (apart : l.Nodup) (here : x ∈ l) (record : s.seats[x] = some r) :
    ∃ r', (l.foldl quietSeat s).seats[x] = some r' ∧ r'.followed = (r.expired (inForce s).voiceRelease).followed := by
  have followed := quietSeats_followed apart s x
  rw [if_pos here, record, Option.map_some, Option.map_some, ← SeatRecord.expired_followed] at followed
  exact Option.map_eq_some_iff.1 followed

/-- The fields the seat input unit alone writes, in a record taken at the expiry (R49). -/
theorem expired_fields {release : Nat} (followed : r'.followed = (r.expired release).followed) :
    r'.request = r.request ∧ r'.pressStart = r.pressStart ∧ r'.attackRun = r.attackRun ∧ r'.phase = r.phase ∧
      (r.voiced = false → r'.voiced = false ∧ r'.quietCount = r.quietCount) ∧
      (r.voiced = true → r.quietCount + 1 < release → r'.voiced = true ∧ r'.quietCount = r.quietCount + 1) ∧
      (r.voiced = true → release ≤ r.quietCount + 1 → r'.voiced = false ∧ r'.quietCount = 0) := by
  simp only [SeatRecord.mk.injEq] at followed
  obtain ⟨request, -, -, -, pressStart, -, voiced, attackRun, quietCount, phase, -⟩ := followed
  rw [request, pressStart, voiced, attackRun, quietCount, phase]
  unfold SeatRecord.expired quieter
  cases speaks : r.voiced with
  | false => simp [speaks]
  | true => by_cases last : release ≤ r.quietCount + 1 <;> simp [last]

/-- The records with the counts raised of every seat but one. -/
theorem mapSeats_others {others : List Seat} (mem : ∀ x, x ∈ others ↔ x ≠ seat) {T : SeatTable → SeatTable}
    (rewrites : Rewrites (quieterOf others) T) (s : State) : mapSeats T s =
      s.setSeats (Vector.ofFn fun x : Seat => if x = seat then s.seats[x] else (s.seats[x]).map quieter) := by
  refine setSeats_ext (s := s) fun x => ?_
  rw [rewrites, quieterOf]
  by_cases here : x = seat <;> simp [mem, here]

/-- The one seat that falls quiet at the expiry is silent, the counts of the others raised (R49, R88). -/
theorem quietSeats_silence (apart : l.Nodup) (all : ∀ x, x ∈ l) (running : s.resetHeld = false) (falls : FallsQuiet s seat)
    (stay : ∀ x, x ≠ seat → ¬FallsQuiet s x) : .next (l.foldl quietSeat s) = exec (.silence seat) (s.setSeats
      (Vector.ofFn fun x : Seat => if x = seat then s.seats[x] else (s.seats[x]).map quieter)) := by
  obtain ⟨r, record, voiced, -⟩ := id falls
  obtain ⟨before, after, rfl⟩ := List.append_of_mem (all seat)
  obtain ⟨T, rewrites⟩ := exists_rewrites (quieterOf (before ++ after))
  have mem (x : Seat) : x ∈ before ++ after ↔ x ≠ seat := by
    have perm := List.nodup_cons.1 (List.nodup_middle.1 apart)
    refine ⟨fun hx => by rintro rfl; exact perm.1 hx, fun other => ?_⟩
    simpa [other] using all x
  rw [quietSeats_alone apart falls (fun x hx => stay x ((mem x).1 hx)) rewrites, ← mapSeats_others mem rewrites]
  have kept : (mapSeats T s).seats[seat] = some r := by
    rw [mapSeats, State.setSeats_seats, rewrites, record, quieterOf, if_neg fun here => (mem seat).1 here rfl]
    rfl
  rw [exec_silence (s := mapSeats T s) running kept, if_pos voiced]

/-- Where no seat falls quiet at the expiry, it writes the seat records alone (R49). -/
theorem quietSeats_seatsOnly (apart : l.Nodup) (stay : ∀ x, ¬FallsQuiet s x) : let t := l.foldl quietSeat s
    t = { s with seats := t.seats } := by
  obtain ⟨T, rewrites⟩ := exists_rewrites (quieterOf l)
  intro t
  have raised : t = mapSeats T s := quietSeats_stay apart (fun x _ => stay x) rewrites
  rw [raised]
  rfl

/-- The entries that the silence of all seats sets heard (R68). -/
theorem Silenced.heard (h : Silenced s t l) (all : ∀ x, x ∈ l) : t.queue.entries = s.queue.entries.map fun e =>
    if e.target.any (fun x => (closesAt s x).isSome) then { e with heard := true } else e := by
  simpa [all] using h.entries

theorem silenced_of_nodup (still : NoAdvance s) (lists : SlotListsLaw s) (apart : l.Nodup) : Silenced s (l.foldl quietSeat s) l :=
  quietSeats_silenced (d := []) still lists.1 (silenced_nil s) apart

/-- Settles O28: the fold over the seats followed record by record; around a single seat that falls quiet, the counts raised
commute with its silence; and with no advance following, the invariant `Silenced` of the seats taken so far. -/
theorem quietCountsGoUp : Obligations.QuietCountsGoUp := by
  unfold Obligations.QuietCountsGoUp
  have apart := List.nodup_finRange 512
  refine ⟨fun s running => ⟨_, exec_seatInputExpiry running, quietSeats_keeps _ s, fun x fresh => ?_, fun x r record => ?_,
      fun few => quietSeats_seatsOnly apart ?_⟩, fun seat r s running record voiced last few => ?_,
    fun s sending still lists _ => ⟨_, exec_seatInputExpiry sending.1, ?_⟩⟩
  · exact quietSeats_none apart (List.mem_finRange x) fresh
  · obtain ⟨r', record', followed⟩ := quietSeats_some apart (List.mem_finRange x) record
    exact ⟨r', record', expired_fields followed⟩
  · rintro x ⟨r, record, voiced, last⟩
    exact Nat.not_le.2 (few x r record voiced) last
  · rw [exec_seatInputExpiry running]
    refine quietSeats_silence apart List.mem_finRange running ⟨r, record, voiced, last⟩ ?_
    rintro x other ⟨r', record', voiced', last'⟩
    exact Nat.not_le.2 (few x r' record' other voiced') last'
  · have queues : Queues s := .inl sending.2
    have silenced := silenced_of_nodup still lists apart
    exact ⟨silenced.told.linkFrame queues, silenced.frame, silenced.floor, silenced.slots,
      silenced.heard List.mem_finRange, silenced.told.posts queues⟩

end Sys2Proof.Machine
end

section
namespace Sys2Proof.Machine
variable {q : RequestQueue} {f : Floor} {es : List QueueEntry} {e : QueueEntry} {s : State} {seat : Seat}

/-! ### The laws of the queue, the list and the slots, as one (R58, R59, R77 to R79, R147) -/

/-- The law of the queue, of its entries alone (R58, R59). -/
structure EntriesOrderly (es : List QueueEntry) : Prop where
  few : es.length ≤ 128
  apart : (es.map (·.seat)).Nodup
  groups : es.Pairwise fun a b => b.kind = .priority → a.kind = .priority
  heard : ∀ e ∈ es, e.target = none → e.heard = false

/-- The law of the list state, of the queue unit alone (R147). -/
structure ListOrderly (q : RequestQueue) : Prop where
  skips : q.skips = 0
  whileOpen : q.list = .open → q.drainLimit = none
  whileDraining : q.list = .draining → ∃ n, q.drainLimit = some n ∧ 1 ≤ n ∧ n ≤ 36000

/-- The ranges of a slot record (R77). -/
def Slot.InRange (a : Slot) : Prop := a.elapsed ≤ 65535 ∧ a.strikes ≤ 2 ∧ ∀ k, a.override = some k → 1 ≤ k ∧ k ≤ 36000

/-- The laws of the slots, of the floor alone (R77, R78, R79). -/
structure SlotsOrderly (f : Floor) : Prop where
  speakers : f.speakers.Nodup
  free : f.free.Nodup
  mem_speakers : ∀ n : SlotNo, n ∈ f.speakers ↔ (f.slots[n]).isSome = true
  mem_free : ∀ n : SlotNo, n ∈ f.free ↔ f.slots[n] = none
  one : ∀ (m n : SlotNo) (a b : Slot), f.slots[m] = some a → f.slots[n] = some b → a.seat = b.seat → m = n
  ranges : ∀ (n : SlotNo) (a : Slot), f.slots[n] = some a → a.InRange

/-- The queue and the floor in order: each lawful alone, and no seat both waiting and speaking (R79). -/
structure Orderly (q : RequestQueue) (f : Floor) : Prop where
  entries : EntriesOrderly q.entries
  list : ListOrderly q
  slots : SlotsOrderly f
  apart : ∀ (n : SlotNo) (a : Slot), f.slots[n] = some a → ∀ e ∈ q.entries, e.seat ≠ a.seat

theorem listOrderly_iff (s : State) : ListOrderly s.queue ↔ ListStateLaw s := by
  unfold ListStateLaw
  refine ⟨fun h => ⟨h.skips, ?_⟩, fun ⟨skips, limit⟩ => ⟨skips, fun list => ?_, fun list => ?_⟩⟩
  · split
    · next list => exact h.whileOpen list
    · next list => exact h.whileDraining list
  · rw [list] at limit; exact limit
  · rw [list] at limit; exact limit

theorem orderly_iff (s : State) : Orderly s.queue s.floor ↔ FloorLaws s ∧ ListStateLaw s ∧ SlotRangesLaw s := by
  rw [← listOrderly_iff]
  constructor
  · rintro ⟨⟨few, apart, groups, heard⟩, list, ⟨speakers, free, mem_speakers, mem_free, one, ranges⟩, waiting⟩
    exact ⟨⟨⟨few, apart, groups, heard⟩, ⟨speakers, free, mem_speakers, mem_free⟩, one, waiting⟩, list, ranges⟩
  · rintro ⟨⟨⟨few, apart, groups, heard⟩, ⟨speakers, free, mem_speakers, mem_free⟩, one, waiting⟩, list, ranges⟩
    exact ⟨⟨few, apart, groups, heard⟩, list, ⟨speakers, free, mem_speakers, mem_free, one, ranges⟩, waiting⟩

/-! ### Entries that leave, change in place and join -/

theorem EntriesOrderly.sublist (h : EntriesOrderly es) {less : List QueueEntry} (sub : less.Sublist es) : EntriesOrderly less where
  few := sub.length_le.trans h.few
  apart := h.apart.sublist (sub.map _)
  groups := h.groups.sublist sub
  heard e he := h.heard e (sub.subset he)

theorem EntriesOrderly.map (h : EntriesOrderly es) {g : QueueEntry → QueueEntry} (seats : ∀ x, (g x).seat = x.seat)
    (kinds : ∀ x, (g x).kind = x.kind) (heard : ∀ x, (x.target = none → x.heard = false) → (g x).target = none → (g x).heard = false) :
    EntriesOrderly (es.map g) where
  few := by rw [List.length_map]; exact h.few
  apart := by
    rw [List.map_map, show es.map ((·.seat) ∘ g) = es.map (·.seat) from List.map_congr_left fun x _ => seats x]
    exact h.apart
  groups := List.pairwise_map.2 (h.groups.imp fun order => by simpa only [kinds] using order)
  heard e he := by
    obtain ⟨x, hx, rfl⟩ := List.mem_map.1 he
    exact heard x (h.heard x hx)

theorem joinGroup_perm (e : QueueEntry) (es : List QueueEntry) : (joinGroup e es).Perm (e :: es) := by
  unfold joinGroup
  split
  · exact List.perm_append_singleton e es
  · conv_rhs => rw [← List.takeWhile_append_dropWhile (p := QueueEntry.isPriority) (l := es)]
    exact List.perm_middle

theorem EntriesOrderly.join (h : EntriesOrderly es) (room : es.length < 128) (fresh : ∀ x ∈ es, x.seat ≠ e.seat)
    (heard : e.target = none → e.heard = false) : EntriesOrderly (joinGroup e es) where
  few := by rw [(joinGroup_perm e es).length_eq]; exact room
  apart := by
    rw [((joinGroup_perm e es).map (·.seat)).nodup_iff, List.map_cons, List.nodup_cons]
    refine ⟨fun there => ?_, h.apart⟩
    obtain ⟨x, hx, same⟩ := List.mem_map.1 there
    exact fresh x hx same
  groups := by
    rw [joinGroup_eq h.groups]
    cases kind : e.kind with
    | ordinary =>
      exact List.pairwise_append.2 ⟨h.groups, List.pairwise_singleton _ _, fun a _ b hb => by
        rw [List.mem_singleton.1 hb, kind]; exact fun no => nomatch no⟩
    | priority =>
      have ahead : ∀ a ∈ aheadOf .priority es, a.kind = .priority := fun a ha => by simpa using (List.mem_filter.1 ha).2
      exact List.pairwise_append.2 ⟨h.groups.filter _, List.pairwise_cons.2 ⟨fun _ _ _ => kind, h.groups.filter _⟩,
        fun a ha _ _ _ => ahead a ha⟩
  heard x hx := by
    rcases List.mem_cons.1 ((joinGroup_perm e es).mem_iff.1 hx) with rfl | old
    · exact heard
    · exact h.heard x old

/-- An entry of a lawful queue taken out leaves no entry of its seat. -/
theorem dropEntry_gone (apart : (es.map (·.seat)).Nodup) (seat : Seat) : ∀ x ∈ dropEntry seat es, x.seat ≠ seat := by
  rw [dropEntry_eq_filter apart]
  exact fun x hx => by simpa using (List.mem_filter.1 hx).2

/-- A queue with room, or with an entry of the seat to make room, has room once that entry is taken out. -/
theorem dropEntry_room (few : es.length ≤ 128) (room : (∃ x ∈ es, x.seat = seat) ∨ es.length < 128) :
    (dropEntry seat es).length < 128 := by
  rcases room with ⟨x, hx, same⟩ | room
  · have shorter := List.length_eraseP_of_mem (p := fun e => e.seat == seat) hx (by simpa using same)
    have pos := List.length_pos_of_mem hx
    rw [dropEntry, shorter]
    omega
  · exact (dropEntry_sublist seat es).length_le.trans_lt room

theorem Orderly.sublist (h : Orderly q f) {less : List QueueEntry} (sub : less.Sublist q.entries) :
    Orderly { q with entries := less } f :=
  ⟨h.entries.sublist sub, ⟨h.list.skips, h.list.whileOpen, h.list.whileDraining⟩, h.slots,
    fun n a slot e he => h.apart n a slot e (sub.subset he)⟩

theorem Orderly.map (h : Orderly q f) {g : QueueEntry → QueueEntry} (seats : ∀ x, (g x).seat = x.seat)
    (kinds : ∀ x, (g x).kind = x.kind) (heard : ∀ x, (x.target = none → x.heard = false) → (g x).target = none → (g x).heard = false) :
    Orderly { q with entries := q.entries.map g } f where
  entries := h.entries.map seats kinds heard
  list := ⟨h.list.skips, h.list.whileOpen, h.list.whileDraining⟩
  slots := h.slots
  apart n a slot e he := by
    obtain ⟨x, hx, rfl⟩ := List.mem_map.1 he
    rw [seats]
    exact h.apart n a slot x hx

/-- An entry made anew at the tail of its group, of a seat that holds no slot. -/
theorem Orderly.join (h : Orderly q f) (room : (∃ x ∈ q.entries, x.seat = e.seat) ∨ q.entries.length < 128)
    (nowhere : f.slotOf e.seat = none) (heard : e.target = none → e.heard = false) :
    Orderly { q with entries := joinGroup e (dropEntry e.seat q.entries) } f where
  entries := (h.entries.sublist (dropEntry_sublist _ _)).join (dropEntry_room h.entries.few room)
    (dropEntry_gone h.entries.apart _) heard
  list := ⟨h.list.skips, h.list.whileOpen, h.list.whileDraining⟩
  slots := h.slots
  apart n a slot x hx := by
    rcases List.mem_cons.1 ((joinGroup_perm _ _).mem_iff.1 hx) with rfl | old
    · exact fun same => slotOf_none nowhere slot same.symm
    · exact h.apart n a slot x ((dropEntry_sublist _ _).subset old)

/-- The list set OPEN, or DRAINING with a limit in its range (R147, R148). -/
theorem Orderly.setList (h : Orderly q f) {list : ListState} {limit : Option Nat} (whileOpen : list = .open → limit = none)
    (whileDraining : list = .draining → ∃ n, limit = some n ∧ 1 ≤ n ∧ n ≤ 36000) :
    Orderly { q with list := list, drainLimit := limit, skips := 0 } f :=
  ⟨h.entries, ⟨rfl, whileOpen, whileDraining⟩, h.slots, h.apart⟩

/-! ### Slots that open, close and change in place -/

theorem Orderly.closing (h : Orderly q f) {n : SlotNo} (occupied : (f.slots[n]).isSome = true) : Orderly q (floorClosing n f) := by
  have kept : ∀ (m : SlotNo) (a : Slot), (floorClosing n f).slots[m] = some a → f.slots[m] = some a := fun m a slot => by
    rw [floorClosing, put_getElem] at slot
    split at slot
    · cases slot
    · exact slot
  refine ⟨h.entries, h.list, ⟨h.slots.speakers.erase n, ?_, fun m => ?_, fun m => ?_, ?_, ?_⟩, fun m a slot => h.apart m a (kept m a slot)⟩
  · refine List.nodup_cons.2 ⟨fun free => ?_, h.slots.free⟩
    rw [(h.slots.mem_free n).1 free] at occupied
    cases occupied
  · rw [floorClosing, h.slots.speakers.mem_erase_iff, put_getElem, h.slots.mem_speakers]
    split <;> simp_all
  · rw [floorClosing, List.mem_cons, put_getElem, h.slots.mem_free]
    split <;> simp_all
  · exact fun m m' a b ha hb => h.slots.one m m' a b (kept m a ha) (kept m' b hb)
  · exact fun m a slot => h.slots.ranges m a (kept m a slot)

/-- A slot record in its ranges put in the first free slot, for a seat with no slot and no entry. -/
theorem Orderly.opening (h : Orderly q f) {n : SlotNo} {rest : List SlotNo} (free : f.free = n :: rest) {sl : Slot}
    (range : sl.InRange) (nowhere : f.slotOf sl.seat = none) (unqueued : ∀ e ∈ q.entries, e.seat ≠ sl.seat) :
    Orderly q (floorOpening n rest sl f) := by
  have isFree : f.slots[n] = none := (h.slots.mem_free n).1 (by simp [free])
  have now : ∀ (m : SlotNo) (a : Slot), (floorOpening n rest sl f).slots[m] = some a →
      (m = n ∧ a = sl) ∨ (m ≠ n ∧ f.slots[m] = some a) := fun m a slot => by
    rw [floorOpening, put_getElem] at slot
    split at slot
    · next here => exact .inl ⟨here, (Option.some.inj slot).symm⟩
    · next other => exact .inr ⟨other, slot⟩
  obtain ⟨notRest, restApart⟩ := List.nodup_cons.1 (free ▸ h.slots.free)
  have notSpeaking : n ∉ f.speakers := fun mem => by
    have := (h.slots.mem_speakers n).1 mem
    rw [isFree] at this
    cases this
  refine ⟨h.entries, h.list, ⟨?_, restApart, fun m => ?_, fun m => ?_, ?_, ?_⟩, ?_⟩
  · exact List.nodup_append.2 ⟨h.slots.speakers, List.nodup_singleton n, fun a ha b hb same =>
      notSpeaking (List.mem_singleton.1 hb ▸ same ▸ ha)⟩
  · rw [floorOpening, List.mem_append, List.mem_singleton, put_getElem, h.slots.mem_speakers]
    split <;> simp_all
  · have before := h.slots.mem_free m
    rw [free, List.mem_cons] at before
    rw [floorOpening, put_getElem]
    split
    · next here => simp [here, notRest]
    · next other => simpa [other] using before
  · intro m m' a b ha hb same
    rcases now m a ha with ⟨rfl, rfl⟩ | ⟨-, oldA⟩ <;> rcases now m' b hb with ⟨rfl, rfl⟩ | ⟨-, oldB⟩
    · rfl
    · exact absurd same.symm (slotOf_none nowhere oldB)
    · exact absurd same (slotOf_none nowhere oldA)
    · exact h.slots.one m m' a b oldA oldB same
  · intro m a slot
    rcases now m a slot with ⟨-, rfl⟩ | ⟨-, old⟩
    · exact range
    · exact h.slots.ranges m a old
  · intro m a slot
    rcases now m a slot with ⟨-, rfl⟩ | ⟨-, old⟩
    · exact unqueued
    · exact h.apart m a old

/-- A slot record changed in place within its ranges. -/
theorem Orderly.mapSlot (h : Orderly q f) (n : SlotNo) {g : Slot → Slot} (seats : ∀ a, (g a).seat = a.seat)
    (ranges : ∀ a, f.slots[n] = some a → a.InRange → (g a).InRange) : Orderly q (f.mapSlot n g) := by
  have was : ∀ (m : SlotNo) (a : Slot), (f.mapSlot n g).slots[m] = some a →
      ∃ b, f.slots[m] = some b ∧ a.seat = b.seat ∧ a.InRange := fun m a slot => by
    rw [Floor.mapSlot, put_getElem] at slot
    split at slot
    · next here =>
      subst here
      obtain ⟨b, old, rfl⟩ := Option.map_eq_some_iff.1 slot
      exact ⟨b, old, seats b, ranges b old (h.slots.ranges m b old)⟩
    · exact ⟨a, slot, rfl, h.slots.ranges m a slot⟩
  have some (m : SlotNo) : ((f.mapSlot n g).slots[m]).isSome = (f.slots[m]).isSome := by
    rw [Floor.mapSlot, put_getElem]
    split
    · next here => subst here; exact Option.isSome_map
    · rfl
  refine ⟨h.entries, h.list, ⟨h.slots.speakers, h.slots.free, fun m => ?_, fun m => ?_, ?_, ?_⟩, ?_⟩
  · rw [some]; exact h.slots.mem_speakers m
  · rw [← Option.not_isSome_iff_eq_none, some, Option.not_isSome_iff_eq_none]; exact h.slots.mem_free m
  · intro m m' a b ha hb same
    obtain ⟨a', ha', sa, -⟩ := was m a ha
    obtain ⟨b', hb', sb, -⟩ := was m' b hb
    exact h.slots.one m m' a' b' ha' hb' (sa ▸ sb ▸ same)
  · intro m a slot
    obtain ⟨-, -, -, range⟩ := was m a slot
    exact range
  · intro m a slot e he
    obtain ⟨b, old, same, -⟩ := was m a slot
    exact same ▸ h.apart m b old e he

/-- The order speaks of nothing of the floor but the slots and their two lists. -/
theorem Orderly.of_slots (h : Orderly q f) {g : Floor} (slots : g.slots = f.slots) (speakers : g.speakers = f.speakers)
    (free : g.free = f.free) : Orderly q g := by
  obtain ⟨entries, list, ⟨hs, hf, hms, hmf, one, ranges⟩, apart⟩ := h
  refine ⟨entries, list, ⟨?_, ?_, ?_, ?_, ?_, ?_⟩, ?_⟩ <;> simpa only [slots, speakers, free]

end Sys2Proof.Machine
end

section
namespace Sys2Proof.Machine
variable {f : Floor} {s : State}

/-! ### The queue's operations keep the order, on any floor -/

@[simp] theorem takeOut_orderly (h : Orderly s.queue f) (seat : Seat) (l : LeaveReason) : Orderly (takeOut seat l s).queue f := by
  rw [takeOut_queue]
  exact h.sublist (dropEntry_sublist seat _)

/-- The end of a drain leaves the list OPEN, with no limit and no skips counted (R151). -/
@[simp] theorem endDrain_orderly (h : Orderly s.queue f) : Orderly (endDrain s).queue f := by
  have eq : (endDrain s).queue = ⟨(endDrain s).queue.entries, .open, none, 0⟩ := by simp [endDrain, setList]
  rw [eq]
  exact (h.sublist (endDrain_entries s)).setList (fun _ => rfl) (fun no => nomatch no)

@[simp] theorem drainEndTest_orderly (h : Orderly s.queue f) : Orderly (drainEndTest s).queue f := by
  unfold drainEndTest; split <;> simp [h]

@[simp] theorem leaveQueue_orderly (h : Orderly s.queue f) (seat : Seat) (l : LeaveReason) : Orderly (leaveQueue seat l s).queue f := by
  unfold leaveQueue; split <;> simp [h]

@[simp] theorem tellClose_orderly (h : Orderly s.queue f) (seat : Seat) : Orderly (tellClose seat s).queue f := by
  refine drainEndTest_orderly (h.map (fun x => (hearEntry_seat seat x).1) (fun x => ?_) fun x heard none => ?_)
  · unfold hearEntry; split <;> rfl
  · rw [(hearEntry_seat seat x).2] at none
    rw [hearEntry, if_neg (by simp [none])]
    exact heard none

/-! ### The opening path, the advance check and the close path -/

theorem newSlot_inRange (list : ListOrderly s.queue) (seat : Seat) (o : Origin) (g : Bool) : (newSlot s seat o g).InRange := by
  refine ⟨Nat.zero_le _, Nat.zero_le _, fun k override => ?_⟩
  simp only [newSlot] at override
  split at override
  · next drain =>
    have draining : s.queue.list = .draining := by simpa [RequestQueue.draining] using (Bool.and_eq_true_iff.1 drain).1
    obtain ⟨n, limit, range⟩ := list.whileDraining draining
    exact Option.some.inj (override.symm.trans limit) ▸ range
  · cases override

theorem occupy_orderly (h : Orderly s.queue s.floor) {n : SlotNo} {rest : List SlotNo} (free : s.floor.free = n :: rest)
    {seat : Seat} (nowhere : s.floor.slotOf seat = none) (unqueued : ∀ e ∈ s.queue.entries, e.seat ≠ seat) (o : Origin) (g : Bool) :
    Orderly s.queue (occupy n rest seat o g s).floor := by
  rw [occupy_floor]
  exact h.opening free (newSlot_inRange h.list seat o g) nowhere unqueued

/-- A seat with no slot is given one, its entry taken out first (R81). -/
@[simp] theorem openSlot_orderly (h : Orderly s.queue s.floor) {seat : Seat} (nowhere : s.floor.slotOf seat = none) (o : Origin)
    (g : Bool) : Orderly (openSlot seat o g s).queue (openSlot seat o g s).floor := by
  unfold openSlot
  split
  · exact h
  · next n rest free =>
    split
    · have out : Orderly (takeOut seat .granted s).queue (takeOut seat .granted s).floor := by
        simpa using takeOut_orderly h seat .granted
      have occupied := occupy_orderly out (by simpa using free) (by simpa using nowhere) (o := o) (g := g)
        (by rw [takeOut_entries]; exact dropEntry_gone h.entries.apart seat)
      simpa using drainEndTest_orderly (s := occupy n rest seat o g (takeOut seat .granted s)) (by simpa using occupied)
    · next noEntry =>
      have unqueued : ∀ e ∈ s.queue.entries, e.seat ≠ seat := fun e he same => noEntry ((hasEntry_iff s seat).2 ⟨e, he, same⟩)
      simpa using occupy_orderly h free nowhere unqueued o g

/-- A seat that waits holds no slot (R79). -/
theorem Orderly.nowhere {q : RequestQueue} (h : Orderly q f) {e : QueueEntry} (waits : e ∈ q.entries) : f.slotOf e.seat = none :=
  (slotOf_none_iff f e.seat).2 fun m a slot same => h.apart m a slot e waits same.symm

theorem firstEligible_mem {e : QueueEntry} (first : firstEligible s = some e) : e ∈ s.queue.entries :=
  List.mem_of_find?_eq_some first

@[simp] theorem advance_orderly (h : Orderly s.queue s.floor) (k : Nat) : Orderly (advance k s).queue (advance k s).floor := by
  induction k generalizing s with
  | zero => exact h
  | succ k ih =>
    unfold advance
    split
    · exact h
    · next granted => exact ih (openSlot_orderly h (h.nowhere (nextToAdvance_mem granted)) _ _)

@[simp] theorem advanceCheck_orderly (h : Orderly s.queue s.floor) : Orderly (advanceCheck s).queue (advanceCheck s).floor :=
  advance_orderly h 8

@[simp] theorem closeSlot_orderly (h : Orderly s.queue s.floor) (n : SlotNo) (c : CloseReason) :
    Orderly (closeSlot n c s).queue (closeSlot n c s).floor := by
  obtain free | ⟨sl, slot⟩ := Option.eq_none_or_eq_some s.floor.slots[n]
  · rwa [closeSlot_none c free]
  · have closing : Orderly s.queue (floorClosing n s.floor) := h.closing (by simp [slot])
    rw [closeSlot_some c slot]
    simpa using tellClose_orderly (s := post (.floorClosed n sl.seat c sl.origin sl.elapsed) (s.setFloor (floorClosing n s.floor)))
      (by simpa using closing) sl.seat

/-- What each step of a fold keeps in order, the fold keeps in order. -/
theorem foldl_orderly {α : Type} {g : State → α → State}
    (hg : ∀ (s : State) (a : α), Orderly s.queue s.floor → Orderly (g s a).queue (g s a).floor) (l : List α)
    (h : Orderly s.queue s.floor) : Orderly (l.foldl g s).queue (l.foldl g s).floor :=
  foldl_inv (fun s => Orderly s.queue s.floor) g hg l s h

@[simp] theorem closeSeatQuiet_orderly (h : Orderly s.queue s.floor) (seat : Seat) (c : CloseReason) :
    Orderly (closeSeatQuiet seat c s).queue (closeSeatQuiet seat c s).floor := by
  unfold closeSeatQuiet; split <;> simp [h]

@[simp] theorem closeSeat_orderly (h : Orderly s.queue s.floor) (seat : Seat) (c : CloseReason) :
    Orderly (closeSeat seat c s).queue (closeSeat seat c s).floor := by
  unfold closeSeat; split <;> simp [h]

@[simp] theorem closeGroup_orderly (h : Orderly s.queue s.floor) (ns : List SlotNo) (c : CloseReason) :
    Orderly (closeGroup ns c s).queue (closeGroup ns c s).floor := foldl_orderly (fun _ _ h => closeSlot_orderly h _ _) ns h

@[simp] theorem dropBindings_orderly (h : Orderly s.queue s.floor) (seat : Seat) (d : Bool) :
    Orderly (dropBindings seat d s).queue (dropBindings seat d s).floor := by
  have unbound : Orderly { s.queue with entries := s.queue.entries.map (unbindEntry seat) } s.floor := by
    refine h.map (fun x => (unbindEntry_seat seat x).1) (fun x => ?_) fun x heard none => ?_
    · unfold unbindEntry; split <;> rfl
    · unfold unbindEntry at none ⊢
      split
      · rfl
      · next other => rw [if_neg other] at none; exact heard none
  have tested : Orderly (drainEndTest (s.setQueue { s.queue with entries := s.queue.entries.map (unbindEntry seat) })).queue
      (drainEndTest (s.setQueue { s.queue with entries := s.queue.entries.map (unbindEntry seat) })).floor := by
    simpa using drainEndTest_orderly (s := s.setQueue { s.queue with entries := s.queue.entries.map (unbindEntry seat) }) unbound
  unfold dropBindings; dsimp only
  split
  · exact h
  · split
    · exact advanceCheck_orderly tested
    · exact tested

/-- An entry that joins in its turn, of a seat with no slot, with room for it (R59, R62, R66). -/
@[simp] theorem enterQueue_orderly (h : Orderly s.queue s.floor) {e : QueueEntry} (nowhere : s.floor.slotOf e.seat = none)
    (heard : e.target = none → e.heard = false) (room : hasEntry s e.seat = true ∨ s.queue.isFull = false) (renewed : Bool) :
    Orderly (enterQueue e renewed s).queue (enterQueue e renewed s).floor := by
  have room : (∃ x ∈ s.queue.entries, x.seat = e.seat) ∨ s.queue.entries.length < 128 :=
    room.imp (hasEntry_iff s e.seat).1 fun notFull => not_le.1 (of_decide_eq_false notFull)
  have joined : Orderly (setEntries (joinGroup e (dropEntry e.seat s.queue.entries)) s).queue s.floor := by
    rw [setEntries_eq]
    exact h.join room nowhere heard
  unfold enterQueue; dsimp only; split <;> simp [joined]

@[simp] theorem enqueuePress_orderly (h : Orderly s.queue s.floor) {seat : Seat} (nowhere : s.floor.slotOf seat = none)
    (k : EntryKind) (e : SeatEvent) : Orderly (enqueuePress seat k e s).queue (enqueuePress seat k e s).floor := by
  unfold enqueuePress; (repeat' split) <;> simp_all

/-! ### Chair microphones and the hold -/

/-- Chair records are no part of the order. -/
@[simp] theorem setChairs_orderly {q : RequestQueue} (h : Orderly q s.floor) (cs : List ChairRecord) :
    Orderly q (setChairs cs s).floor := by
  rw [setChairs_floor]
  exact h.of_slots rfl rfl rfl

@[simp] theorem openChair_orderly {q : RequestQueue} (h : Orderly q s.floor) (seat : Seat) : Orderly q (openChair seat s).floor := by
  simp [openChair, h]

@[simp] theorem closeChair_orderly {q : RequestQueue} (h : Orderly q s.floor) (seat : Seat) : Orderly q (closeChair seat s).floor := by
  simp [closeChair, h]

@[simp] theorem holdChair_orderly {q : RequestQueue} (h : Orderly q s.floor) (seat : Seat) : Orderly q (holdChair s seat).floor := by
  unfold holdChair; dsimp only; (repeat' split) <;> simp [h]

@[simp] theorem releaseChair_orderly {q : RequestQueue} (h : Orderly q s.floor) (seat : Seat) :
    Orderly q (releaseChair s seat).floor := by
  unfold releaseChair; (repeat' split) <;> simp [h]

/-- A slot changed in place in its condition alone. -/
@[simp] theorem mapSlot_condition_orderly {q : RequestQueue} (h : Orderly q f) (n : SlotNo) (c : SlotCondition) :
    Orderly q (f.mapSlot n fun sl => { sl with condition := c }) := h.mapSlot n (fun _ => rfl) fun _ _ range => range

@[simp] theorem muteSlot_orderly {q : RequestQueue} (h : Orderly q s.floor) (n : SlotNo) : Orderly q (muteSlot s n).floor :=
  h.mapSlot n (fun _ => by split <;> rfl) fun _ _ range => by split <;> exact range

@[simp] theorem unmuteSlot_orderly {q : RequestQueue} (h : Orderly q s.floor) (n : SlotNo) : Orderly q (unmuteSlot s n).floor := by
  rw [unmuteSlot_floor]
  exact h.mapSlot n (fun _ => by split <;> rfl) fun _ _ range => by split <;> exact range

@[simp] theorem closeForHold_orderly (h : Orderly s.queue s.floor) (n : SlotNo) :
    Orderly (closeForHold s n).queue (closeForHold s n).floor := advanceCheck_orderly (closeSlot_orderly h n _)

@[simp] theorem startHold_orderly (h : Orderly s.queue s.floor) (seat : Seat) :
    Orderly (startHold seat s).queue (startHold seat s).floor := by
  unfold startHold
  dsimp only
  refine foldl_orderly (g := holdChair) (fun _ _ h => by simp [h]) _ ?_
  split
  · exact foldl_orderly (g := muteSlot) (fun _ _ h => by simp [h]) _ (by simpa using h)
  · exact foldl_orderly (g := closeForHold) (fun _ _ h => closeForHold_orderly h _) _ (by simpa using h)

@[simp] theorem endHold_orderly (h : Orderly s.queue s.floor) (seat : Seat) :
    Orderly (endHold seat s).queue (endHold seat s).floor :=
  advanceCheck_orderly (foldl_orderly (g := releaseChair) (fun _ _ h => by simp [h]) _
    (foldl_orderly (g := unmuteSlot) (fun _ _ h => by simp [h]) _ (by simpa using h)))

@[simp] theorem setHeld_orderly {q : RequestQueue} (h : Orderly q s.floor) (seat : Seat) (b : Bool) :
    Orderly q (setHeld seat b s).floor := setChairs_orderly h _

@[simp] theorem lowerHold_orderly (h : Orderly s.queue s.floor) (seat : Seat) :
    Orderly (lowerHold seat s).queue (lowerHold seat s).floor := by
  unfold lowerHold; dsimp only; (repeat' split) <;> simp [h]

@[simp] theorem raiseHold_orderly (h : Orderly s.queue s.floor) (seat : Seat) :
    Orderly (raiseHold seat s).queue (raiseHold seat s).floor := by
  unfold raiseHold; dsimp only; (repeat' split) <;> simp [h]

@[simp] theorem withdrawChair_orderly (h : Orderly s.queue s.floor) (seat : Seat) :
    Orderly (withdrawChair seat s).queue (withdrawChair seat s).floor := by
  have closed (b : Bool) : Orderly (if b then closeChair seat s else s).queue (if b then closeChair seat s else s).floor := by
    split <;> simp [h]
  unfold withdrawChair
  split
  · exact h
  · next c _ => exact lowerHold_orderly (by simpa using setChairs_orderly (closed c.micOpen) _) seat

end Sys2Proof.Machine
end

section
namespace Sys2Proof.Machine
variable {q : RequestQueue} {f : Floor} {s : State} {seat : Seat}

/-! ### Seat events at the allocator -/

/-- A LOCKED flag is no part of the order. -/
@[simp] theorem setLocked_orderly (h : Orderly q s.floor) (seat : Seat) (b : Bool) : Orderly q (setLocked seat b s).floor :=
  h.of_slots rfl rfl rfl

@[simp] theorem queueOrRefuse_orderly (h : Orderly s.queue s.floor) (nowhere : s.floor.slotOf seat = none) :
    Orderly (queueOrRefuse seat s).queue (queueOrRefuse seat s).floor := by
  unfold queueOrRefuse; split <;> simp [h, nowhere]

@[simp] theorem requestOpen_orderly (h : Orderly s.queue s.floor) (nowhere : s.floor.slotOf seat = none) :
    Orderly (requestOpen seat s).queue (requestOpen seat s).floor := by
  unfold requestOpen; (repeat' split) <;> simp [h, nowhere]

/-- A close gives no seat a slot. -/
theorem closeSlot_nowhere (nowhere : s.floor.slotOf seat = none) (n : SlotNo) (c : CloseReason) :
    (closeSlot n c s).floor.slotOf seat = none := by
  rw [slotOf_none_iff]
  intro m a slot
  rw [closeSlot_floor] at slot
  split at slot
  · rw [floorClosing, put_getElem] at slot
    split at slot
    · cases slot
    · exact slotOf_none nowhere slot
  · exact slotOf_none nowhere slot

@[simp] theorem replaceSpeaker_orderly (h : Orderly s.queue s.floor) (nowhere : s.floor.slotOf seat = none) (n : SlotNo) :
    Orderly (replaceSpeaker n seat s).queue (replaceSpeaker n seat s).floor :=
  advanceCheck_orderly (openSlot_orderly (closeSlot_orderly h n _) (closeSlot_nowhere nowhere n _) _ _)

@[simp] theorem requestOverride_orderly (h : Orderly s.queue s.floor) (nowhere : s.floor.slotOf seat = none) :
    Orderly (requestOverride seat s).queue (requestOverride seat s).floor := by
  unfold requestOverride; (repeat' split) <;> simp [h, nowhere]

@[simp] theorem shortPress_orderly (h : Orderly s.queue s.floor) (seat : Seat) :
    Orderly (shortPress seat s).queue (shortPress seat s).floor := by
  unfold shortPress
  split
  · split <;> simp [h]
  · next held =>
    have nowhere : s.floor.slotOf seat = none := Option.not_isSome_iff_eq_none.1 held
    (repeat' split) <;> simp [h, nowhere]

/-- A promotion moves an entry to the tail of the other group (R64). -/
@[simp] theorem promote_orderly (h : Orderly s.queue f) (nowhere : f.slotOf seat = none) : Orderly (promote seat s).queue f := by
  unfold promote
  split
  · exact h
  · next e found =>
    have waits : e ∈ s.queue.entries := List.mem_of_find?_eq_some found
    obtain rfl : e.seat = seat := by simpa using List.find?_some found
    split
    · exact h
    · simpa [setEntries] using
        h.join (e := { e with kind := .priority }) (.inl ⟨e, waits, rfl⟩) nowhere (h.entries.heard e waits)

@[simp] theorem promote_floor (seat : Seat) (s : State) : (promote seat s).floor = s.floor := by
  unfold promote; dsimp only; (repeat' split) <;> simp

@[simp] theorem longPress_orderly (h : Orderly s.queue s.floor) (seat : Seat) :
    Orderly (longPress seat s).queue (longPress seat s).floor := by
  unfold longPress
  split
  · exact h
  · split
    · exact h
    · next held =>
      have nowhere : s.floor.slotOf seat = none := Option.not_isSome_iff_eq_none.1 held
      (repeat' split) <;> simp [h, nowhere]

@[simp] theorem voiceStartEvent_orderly (h : Orderly s.queue s.floor) (seat : Seat) :
    Orderly (voiceStartEvent seat s).queue (voiceStartEvent seat s).floor := by
  unfold voiceStartEvent; split <;> simp_all

@[simp] theorem silenceEvent_orderly (h : Orderly s.queue s.floor) (seat : Seat) :
    Orderly (silenceEvent seat s).queue (silenceEvent seat s).floor := by
  unfold silenceEvent; (repeat' split) <;> simp [h]

@[simp] theorem talk_orderly (h : Orderly s.queue s.floor) (seat : Seat) :
    Orderly (talk seat s).queue (talk seat s).floor := by
  unfold talk; (repeat' split) <;> simp [h]

@[simp] theorem chairNext_orderly (h : Orderly s.queue s.floor) (seat : Seat) :
    Orderly (chairNext seat s).queue (chairNext seat s).floor := by
  unfold chairNext
  split
  · simp [h]
  · split
    · next first => exact openSlot_orderly h (h.nowhere (firstEligible_mem first)) _ _
    · exact h

/-- A soft lock raises the strikes of a slot that has at most one (R95). -/
@[simp] theorem howlSlot_orderly (h : Orderly s.queue s.floor) (seat : Seat) :
    Orderly (howlSlot seat s).queue (howlSlot seat s).floor := by
  unfold howlSlot
  split
  · exact h
  · next n _ =>
    split
    · exact h
    · next sl slot =>
      split
      · exact h
      · split
        · next soft =>
          simpa using h.mapSlot n (g := fun a => { a with condition := .softLocked, strikes := a.strikes + 1 })
            (fun _ => rfl) fun a there ⟨elapsed, _, override⟩ =>
              ⟨elapsed, Option.some.inj (slot.symm.trans there) ▸ soft.2, override⟩
        · simp [h]

theorem howlChair_queue (seat : Seat) (s : State) : (howlChair seat s).queue = s.queue := by
  unfold howlChair; dsimp only; (repeat' split) <;> simp

@[simp] theorem howlChair_orderly (h : Orderly q s.floor) (seat : Seat) : Orderly q (howlChair seat s).floor := by
  unfold howlChair; dsimp only; (repeat' split) <;> simp [h]

@[simp] theorem howlEvent_orderly (h : Orderly s.queue s.floor) (seat : Seat) :
    Orderly (howlEvent seat s).queue (howlEvent seat s).floor := by
  unfold howlEvent; split <;> simp [h, howlChair_queue]

@[simp] theorem howlClearSlot_orderly (h : Orderly q s.floor) (seat : Seat) : Orderly q (howlClearSlot seat s).floor := by
  unfold howlClearSlot; (repeat' split) <;> simp [h]

@[simp] theorem howlClearChair_orderly (h : Orderly q s.floor) (seat : Seat) : Orderly q (howlClearChair seat s).floor := by
  unfold howlClearChair; (repeat' split) <;> simp [h]

@[simp] theorem howlClearEvent_orderly (h : Orderly q s.floor) (seat : Seat) : Orderly q (howlClearEvent seat s).floor := by
  unfold howlClearEvent; split <;> simp [h]

end Sys2Proof.Machine
end

section
namespace Sys2Proof.Machine
variable {q : RequestQueue} {f : Floor} {s : State}

/-! ### The seat input unit and speech timing -/

@[simp] theorem takeRequest_orderly (h : Orderly s.queue s.floor) (seat : Seat) (d : Bool) :
    Orderly (takeRequest seat d s).queue (takeRequest seat d s).floor := by
  unfold takeRequest; dsimp only; (repeat' split) <;> simp [h]

@[simp] theorem takePriority_orderly (h : Orderly s.queue s.floor) (seat : Seat) (d : Bool) :
    Orderly (takePriority seat d s).queue (takePriority seat d s).floor := by
  unfold takePriority; dsimp only; (repeat' split) <;> simp [h]

@[simp] theorem takeTalk_orderly (h : Orderly s.queue s.floor) (seat : Seat) (d : Bool) :
    Orderly (takeTalk seat d s).queue (takeTalk seat d s).floor := by
  unfold takeTalk; dsimp only; (repeat' split) <;> simp [h]

@[simp] theorem takeNext_orderly (h : Orderly s.queue s.floor) (seat : Seat) (d : Bool) :
    Orderly (takeNext seat d s).queue (takeNext seat d s).floor := by
  unfold takeNext; dsimp only; (repeat' split) <;> simp [h]

@[simp] theorem takeButtons_orderly (h : Orderly s.queue s.floor) (seat : Seat) (b : Buttons) :
    Orderly (takeButtons seat b s).queue (takeButtons seat b s).floor := by
  unfold takeButtons
  split
  · exact takeRequest_orderly h _ _
  · exact takeNext_orderly (takeTalk_orderly (takePriority_orderly h _ _) _ _) _ _

@[simp] theorem becomeVoiced_orderly (h : Orderly s.queue s.floor) (seat : Seat) :
    Orderly (becomeVoiced seat s).queue (becomeVoiced seat s).floor := by
  unfold becomeVoiced; dsimp only; split <;> simp [h]

@[simp] theorem becomeQuiet_orderly (h : Orderly s.queue s.floor) (seat : Seat) :
    Orderly (becomeQuiet seat s).queue (becomeQuiet seat s).floor := by
  unfold becomeQuiet; dsimp only; split <;> simp [h]

@[simp] theorem takeVoice_orderly (h : Orderly s.queue s.floor) (seat : Seat) (level : Nat) :
    Orderly (takeVoice seat level s).queue (takeVoice seat level s).floor := by
  unfold takeVoice; (repeat' split) <;> simp [h]

@[simp] theorem raiseHowl_orderly (h : Orderly s.queue s.floor) (seat : Seat) :
    Orderly (raiseHowl seat s).queue (raiseHowl seat s).floor := by
  unfold raiseHowl; dsimp only; split <;> simp [h]

@[simp] theorem raiseHowlClear_orderly (h : Orderly s.queue s.floor) (seat : Seat) :
    Orderly (raiseHowlClear seat s).queue (raiseHowlClear seat s).floor := by
  unfold raiseHowlClear; dsimp only; split <;> simp [h]

@[simp] theorem takeLive_orderly (h : Orderly s.queue s.floor) (seat : Seat) (r : SeatRecord) (level : Nat) :
    Orderly (takeLive seat r level s).queue (takeLive seat r level s).floor := by
  unfold takeLive; (repeat' split) <;> simp [h]

@[simp] theorem takeLockedSoft_orderly (h : Orderly s.queue s.floor) (seat : Seat) (r : SeatRecord) (level : Nat) :
    Orderly (takeLockedSoft seat r level s).queue (takeLockedSoft seat r level s).floor := by
  unfold takeLockedSoft; (repeat' split) <;> simp [h]

@[simp] theorem takeHowl_orderly (h : Orderly s.queue s.floor) (seat : Seat) (level : Nat) :
    Orderly (takeHowl seat level s).queue (takeHowl seat level s).floor := by
  unfold takeHowl; dsimp only; (repeat' split) <;> simp [h]

@[simp] theorem takeReport_orderly (h : Orderly s.queue s.floor) (seat : Seat) (b : Buttons) (level : Nat) :
    Orderly (takeReport seat b level s).queue (takeReport seat b level s).floor :=
  takeHowl_orderly (takeVoice_orderly (takeButtons_orderly (by simpa using h) _ _) _ _) _ _

@[simp] theorem quietSeat_orderly (h : Orderly s.queue s.floor) (seat : Seat) :
    Orderly (quietSeat s seat).queue (quietSeat s seat).floor := by
  unfold quietSeat; (repeat' split) <;> simp [h]

/-- A slot changed in place in its warning alone. -/
@[simp] theorem mapSlot_warned_orderly (h : Orderly q f) (n : SlotNo) (b : Bool) :
    Orderly q (f.mapSlot n fun sl => { sl with warned := b }) := h.mapSlot n (fun _ => rfl) fun _ _ range => range

@[simp] theorem warnSlot_orderly (h : Orderly q s.floor) (n : SlotNo) (sl : Slot) : Orderly q (warnSlot n sl s).floor := by
  unfold warnSlot; (repeat' split) <;> simp [h]

/-- Elapsed stops at 65535 (R109). -/
@[simp] theorem mapSlot_count_orderly (h : Orderly q f) (n : SlotNo) : Orderly q (f.mapSlot n Slot.count) := by
  refine h.mapSlot n (fun a => ?_) fun a _ ⟨elapsed, rest⟩ => ?_
  · unfold Slot.count; split <;> rfl
  · unfold Slot.count
    split
    · exact ⟨Nat.min_le_right _ _, rest⟩
    · exact ⟨elapsed, rest⟩

@[simp] theorem timeSlot_orderly (h : Orderly s.queue s.floor) (n : SlotNo) :
    Orderly (timeSlot s n).queue (timeSlot s n).floor := by
  have counted : Orderly s.queue (s.floor.mapSlot n Slot.count) := mapSlot_count_orderly h n
  unfold timeSlot; dsimp only
  split
  · exact h
  · split
    · exact closeSlot_orderly (s := s.setFloor (s.floor.mapSlot n Slot.count)) counted n _
    · simpa using warnSlot_orderly (s := s.setFloor (s.floor.mapSlot n Slot.count)) counted n _

/-! ### Profiles, the queue and the orders of the floor -/

@[simp] theorem reduce_orderly (h : Orderly s.queue s.floor) (k : Nat) : Orderly (reduce k s).queue (reduce k s).floor := by
  induction k generalizing s with
  | zero => exact h
  | succ k ih =>
    unfold reduce
    split
    · split
      · exact h
      · exact ih (closeSlot_orderly h _ _)
    · exact h

@[simp] theorem changeProfile_orderly (h : Orderly s.queue s.floor) (n : ProfileNo) (c : ChangeCause) :
    Orderly (changeProfile n c s).queue (changeProfile n c s).floor :=
  advanceCheck_orderly (reduce_orderly (by simpa using h) 8)

@[simp] theorem applySelected_orderly (h : Orderly s.queue s.floor) (c : ChangeCause) :
    Orderly (applySelected c s).queue (applySelected c s).floor := by
  unfold applySelected; split <;> simp [h]

@[simp] theorem qualifyPins_orderly (h : Orderly s.queue s.floor) : Orderly (qualifyPins s).queue (qualifyPins s).floor := by
  unfold qualifyPins; split <;> simp [h]

theorem takeProfilePut_orderly (h : Orderly s.queue s.floor) (n : Byte) (r : RawProfile) :
    Orderly (takeProfilePut n r s).state.queue (takeProfilePut n r s).state.floor := by
  unfold takeProfilePut; dsimp only
  split
  · dsimp only [answeredOk_state]; split
    · exact changeProfile_orderly (by simpa using h) _ _
    · exact h
  · exact h

theorem takeProfileSelect_orderly (h : Orderly s.queue s.floor) (n : Byte) :
    Orderly (takeProfileSelect n s).state.queue (takeProfileSelect n s).state.floor := by
  unfold takeProfileSelect; dsimp only
  split
  · exact h
  · dsimp only [answeredOk_state]; split
    · exact applySelected_orderly (by simpa using h) _
    · exact h

theorem takeProfileSource_orderly (h : Orderly s.queue s.floor) (b : Byte) :
    Orderly (takeProfileSource b s).state.queue (takeProfileSource b s).state.floor := by
  unfold takeProfileSource; dsimp only
  split
  · exact h
  · dsimp only [answeredOk_state]; split
    · exact applySelected_orderly (by simpa using h) _
    · exact h

/-- The tests of QUEUE ADD leave a seat with no slot, and with room for its entry or with one to be renewed (R65). -/
theorem takeQueueAdd_orderly (h : Orderly s.queue s.floor) (x : Half) (k : Byte) (t : Half) :
    Orderly (takeQueueAdd x k t s).state.queue (takeQueueAdd x k t s).state.floor := by
  unfold takeQueueAdd; dsimp only
  split
  · split
    · exact h
    · split
      · exact h
      · split
        · exact h
        · next held =>
          have nowhere := Option.not_isSome_iff_eq_none.1 held
          split
          · exact h
          · split
            · exact h
            · next room =>
              have entered (e : QueueEntry) (same : e.seat = _) (heard : e.heard = false) :=
                enterQueue_orderly h (e := e) (same ▸ nowhere) (fun _ => heard) (by
                  rw [same]; simpa [or_iff_not_imp_left] using room) (hasEntry s e.seat)
              split
              · exact entered _ rfl rfl
              · exact entered _ rfl rfl
  · exact h

theorem takeQueueDrop_orderly (h : Orderly s.queue s.floor) (x : Half) :
    Orderly (takeQueueDrop x s).state.queue (takeQueueDrop x s).state.floor := by
  unfold takeQueueDrop; (repeat' split) <;> simp [h]

theorem takeQueueEmpty_orderly (h : Orderly s.queue s.floor) :
    Orderly (takeQueueEmpty s).state.queue (takeQueueEmpty s).state.floor := by
  have emptied : Orderly (emptyQueue .emptied s).queue (emptyQueue .emptied s).floor :=
    foldl_orderly (g := fun s (e : QueueEntry) => takeOut e.seat .emptied s) (fun _ _ h => by simpa using takeOut_orderly h _ _) _ h
  unfold takeQueueEmpty; dsimp only [answeredOk_state]
  split
  · exact h
  · simpa using drainEndTest_orderly emptied

theorem numberIn_range {low high n k : Nat} (h : numberIn low high n = some k) : low ≤ k ∧ k ≤ high := by
  unfold numberIn at h
  split at h
  · next range => cases h; exact range
  · cases h

theorem takeListClose_orderly (h : Orderly s.queue s.floor) (n : Half) :
    Orderly (takeListClose n s).state.queue (takeListClose n s).state.floor := by
  unfold takeListClose
  split
  · exact h
  · next k limit =>
    split
    · exact h
    · have draining : Orderly (setList .draining (some k) s).queue (setList .draining (some k) s).floor := by
        simpa [setList] using h.setList (list := .draining) (limit := some k) (fun no => nomatch no)
          fun _ => ⟨k, rfl, numberIn_range limit⟩
      simpa using drainEndTest_orderly (advanceCheck_orderly draining)

theorem takeListOpen_orderly (h : Orderly s.queue s.floor) : Orderly (takeListOpen s).state.queue (takeListOpen s).state.floor := by
  unfold takeListOpen; dsimp only [answeredOk_state]
  split
  · simpa [setList] using h.setList (list := .open) (limit := none) (fun _ => rfl) (fun no => nomatch no)
  · exact h

theorem takeFloorGrant_orderly (h : Orderly s.queue s.floor) (x : Half) (g : Byte) :
    Orderly (takeFloorGrant x g s).state.queue (takeFloorGrant x g s).state.floor := by
  unfold takeFloorGrant; dsimp only; (repeat' split) <;> simp_all

theorem takeFloorNext_orderly (h : Orderly s.queue s.floor) : Orderly (takeFloorNext s).state.queue (takeFloorNext s).state.floor := by
  unfold takeFloorNext
  split
  · exact h
  · split
    · next first => exact openSlot_orderly h (h.nowhere (firstEligible_mem first)) _ _
    · exact h

theorem takeFloorRevoke_orderly (h : Orderly s.queue s.floor) (x : Half) :
    Orderly (takeFloorRevoke x s).state.queue (takeFloorRevoke x s).state.floor := by
  unfold takeFloorRevoke; (repeat' split) <;> simp [h]

theorem takeFloorClear_orderly (h : Orderly s.queue s.floor) :
    Orderly (takeFloorClear s).state.queue (takeFloorClear s).state.floor := by
  simp [takeFloorClear, h]

theorem takeWingMask_orderly (h : Orderly s.queue s.floor) (m : Byte) :
    Orderly (takeWingMask m s).state.queue (takeWingMask m s).state.floor := by
  unfold takeWingMask
  split
  · have masked : Orderly (s.setFloor { s.floor with mask := m.truncate 4 }).queue
        (s.setFloor { s.floor with mask := m.truncate 4 }).floor := h.of_slots rfl rfl rfl
    refine advanceCheck_orderly ?_
    simpa using drainEndTest_orderly (closeGroup_orderly masked _ _)
  · exact h

theorem takeUnlock_orderly (h : Orderly s.queue s.floor) (x : Half) :
    Orderly (takeUnlock x s).state.queue (takeUnlock x s).state.floor := by
  have cleared (x : Seat) : Orderly (setLocked x false s).queue (setLocked x false s).floor := setLocked_orderly h x false
  unfold takeUnlock
  split
  · exact h
  · next y _ =>
    split
    · refine advanceCheck_orderly ?_
      split
      · simpa using drainEndTest_orderly (cleared y)
      · exact cleared y
    · exact h

/-- A cleared floor has no slot, and every slot number stands in the free-slot order (R105). -/
theorem cleared_orderly (f : Floor) : SlotsOrderly f.cleared where
  speakers := List.nodup_nil
  free := show Floor.allFree.Nodup by decide
  mem_speakers n := by simp [Floor.cleared]
  mem_free n := by
    have all : n ∈ Floor.allFree := by revert n; decide
    simpa [Floor.cleared] using all
  one m n a b slot := by simp [Floor.cleared] at slot
  ranges n a slot := by simp [Floor.cleared] at slot

theorem takeFloorReset_orderly (h : Orderly s.queue s.floor) :
    Orderly (takeFloorReset s).state.queue (takeFloorReset s).state.floor := by
  have emptied : Orderly { s.queue with entries := [] } s.floor.cleared :=
    ⟨h.entries.sublist (List.nil_sublist _), ⟨h.list.skips, h.list.whileOpen, h.list.whileDraining⟩, cleared_orderly _,
      fun _ _ _ e he => nomatch he⟩
  simpa [takeFloorReset, setList, setEntries] using
    emptied.setList (list := .open) (limit := none) (fun _ => rfl) (fun no => nomatch no)

/-- The override that FLOOR EXTEND writes is at least 1 and at most 36000 (R114). -/
theorem takeFloorExtend_orderly (h : Orderly s.queue s.floor) (x n : Half) :
    Orderly (takeFloorExtend x n s).state.queue (takeFloorExtend x n s).state.floor := by
  unfold takeFloorExtend; dsimp only
  split
  · next y k _ decis =>
    split
    · exact h
    · next m _ =>
      split
      · exact h
      · next sl _ =>
        split
        · exact h
        · have some : 1 ≤ k := (numberIn_range decis).1
          refine h.mapSlot m (fun _ => rfl) fun a _ ⟨elapsed, strikes, _⟩ => ⟨elapsed, strikes, fun l written => ?_⟩
          obtain rfl := Option.some.inj written
          exact ⟨le_min (by omega) (by decide), Nat.min_le_right _ _⟩
  · exact h

theorem closeSpent_orderly (h : Orderly s.queue s.floor) (l : List Seat) :
    Orderly (closeSpent l s).queue (closeSpent l s).floor := by
  have closed := foldl_orderly (g := fun s x => closeSeatQuiet x .allowance s) (fun _ _ h => closeSeatQuiet_orderly h _ _) l h
  unfold closeSpent; dsimp only; split <;> simp [closed]

theorem expireAccounts_orderly (h : Orderly s.queue s.floor) (m : AllowanceMode) :
    Orderly (expireAccounts m s).queue (expireAccounts m s).floor :=
  closeSpent_orderly (foldl_orderly (fun _ _ h => by simpa using h) _ h) _

end Sys2Proof.Machine
end

section
namespace Sys2Proof.Machine
variable {q : RequestQueue} {f : Floor} {s : State}

/-! ### The plan and the trunks -/

@[simp] theorem leaveSeat_orderly (h : Orderly s.queue s.floor) (seat : Seat) (c : CloseReason) (l : LeaveReason) :
    Orderly (leaveSeat seat c l s).queue (leaveSeat seat c l s).floor := by
  have closed : Orderly (closeSeatQuiet seat c (unbound seat s)).queue (closeSeatQuiet seat c (unbound seat s)).floor :=
    closeSeatQuiet_orderly (by simpa using h) _ _
  have left : Orderly (offFloor seat c l s).queue (offFloor seat c l s).floor := by
    simpa using leaveQueue_orderly closed seat l
  have gone : Orderly (dropped seat c l s).queue (dropped seat c l s).floor := dropBindings_orderly left seat _
  rw [leaveSeat_eq]
  split
  · exact withdrawChair_orderly gone seat
  · exact gone

@[simp] theorem deferredAdvance_orderly (h : Orderly s.queue s.floor) (b : Bool) :
    Orderly (deferredAdvance b s).queue (deferredAdvance b s).floor := by
  unfold deferredAdvance; split <;> simp [h]

@[simp] theorem loseEffects_orderly (h : Orderly s.queue s.floor) (p : Place) (e : ChainEntry) :
    Orderly (loseEffects p e s).queue (loseEffects p e s).floor := by
  unfold loseEffects; (repeat' split) <;> simp [h]

@[simp] theorem loseUnit_orderly (h : Orderly s.queue s.floor) (p : Place) : Orderly (loseUnit p s).queue (loseUnit p s).floor := by
  unfold loseUnit; split <;> simp [h]

@[simp] theorem recheckBound_orderly (h : Orderly s.queue s.floor) (seat : Seat) :
    Orderly (recheckBound seat s).queue (recheckBound seat s).floor := by
  unfold recheckBound; (repeat' split) <;> simp [h]

@[simp] theorem recheckSeat_orderly (h : Orderly s.queue s.floor) (seat : Seat) :
    Orderly (recheckSeat seat s).queue (recheckSeat seat s).floor :=
  foldl_orderly (fun _ _ h => by simpa using h) _ (recheckBound_orderly h seat)

@[simp] theorem ordinaryAnswer_orderly (h : Orderly s.queue s.floor) (p : Place) (e : ChainEntry) (a : TrunkAnswer) :
    Orderly (ordinaryAnswer p e a s).queue (ordinaryAnswer p e a s).floor := by
  unfold ordinaryAnswer; dsimp only; (repeat' split) <;> simp [h]

@[simp] theorem releaseForAssignment_orderly (h : Orderly s.queue s.floor) (p : Place) (e : ChainEntry) (seat : Seat) :
    Orderly (releaseForAssignment p e seat s).queue (releaseForAssignment p e seat s).floor := by
  unfold releaseForAssignment; (repeat' split) <;> simp [h]

@[simp] theorem completeAssignment_orderly (h : Orderly s.queue s.floor) (p : Place) (e : ChainEntry) (a : TrunkAnswer)
    (seat : Seat) : Orderly (completeAssignment p e a seat s).queue (completeAssignment p e a seat s).floor := by
  unfold completeAssignment; dsimp only; split <;> simp [h]

@[simp] theorem takeAnswer_orderly (h : Orderly s.queue s.floor) (p : Place) (a : TrunkAnswer) :
    Orderly (takeAnswer p a s).queue (takeAnswer p a s).floor := by
  unfold takeAnswer; (repeat' split) <;> simp [h]

@[simp] theorem takeMiss_orderly (h : Orderly s.queue s.floor) (p : Place) : Orderly (takeMiss p s).queue (takeMiss p s).floor := by
  unfold takeMiss; dsimp only; (repeat' split) <;> simp [h]

theorem finishPoll_orderly (h : Orderly s.queue s.floor) (w : Wing) {take : Place → State → State}
    (taken : ∀ p, Orderly (take p s).queue (take p s).floor) : Orderly (finishPoll w take s).queue (finishPoll w take s).floor := by
  unfold finishPoll; split <;> simp [h, taken]

theorem takeSeatAssign_orderly (h : Orderly s.queue s.floor) (w p : Byte) (x : Half) :
    Orderly (takeSeatAssign w p x s).state.queue (takeSeatAssign w p x s).state.floor := by
  unfold takeSeatAssign; dsimp only; (repeat' split) <;> simp [h]

theorem takeTrunkRestart_orderly (h : Orderly s.queue s.floor) (w : Byte) :
    Orderly (takeTrunkRestart w s).state.queue (takeTrunkRestart w s).state.floor := by
  unfold takeTrunkRestart
  split
  · exact h
  · next w _ =>
    dsimp only [answeredOk_state]
    rw [(mapTrunk_keeps _ _ _).2.2.2.1, (mapTrunk_keeps _ _ _).2.2.2.2]
    refine foldl_orderly (fun _ _ h => loseUnit_orderly h _) _ ?_
    split <;> simp [h]

@[simp] theorem addChair_orderly (h : Orderly q s.floor) (seat : Seat) : Orderly q (addChair seat s).floor :=
  setChairs_orderly h _

@[simp] theorem leaveDelegate_orderly (h : Orderly s.queue s.floor) (seat : Seat) (now : SeatClass) :
    Orderly (leaveDelegate seat now s).queue (leaveDelegate seat now s).floor := by
  have left : Orderly (leaveQueue seat .plan (closeSeat seat .plan s)).queue (leaveQueue seat .plan (closeSeat seat .plan s)).floor := by
    simpa using leaveQueue_orderly (closeSeat_orderly h seat .plan) seat .plan
  have dropped := dropBindings_orderly left seat false
  unfold leaveDelegate; dsimp only; split <;> simp [dropped]

@[simp] theorem leaveChair_orderly (h : Orderly s.queue s.floor) (seat : Seat) (now : SeatClass) :
    Orderly (leaveChair seat now s).queue (leaveChair seat now s).floor := by
  have removed : Orderly (withdrawChair seat s).queue
      (setChairs ((withdrawChair seat s).floor.chairs.filter fun c => c.seat ≠ seat) (withdrawChair seat s)).floor :=
    setChairs_orderly (withdrawChair_orderly h seat) _
  unfold leaveChair; dsimp only; split
  · simpa using setLocked_orderly removed seat false
  · simpa using removed

@[simp] theorem classRequests_orderly (h : Orderly s.queue s.floor) (seat : Seat) (before now : SeatClass) :
    Orderly (classRequests seat before now s).queue (classRequests seat before now s).floor := by
  unfold classRequests; dsimp only; (repeat' split) <;> simp [h]

theorem takePlanPut_orderly (h : Orderly s.queue s.floor) (cls wing position delegation voice : Byte) :
    Orderly (takePlanPut cls wing position delegation voice s).state.queue
      (takePlanPut cls wing position delegation voice s).state.floor := by
  have written (seat : Seat) (r : PlanRecord) : Orderly (writePlan seat r s).queue (writePlan seat r s).floor :=
    classRequests_orderly (recheckSeat_orderly (by simpa using h) _) _ _ _
  unfold takePlanPut; dsimp only; (repeat' split) <;> simp [h, written]

/-! ### Every order and every command -/

theorem deliver_orderly (i : Instr) (h : Orderly s.queue s.floor) : Orderly (deliver i s).state.queue (deliver i s).state.floor := by
  cases i with
  | planPut a b c d e => exact takePlanPut_orderly h a b c d e
  | seatAssign w p x => exact takeSeatAssign_orderly h w p x
  | trunkRestart w => exact takeTrunkRestart_orderly h w
  | queueAdd x k t => exact takeQueueAdd_orderly h x k t
  | queueDrop x => exact takeQueueDrop_orderly h x
  | queueEmpty => exact takeQueueEmpty_orderly h
  | floorGrant x g => exact takeFloorGrant_orderly h x g
  | floorNext => exact takeFloorNext_orderly h
  | floorRevoke x => exact takeFloorRevoke_orderly h x
  | floorClear => exact takeFloorClear_orderly h
  | wingMask m => exact takeWingMask_orderly h m
  | unlock x => exact takeUnlock_orderly h x
  | floorReset => exact takeFloorReset_orderly h
  | floorExtend x n => exact takeFloorExtend_orderly h x n
  | profilePut n r => exact takeProfilePut_orderly h n r
  | profileSelect n => exact takeProfileSelect_orderly h n
  | profileSource b => exact takeProfileSource_orderly h b
  | listClose n => exact takeListClose_orderly h n
  | listOpen => exact takeListOpen_orderly h
  | _ => unfold deliver; simpa using h

theorem powerUp_orderly (s : State) : Orderly (powerUp s).queue (powerUp s).floor := by
  obtain ⟨-, -, floor, list, ranges, -⟩ := resetMeetsTheLaws
  exact (orderly_iff State.reset).2 ⟨floor, list, ranges⟩

/-- The effect of an event that keeps the order. -/
theorem event_orderly (h : Orderly s.queue s.floor) {g : State → State} {t : State} (e : whileRunning s g = .next t)
    (kept : Orderly (g s).queue (g s).floor) : Orderly t.queue t.floor :=
  whileRunning_inv (P := fun s => Orderly s.queue s.floor) h kept e

/-- Every command keeps the queue, the list and the slots in order. -/
theorem exec_orderly (h : Orderly s.queue s.floor) (c : Instr) {t : State} (e : exec c s = .next t) : Orderly t.queue t.floor := by
  have hl : ∀ (s : State) (l : Link), Orderly s.queue s.floor → Orderly (s.setLink l).queue (s.setLink l).floor := fun _ _ h => h
  have hd : ∀ (i : Instr) (s : State), Orderly s.queue s.floor → Orderly (deliver i s).state.queue (deliver i s).state.floor :=
    fun i _ h => deliver_orderly i h
  cases c with
  | powerReset => cases e; exact powerUp_orderly s
  | resetHeldLow => cases e; exact powerUp_orderly s
  | resetPin ns =>
    simp only [exec, execResetPin] at e
    (repeat' split at e) <;> cases e
    · exact powerUp_orderly s
    · exact powerUp_orderly s
    · exact powerUp_orderly _
    · exact h
    · exact h
  | refclkReturns => cases e; exact h
  | receiveByte b => exact event_orderly h e (receive_inv (P := fun s => Orderly s.queue s.floor) hl hd b s h)
  | receiveGapTimeout => exact event_orderly h e (hl _ _ h)
  | transmitFrameEnd => exact event_orderly h e (finishFrame_inv (P := fun s => Orderly s.queue s.floor) hl hd s h)
  | deciExpiry => exact event_orderly h e (by simpa using h)
  | restarted =>
    simp only [exec, execRestarted] at e
    refine event_orderly h e ?_
    split <;> simp [h]
  | speechTimingExpiry =>
    simp only [exec, execSpeechTimingExpiry] at e
    have timed := foldl_orderly (g := timeSlot) (fun _ _ h => timeSlot_orderly h _) s.floor.speakers h
    refine event_orderly h e ?_
    split <;> simp [timed]
  | timeLimitClose slot =>
    simp only [exec, execTimeLimitClose] at e
    refine event_orderly h e ?_
    (repeat' split) <;> simp [h]
  | allowanceExpiry =>
    simp only [exec, execAllowanceExpiry] at e
    refine event_orderly h e ?_
    split <;> simp [h, expireAccounts_orderly]
  | seatInputExpiry =>
    simp only [exec, execSeatInputExpiry] at e
    exact event_orderly h e (foldl_orderly (g := quietSeat) (fun _ _ h => quietSeat_orderly h _) (List.finRange 512) h)
  | silence seat =>
    simp only [exec, execSilence] at e
    refine event_orderly h e ?_
    (repeat' split) <;> simp [h]
  | voiceStart seat =>
    simp only [exec, execVoiceStart] at e
    refine event_orderly h e ?_
    (repeat' split) <;> simp [h]
  | howl seat =>
    simp only [exec, execHowl] at e
    refine event_orderly h e ?_
    split <;> simp [h]
  | howlClear seat =>
    simp only [exec, execHowlClear] at e
    refine event_orderly h e ?_
    split <;> simp [h]
  | pselSample pins =>
    simp only [exec, execPselSample] at e
    exact event_orderly h e (qualifyPins_orderly (by simpa using h))
  | profilePinsQualify => exact event_orderly h e (qualifyPins_orderly h)
  | refusalCountExpiry w =>
    simp only [exec, execRefusalCountExpiry] at e
    exact event_orderly h e (foldl_orderly (g := refusalAt w) (fun _ _ h => by simpa using h) (List.finRange 128) h)
  | pollSent w => exact event_orderly h e (by simpa using h)
  | pollGoodAnswer w answer =>
    simp only [exec, execPollGoodAnswer] at e
    refine event_orderly h e ?_
    split
    · exact finishPoll_orderly h w fun p => takeAnswer_orderly h p _
    · exact finishPoll_orderly h w fun p => takeMiss_orderly h p
  | pollMissedAnswer w => exact event_orderly h e (finishPoll_orderly h w fun p => takeMiss_orderly h p)
  | settleComplete w position =>
    simp only [exec, execSettleComplete] at e
    refine event_orderly h e ?_
    (repeat' split) <;> simp [h]
  | unitLost w position =>
    simp only [exec, execUnitLost] at e
    refine event_orderly h e ?_
    (repeat' split) <;> simp [h]
  | assignTimeout w =>
    simp only [exec, execAssignTimeout] at e
    refine event_orderly h e ?_
    split <;> simp [h]
  | _ => exact event_orderly h e (submitOrder_inv (P := fun s => Orderly s.queue s.floor) hl hd _ s h)

theorem step_orderly (h : Orderly s.queue s.floor) {t : State} (e : step s = .next t) : Orderly t.queue t.floor := by
  unfold step at e
  split at e
  · cases e; exact h
  · exact exec_orderly (by exact h) _ e

/-- Settles O56: the laws read the queue and the floor alone, and every operation that touches either keeps them together. -/
theorem stepsKeepTheFloor : Obligations.StepsKeepTheFloor := by
  intro s t floor list ranges e
  exact (orderly_iff t).1 (step_orderly ((orderly_iff s).2 ⟨floor, list, ranges⟩) e)

end Sys2Proof.Machine
end

section
namespace Sys2Proof.Machine
variable {s t u : State} {bs : List NoticeBody} {i : Instr} {k : Byte} {d : List Byte}

/-! ### An order that is answered, with the notices it gives rise to (R156, R159) -/

/-- What is told while an answer is owed is queued, and the order unit's other stores stand. -/
theorem Tells.owed (told : Tells (oweAnswer s) u bs) : LinkFrame s u ∧ Posts s u bs := by
  have queues : Queues (oweAnswer s) := .inr (by simp [oweAnswer])
  obtain ⟨stage, heldFrame, clock, mask, restart, dropped, droppedMark, queued⟩ := told.linkFrame queues
  exact ⟨⟨stage, heldFrame, clock, mask, restart, dropped, droppedMark, queued⟩, told.posts queues⟩

/-- An answer handed on rewrites the link alone. -/
theorem answered_eq (k : Byte) (c : ResultCode) (d : List Byte) (s : State) :
    answered k c d s = { s with link := (answered k c d s).link } := rfl

theorem answered_posts (posts : Posts s u bs) (k : Byte) (c : ResultCode) (d : List Byte) : Posts s (answered k c d u) bs :=
  fun room => (withAnswer_notices _ u).trans (posts room)

/-- An order answered OK after the notices `bs`. -/
theorem submit_told (hk : orderKind i = some k) (hi : i ≠ .status) (hm : ∀ m, i ≠ .noticeMask m) (hfr : i ≠ .floorReset)
    (h : TakesOrders s) (hd : deliver i (oweAnswer s) = answeredOk u d) (told : Tells (oweAnswer s) u bs) :
    let t := answered k .ok d u
    submit i s = .next t ∧ Answers s t k .ok d ∧ LinkFrame s t ∧ Posts s t bs := by
  obtain ⟨taken, answers, frame⟩ := submit_answered hk hi hm hfr h hd
  exact ⟨taken, answers, frame, answered_posts told.owed.2 _ _ _⟩

end Sys2Proof.Machine
end

section
namespace Sys2Proof.Machine
variable {s : State} {seat target : Half} {kind : Byte} {x : Seat} {k : EntryKind} {g : Option Seat}

/-! ### The operands of QUEUE ADD (R168) -/

theorem entryKindOf_none (h : 1 < kind.toNat) : entryKindOf kind = none := by
  have zero : kind ≠ 0 := fun e => by simp [e] at h
  have one : kind ≠ 1 := fun e => by simp [e] at h
  rw [entryKindOf, if_neg zero, if_neg one]

theorem entryKindOf_some (h : kind.toNat ≤ 1) : ∃ k, entryKindOf kind = some k := by
  unfold entryKindOf
  split
  · exact ⟨_, rfl⟩
  · next zero =>
    have one : kind = 1 := by
      have : kind.toNat ≠ 0 := fun e => zero (BitVec.eq_of_toNat_eq e)
      exact BitVec.eq_of_toNat_eq (by rw [show (1 : Byte).toNat = 1 from rfl]; omega)
    exact ⟨_, if_pos one⟩

theorem entryKindOf_code (k : EntryKind) : entryKindOf k.code = some k := by cases k <;> decide

theorem targetOf_none (other : target ≠ 0xFFFF) (h : 511 < target.toNat) : targetOf target = none := by
  rw [targetOf, if_neg other, seatOf_none h]
  rfl

/-- A target in its range reads as the seat it numbers, or as none for 0xFFFF. -/
theorem targetOf_some (h : target = 0xFFFF ∨ target.toNat ≤ 511) :
    ∃ g, targetOf target = some g ∧ ∀ y : Seat, g = some y ↔ target.toNat = y.val := by
  unfold targetOf
  split
  · next absent =>
    refine ⟨none, rfl, fun y => ⟨fun no => (by cases no), fun same => ?_⟩⟩
    have := y.isLt
    rw [absent, show (0xFFFF : Half).toNat = 65535 from rfl] at same
    omega
  · next other =>
    have inside : target.toNat < 512 := by have := h.resolve_left other; omega
    refine ⟨some ⟨target.toNat, inside⟩, by rw [seatOf, dif_pos inside]; rfl, fun y => ?_⟩
    exact ⟨fun same => congrArg Fin.val (Option.some.inj same), fun same => congrArg some (Fin.ext same)⟩

theorem targetOf_carried (absent : g = none → target = 0xFFFF) (present : ∀ y, g = some y → target.toNat = y.val) :
    targetOf target = some g := by
  cases g with
  | none => exact if_pos (absent rfl)
  | some y =>
    have carried := present y rfl
    have other : target ≠ 0xFFFF := fun same => by
      have := y.isLt
      rw [same, show (0xFFFF : Half).toNat = 65535 from rfl] at carried
      omega
    rw [targetOf, if_neg other, seatOf_val carried]
    rfl

/-! ### QUEUE ADD (R65, R66) -/

/-- A QUEUE ADD past its tests: the entry joins, and the answer carries the place it has after the order. -/
def queueAdded (x : Seat) (k : EntryKind) (g : Option Seat) (s : State) : Taken :=
  let entered := enterQueue ⟨x, k, g, false, s.link.clock, .link⟩ (hasEntry s x) s
  if hasEntry entered x then answeredOk entered (seatBytes x ++ [byteOf (entered.queue.placeOf x)])
  else answeredOk (entered.setDraws (s.draws + 1)) (seatBytes x ++ [Config.unstatedByte s.draws 0])

theorem queueAdded_ok (x : Seat) (k : EntryKind) (g : Option Seat) (s : State) : ∃ u d, queueAdded x k g s = answeredOk u d := by
  unfold queueAdded
  dsimp only
  split <;> exact ⟨_, _, rfl⟩

theorem takeQueueAdd_badValue (bad : 511 < seat.toNat ∨ 1 < kind.toNat ∨ (target ≠ 0xFFFF ∧ 511 < target.toNat)) (s : State) :
    takeQueueAdd seat kind target s = refusedWith .badValue s := by
  unfold takeQueueAdd
  rcases bad with past | past | ⟨other, past⟩
  · rw [seatOf_none past]
  · rw [entryKindOf_none past]
    cases seatOf seat <;> rfl
  · rw [targetOf_none other past]
    cases seatOf seat <;> cases entryKindOf kind <;> rfl

section Read
variable (hx : seatOf seat = some x) (hk : entryKindOf kind = some k) (hg : targetOf target = some g)
include hx hk hg

/-- The tests of the table of R65 on operands that read, in the terms of the units they ask. -/
theorem takeQueueAdd_read (s : State) : takeQueueAdd seat kind target s =
    if s.queue.list = .draining then refusedWith .notPermitted s
    else if s.plan[x].cls ≠ .delegate ∨ s.trunks.binding[x] = none then refusedWith .notEligible s
    else if s.floor.slotOf x ≠ none then refusedWith .held s
    else if ∃ y ∈ g, y = x ∨ s.plan[y].cls ≠ .delegate then refusedWith .badValue s
    else if (∀ e ∈ s.queue.entries, e.seat ≠ x) ∧ 128 ≤ s.queue.entries.length then refusedWith .full s
    else queueAdded x k g s := by
  have draining : s.queue.draining = true ↔ s.queue.list = .draining := by simp [RequestQueue.draining]
  have ready : (classOf s x ≠ .delegate ∨ isReady s x = false) ↔ (s.plan[x].cls ≠ .delegate ∨ s.trunks.binding[x] = none) := by
    simp [classOf, isReady, placeOf]
  have held : (s.floor.slotOf x).isSome = true ↔ s.floor.slotOf x ≠ none := Option.isSome_iff_ne_none
  have bad : (g.any fun y => y == x || classOf s y != .delegate) = true ↔ ∃ y ∈ g, y = x ∨ s.plan[y].cls ≠ .delegate := by
    cases g <;> simp [classOf]
  have full : (!hasEntry s x && s.queue.isFull) = true ↔ (∀ e ∈ s.queue.entries, e.seat ≠ x) ∧ 128 ≤ s.queue.entries.length := by
    rw [Bool.and_eq_true, Bool.not_eq_true', ← Bool.not_eq_true, hasEntry_iff]
    exact and_congr (by simp) decide_eq_true_iff
  simp only [takeQueueAdd, hx, hk, hg, draining, ready, held, bad, full]
  rfl

theorem takeQueueAdd_passed (list : s.queue.list = .open) (cls : s.plan[x].cls = .delegate) (ready : s.trunks.binding[x] ≠ none)
    (nowhere : s.floor.slotOf x = none) (good : ∀ y, g = some y → y ≠ x ∧ s.plan[y].cls = .delegate)
    (room : (∃ e ∈ s.queue.entries, e.seat = x) ∨ s.queue.entries.length < 128) :
    takeQueueAdd seat kind target s = queueAdded x k g s := by
  have isOpen : ¬s.queue.list = .draining := by rw [list]; decide
  have noTarget : ¬∃ y ∈ g, y = x ∨ s.plan[y].cls ≠ .delegate := by
    rintro ⟨y, hy, same | other⟩
    · exact (good y hy).1 same
    · exact other (good y hy).2
  have notFull : ¬((∀ e ∈ s.queue.entries, e.seat ≠ x) ∧ 128 ≤ s.queue.entries.length) := by
    rintro ⟨fresh, full⟩
    rcases room with ⟨e, he, same⟩ | few
    · exact fresh e he same
    · exact absurd few (not_lt.2 full)
  rw [takeQueueAdd_read hx hk hg, if_neg isOpen, if_neg (not_or.2 ⟨not_not.2 cls, ready⟩), if_neg (not_not.2 nowhere),
    if_neg noTarget, if_neg notFull]

end Read

/-- The seat holds a slot, said of the slot records. -/
theorem slotOf_ne_none_iff (f : Floor) (x : Seat) : f.slotOf x ≠ none ↔ ∃ (n : SlotNo) (sl : Slot), f.slots[n] = some sl ∧ sl.seat = x := by
  rw [ne_eq, slotOf_none_iff]
  simp only [not_forall, not_not, exists_prop]

/-- Settles O33: the tests of `takeQueueAdd` one after the other, each refused order leaving the state. -/
theorem queueAddTests : Obligations.QueueAddTests := by
  intro seat target kind s takes codes
  have refused {c : ResultCode} (h : takeQueueAdd seat kind target (oweAnswer s) = refusedWith c (oweAnswer s)) : codes c :=
    submit_refused (i := .queueAdd seat kind target) rfl (by simp) takes h
  refine ⟨fun bad => refused (takeQueueAdd_badValue bad _), fun x hx hkind htarget => ?_⟩
  obtain ⟨k, hk⟩ := entryKindOf_some hkind
  obtain ⟨g, hg, carries⟩ := targetOf_some htarget
  have read := takeQueueAdd_read (seatOf_val hx) hk hg (oweAnswer s)
  intro ineligible holds badTarget queued
  have mayIff : ((oweAnswer s).plan[x].cls ≠ .delegate ∨ (oweAnswer s).trunks.binding[x] = none) ↔ ineligible := Iff.rfl
  have holdsIff : (oweAnswer s).floor.slotOf x ≠ none ↔ holds := slotOf_ne_none_iff s.floor x
  have badIff : (∃ y ∈ g, y = x ∨ (oweAnswer s).plan[y].cls ≠ .delegate) ↔ badTarget :=
    exists_congr fun y => and_congr_left fun _ => carries y
  have fullIff : ((∀ e ∈ (oweAnswer s).queue.entries, e.seat ≠ x) ∧ 128 ≤ (oweAnswer s).queue.entries.length) ↔
      ¬queued ∧ ¬s.queue.entries.length < 128 := by simp [queued, oweAnswer]
  have isOpen (list : s.queue.list = .open) : ¬(oweAnswer s).queue.list = .draining := fun no => nomatch list.symm.trans no
  refine ⟨fun list => refused (read.trans (if_pos list)), fun list no => refused ?_, fun list may has => refused ?_,
    fun list may free bad => refused ?_, fun list may free good fresh full => refused ?_, fun list may free good room => ?_⟩
  · rw [read, if_neg (isOpen list), if_pos (mayIff.2 no)]
  · rw [read, if_neg (isOpen list), if_neg (mt mayIff.1 may), if_pos (holdsIff.2 has)]
  · rw [read, if_neg (isOpen list), if_neg (mt mayIff.1 may), if_neg (mt holdsIff.1 free), if_pos (badIff.2 bad)]
  · rw [read, if_neg (isOpen list), if_neg (mt mayIff.1 may), if_neg (mt holdsIff.1 free), if_neg (mt badIff.1 good),
      if_pos (fullIff.2 ⟨fresh, not_lt.2 full⟩)]
  · rw [if_neg (isOpen list), if_neg (mt mayIff.1 may), if_neg (mt holdsIff.1 free), if_neg (mt badIff.1 good),
      if_neg (mt fullIff.1 (not_and_or.2 (room.imp not_not.2 not_not.2)))] at read
    obtain ⟨u, d, ok⟩ := queueAdded_ok x k g (oweAnswer s)
    obtain ⟨taken, answers, -⟩ := submit_answered (i := .queueAdd seat kind target) rfl (by simp) (by simp) (by simp) takes
      (read.trans ok)
    exact ⟨_, d, taken, answers⟩

end Sys2Proof.Machine
end

section
namespace Sys2Proof.Machine
variable {s t u : State} {x : Seat}

/-! ### An entry that joins, new or renewed (R59, R62, R66) -/

/-- The entries of the other seats. -/
abbrev othersOf (e : QueueEntry) (s : State) : List QueueEntry := s.queue.entries.filter fun x => x.seat ≠ e.seat

/-- The queue with the entry made anew at the tail of its group, and QUEUE ENTERED posted. -/
def entryJoined (e : QueueEntry) (renewed : Bool) (s : State) : State :=
  post (.queueEntered e.seat e.kind e.source (aheadOf e.kind (othersOf e s)).length e.target renewed)
    (setEntries (aheadOf e.kind (othersOf e s) ++ e :: behindOf e.kind (othersOf e s)) s)

theorem aheadOf_others (k : EntryKind) {es : List QueueEntry} {seat : Seat} :
    ∀ x ∈ aheadOf k (es.filter fun x => x.seat ≠ seat), x.seat ≠ seat :=
  fun x hx => by simpa using (List.mem_filter.1 (aheadOf_subset k _ hx)).2

theorem entryJoined_eq (e : QueueEntry) (renewed : Bool) (s : State) : entryJoined e renewed s = { s with
      link := (entryJoined e renewed s).link
      queue := { s.queue with entries := aheadOf e.kind (othersOf e s) ++ e :: behindOf e.kind (othersOf e s) } } ∧
    Tells s (entryJoined e renewed s)
      [.queueEntered e.seat e.kind e.source (aheadOf e.kind (othersOf e s)).length e.target renewed] :=
  post_setEntries_eq _ _ s

/-- The place of an entry that has just joined. -/
theorem entryJoined_place (e : QueueEntry) (renewed : Bool) (s : State) :
    (entryJoined e renewed s).queue.placeOf e.seat = (aheadOf e.kind (othersOf e s)).length := by
  rw [RequestQueue.placeOf, (entryJoined_eq e renewed s).1]
  exact findIdx_joined (aheadOf_others e.kind) rfl

theorem enterQueue_eq (law : QueueLaw s) (e : QueueEntry) (renewed : Bool) : enterQueue e renewed s =
    if eligibility s e = .eligible then advanceCheck (entryJoined e renewed s) else entryJoined e renewed s := by
  obtain ⟨-, apart, groups, -⟩ := law
  have group : joinGroup e (dropEntry e.seat s.queue.entries) =
      aheadOf e.kind (othersOf e s) ++ e :: behindOf e.kind (othersOf e s) := by
    rw [dropEntry_eq_filter apart]
    exact joinGroup_eq (groups.filter _) e
  have place := entryJoined_place e renewed s
  rw [show (entryJoined e renewed s).queue = (setEntries (joinGroup e (dropEntry e.seat s.queue.entries)) s).queue by
    rw [group]; rfl] at place
  have may : isEligible (entryJoined e renewed s) e = decide (eligibility s e = .eligible) := by
    rw [isEligible, beq_eq_decide, (entryJoined_eq e renewed s).1]
    rfl
  have entered : enterQueue e renewed s =
      if isEligible (entryJoined e renewed s) e then advanceCheck (entryJoined e renewed s) else entryJoined e renewed s := by
    simp only [enterQueue, place]
    rw [group]
    rfl
  rw [entered, may]
  simp only [decide_eq_true_eq]

/-- With no advance following, an entry that joins stays. -/
theorem enterQueue_noAdvance (law : QueueLaw s) (still : NoAdvance s) (e : QueueEntry) (renewed : Bool) :
    enterQueue e renewed s = entryJoined e renewed s := by
  have still : NoAdvance (entryJoined e renewed s) := by rw [(entryJoined_eq e renewed s).1]; exact still
  rw [enterQueue_eq law, advanceCheck_noAdvance still, ite_self]

/-! ### QUEUE ADD past its tests (R66) -/

/-- What a QUEUE ADD answers, by whether the entry stands after the order (log entry 2). -/
theorem queueAdded_eq {k : EntryKind} {g : Option Seat}
    (entered : enterQueue ⟨x, k, g, false, s.link.clock, .link⟩ (hasEntry s x) s = u) :
    ((∃ e ∈ u.queue.entries, e.seat = x) → queueAdded x k g s = answeredOk u (seatBytes x ++ [byteOf (u.queue.placeOf x)])) ∧
      ((∀ e ∈ u.queue.entries, e.seat ≠ x) →
        queueAdded x k g s = answeredOk (u.setDraws (s.draws + 1)) (seatBytes x ++ [Config.unstatedByte s.draws 0])) := by
  simp only [queueAdded, entered]
  exact ⟨fun stands => if_pos ((hasEntry_iff u x).2 stands), fun gone => if_neg (by rw [hasEntry_eq_false gone]; simp)⟩

/-- Settles O34: the tests passed, the entry joins by `enterQueue_eq`; the answer goes by whether the entry still stands. -/
theorem queueAddJoinsItsGroup : Obligations.QueueAddJoinsItsGroup := by
  intro seat target kind x k g s takes law list hx hkind absent present cls ready nowhere good room others entry ahead entries
    notice joined u
  have aheadEq : ahead = aheadOf k others := by cases k <;> rfl
  have entriesEq : entries = aheadOf k others ++ entry :: behindOf k others := by cases k <;> rfl
  have renewed : hasEntry (oweAnswer s) x = decide (∃ e ∈ s.queue.entries, e.seat = x) := by
    rw [Bool.eq_iff_iff, hasEntry_iff, decide_eq_true_eq]
    rfl
  have joinedEq : joined = entryJoined entry (hasEntry (oweAnswer s) x) (oweAnswer s) := by
    simp only [joined, notice, entriesEq, aheadEq, renewed]
    rfl
  have entered : enterQueue entry (hasEntry (oweAnswer s) x) (oweAnswer s) = u := by
    simp only [u, joinedEq]
    exact enterQueue_eq (s := oweAnswer s) law entry _
  have passed : takeQueueAdd seat kind target (oweAnswer s) = queueAdded x k g (oweAnswer s) :=
    takeQueueAdd_passed (s := oweAnswer s) (seatOf_val hx) (hkind ▸ entryKindOf_code k) (targetOf_carried absent present)
      list cls ready nowhere good room
  obtain ⟨stands, gone⟩ := queueAdded_eq entered
  have taken {v : State} {d : List Byte} (ok : queueAdded x k g (oweAnswer s) = answeredOk v d) :=
    submit_answered (i := .queueAdd seat kind target) rfl (by simp) (by simp) (by simp) takes (passed.trans ok)
  obtain ⟨frame, told⟩ : joined = { s with link := joined.link, queue := { s.queue with entries := entries } } ∧
      Tells (oweAnswer s) joined [notice] := post_setEntries_eq notice entries (oweAnswer s)
  refine ⟨⟨frame, told.owed⟩, fun there => (taken (stands there)).1, fun left => ⟨_, (taken (gone left)).1⟩, fun still => ?_⟩
  have uEq : u = joined := entered.symm.trans ((enterQueue_noAdvance (s := oweAnswer s) law still _ _).trans joinedEq.symm)
  have there : ∃ e ∈ u.queue.entries, e.seat = x := by
    rw [uEq, frame, entriesEq]
    exact ⟨entry, by simp, rfl⟩
  have place : u.queue.placeOf x = ahead.length := by
    rw [uEq, joinedEq, aheadEq]
    exact entryJoined_place entry _ (oweAnswer s)
  have ok := stands there
  rw [place, uEq] at ok
  obtain ⟨eq, answers, linkFrame⟩ := taken ok
  refine ⟨_, eq, answers, linkFrame, ?_, answered_posts told.owed.2 _ _ _⟩
  rw [answered_eq]
  exact congrArg (State.setLink · _) frame

end Sys2Proof.Machine
end

section
namespace Sys2Proof.Machine
variable {s t u : State} {seat : Seat} {e : QueueEntry} {es : List QueueEntry} {l : LeaveReason}

/-! ### Entries that leave from the head (R73, R151) -/

/-- The entry at the head taken out. -/
theorem takeOut_head (head : s.queue.entries = e :: es) (l : LeaveReason) : let t := takeOut e.seat l s
    t = { s with link := t.link, queue := { s.queue with entries := es } } ∧ Tells s t [.queueLeft e.seat e.kind l 0] := by
  have found : s.queue.entryOf e.seat = some e := by simp [RequestQueue.entryOf, head]
  have place : s.queue.placeOf e.seat = 0 := by simp [RequestQueue.placeOf, head, List.findIdx_cons]
  have left : dropEntry e.seat s.queue.entries = es := by simp [dropEntry, head]
  have eq : takeOut e.seat l s = post (.queueLeft e.seat e.kind l 0) (setEntries es s) := by
    simp only [takeOut, found, place, left]
  dsimp only
  rw [eq]
  exact post_setEntries_eq _ _ s

/-- Every entry taken out from the head, each with the one reason. -/
theorem takeOuts_eq (l : LeaveReason) (s : State) (entries : s.queue.entries = es) :
    let t := es.foldl (fun u e => takeOut e.seat l u) s
    t = { s with link := t.link, queue := { s.queue with entries := [] } } ∧
      Tells s t (es.map fun e => .queueLeft e.seat e.kind l 0) := by
  induction es generalizing s with
  | nil =>
    refine ⟨?_, tells_nil rfl⟩
    rw [List.foldl_nil, ← entries]
  | cons e es ih =>
    obtain ⟨frame, told⟩ := takeOut_head entries l
    obtain ⟨frames, tolds⟩ := ih (takeOut e.seat l s) (by rw [frame])
    exact ⟨frames.trans (congrArg (fun c : State => { c with
      link := (es.foldl (fun u (e : QueueEntry) => takeOut e.seat l u) (takeOut e.seat l s)).link
      queue := { c.queue with entries := [] } }) frame), told.trans tolds⟩

theorem emptyQueue_eq (l : LeaveReason) (s : State) : let t := emptyQueue l s
    t = { s with link := t.link, queue := { s.queue with entries := [] } } ∧
      Tells s t (s.queue.entries.map fun e => .queueLeft e.seat e.kind l 0) := takeOuts_eq l s rfl

/-- Every entry skipped from the head, and counted. -/
theorem skipEntries_eq (s : State) (entries : s.queue.entries = es) : let t := es.foldl skipEntry s
    t = { s with link := t.link, queue := { s.queue with entries := [], skips := s.queue.skips + es.length } } ∧
      Tells s t (es.map fun e => .queueLeft e.seat e.kind .drainSkipped 0) := by
  induction es generalizing s with
  | nil =>
    refine ⟨?_, tells_nil rfl⟩
    change s = { s with queue := { s.queue with entries := [] } }
    rw [← entries]
  | cons e es ih =>
    obtain ⟨frame, told⟩ := takeOut_head entries .drainSkipped
    have skipped : skipEntry s e = { s with
        link := (takeOut e.seat .drainSkipped s).link
        queue := { s.queue with entries := es, skips := s.queue.skips + 1 } } :=
      congrArg (fun c : State => c.setQueue { c.queue with skips := c.queue.skips + 1 }) frame
    obtain ⟨frames, tolds⟩ := ih (skipEntry s e) (by rw [skipped])
    have counted : s.queue.skips + (e :: es).length = s.queue.skips + 1 + es.length := by rw [List.length_cons]; omega
    rw [counted]
    exact ⟨frames.trans (congrArg (fun c : State => { c with
      link := (es.foldl skipEntry (skipEntry s e)).link
      queue := { c.queue with entries := [], skips := c.queue.skips + es.length } }) skipped),
      (told.silent (tells_nil (by rw [skipped]))).trans tolds⟩

/-! ### The drain end test (R150, R151) -/

theorem setList_tells (list : ListState) (limit : Option Nat) (s : State) : Tells s (setList list limit s) [] :=
  (noteOwners_tells (ownerBits s) (s.setQueue { s.queue with list := list, drainLimit := limit, skips := 0 })).after rfl

theorem setList_eq (list : ListState) (limit : Option Nat) (s : State) : setList list limit s =
    { s with link := (setList list limit s).link, queue := { s.queue with list := list, drainLimit := limit, skips := 0 } } := by
  unfold setList noteOwners
  split <;> rfl

/-- A drain that ends (R151). -/
theorem endDrain_eq (s : State) : let t := endDrain s
    t = { s with link := t.link, queue := ⟨[], .open, none, 0⟩ } ∧ Tells s t (drainNotices s.queue.skips s.queue.entries) := by
  obtain ⟨frame, told⟩ := skipEntries_eq s rfl
  have skips : (s.queue.entries.foldl skipEntry s).queue.skips = s.queue.skips + s.queue.entries.length := by rw [frame]
  refine ⟨?_, ?_⟩
  · exact (setList_eq _ _ _).trans (congrArg (fun c : State => { c with
      link := (endDrain s).link, queue := ⟨c.queue.entries, .open, none, 0⟩ }) frame)
  · refine (told.trans (post_tells _ _)).silent ?_
    rw [← skips]
    exact setList_tells _ _ _

theorem drainSpeaker_iff (f : Floor) :
    f.drainSpeaker = false ↔ ∀ (n : SlotNo) (sl : Slot), f.slots[n] = some sl → sl.drainGrant = false := by
  simp [Floor.drainSpeaker, Option.any_eq_false]

theorem drainAtEnd_iff (s : State) : drainAtEnd s = true ↔ DrainEnds s := by
  simp only [drainAtEnd, DrainEnds, RequestQueue.draining, Bool.and_eq_true, Bool.or_eq_true, Bool.not_eq_true', beq_iff_eq,
    drainSpeaker_iff, firstEligible_isNone, and_assoc]

theorem drainEndTest_ends (ends : DrainEnds s) : let t := drainEndTest s
    t = { s with link := t.link, queue := ⟨[], .open, none, 0⟩ } ∧ Tells s t (drainNotices s.queue.skips s.queue.entries) := by
  dsimp only
  rw [drainEndTest, if_pos ((drainAtEnd_iff s).2 ends)]
  exact endDrain_eq s

theorem drainEndTest_goesOn (goesOn : ¬DrainEnds s) : drainEndTest s = s := if_neg (mt (drainAtEnd_iff s).1 goesOn)

/-! ### A removal with its drain end test (R70) -/

theorem leaveQueue_takenOut (apart : (s.queue.entries.map (·.seat)).Nodup) (he : e ∈ s.queue.entries) (same : e.seat = seat)
    (l : LeaveReason) : leaveQueue seat l s = drainEndTest (takenOut e l s) := by
  rw [leaveQueue, if_pos ((hasEntry_iff s seat).2 ⟨e, he, same⟩), takeOut_takenOut apart he same]

theorem leaveQueue_unqueued (unqueued : ∀ e ∈ s.queue.entries, e.seat ≠ seat) (l : LeaveReason) : leaveQueue seat l s = s := by
  rw [leaveQueue, hasEntry_eq_false unqueued]
  rfl

/-- The place of an entry in a lawful queue is its index. -/
theorem placeOf_getElem {q : RequestQueue} (apart : (q.entries.map (·.seat)).Nodup) {k : Nat} (there : q.entries[k]? = some e) :
    q.placeOf e.seat = k := by
  obtain ⟨inside, rfl⟩ := List.getElem?_eq_some_iff.1 there
  refine (List.findIdx_eq inside).2 ⟨by simp, fun j before => ?_⟩
  have other : q.entries[j].seat ≠ q.entries[k].seat := fun same => by
    have eq : (q.entries.map (·.seat))[j]'(by simp; omega) = (q.entries.map (·.seat))[k]'(by simpa using inside) := by simpa using same
    have := apart.getElem_inj_iff.1 eq
    omega
  simpa using other

/-! ### QUEUE DROP and QUEUE EMPTY (R72, R73) -/

theorem takeQueueDrop_badValue {half : Half} (past : 511 < half.toNat) (s : State) :
    takeQueueDrop half s = refusedWith .badValue s := by simp only [takeQueueDrop, seatOf_none past]

theorem takeQueueDrop_notFound {half : Half} (hx : half.toNat = seat.val) (unqueued : ∀ e ∈ s.queue.entries, e.seat ≠ seat) :
    takeQueueDrop half s = refusedWith .notFound s := by
  simp [takeQueueDrop, seatOf_val hx, hasEntry_eq_false unqueued]

theorem takeQueueDrop_ok {half : Half} (hx : half.toNat = seat.val) (apart : (s.queue.entries.map (·.seat)).Nodup)
    (he : e ∈ s.queue.entries) (same : e.seat = seat) : takeQueueDrop half s =
      answeredOk (drainEndTest (takenOut e .link s)) (seatBytes seat ++ [byteOf (s.queue.placeOf seat)]) := by
  have has : hasEntry s seat = true := (hasEntry_iff s seat).2 ⟨e, he, same⟩
  simp only [takeQueueDrop, seatOf_val hx, has, if_true, leaveQueue_takenOut apart he same]

theorem takeQueueEmpty_none (none : s.queue.entries = []) : takeQueueEmpty s = answeredOk s [0] := by
  simp [takeQueueEmpty, none, byteOf]

theorem takeQueueEmpty_some (some : s.queue.entries ≠ []) : takeQueueEmpty s =
    answeredOk (drainEndTest (emptyQueue .emptied s)) [byteOf s.queue.entries.length] := by
  simp [takeQueueEmpty, List.length_eq_zero_iff, some]

/-- An order that removes entries and makes the drain end test, over the state `out` that the removals leave: it answers, and
either the drain goes on or its end is told after the removals (R72, R73, R150, R151). -/
theorem removal_tested {i : Instr} {k : Byte} {d : List Byte} {bs : List NoticeBody} {out : State} (hk : orderKind i = some k)
    (hi : i ≠ .status) (hm : ∀ m, i ≠ .noticeMask m) (hfr : i ≠ .floorReset) (takes : TakesOrders s)
    (hd : deliver i (oweAnswer s) = answeredOk (drainEndTest out) d) (es : List QueueEntry)
    (frame : out = { s with link := out.link, queue := { s.queue with entries := es } }) (told : Tells (oweAnswer s) out bs) :
    submit i s = .next (answered k .ok d (drainEndTest out)) ∧ (LinkFrame s out ∧ Posts s out bs) ∧
      (¬DrainEnds out → submit i s = .next (answered k .ok d out)) ∧
      (DrainEnds out → ∃ t, submit i s = .next t ∧ Answers s t k .ok d ∧ LinkFrame s t ∧
        t = { s with link := t.link, queue := ⟨[], .open, none, 0⟩ } ∧ Posts s t (bs ++ drainNotices s.queue.skips es)) := by
  have taken := (submit_answered hk hi hm hfr takes hd).1
  refine ⟨taken, told.owed, fun goesOn => by rw [taken, drainEndTest_goesOn goesOn], fun ends => ?_⟩
  obtain ⟨ended, endTold⟩ := drainEndTest_ends ends
  have skips : out.queue.skips = s.queue.skips := by rw [frame]
  have entries : out.queue.entries = es := by rw [frame]
  rw [skips, entries] at endTold
  obtain ⟨eq, answers, linkFrame, posts⟩ := submit_told hk hi hm hfr takes hd (told.trans endTold)
  refine ⟨_, eq, answers, linkFrame, ?_, posts⟩
  exact congrArg (State.setLink · _) (ended.trans (congrArg (fun c : State => { c with
    link := (drainEndTest out).link, queue := ⟨[], .open, none, 0⟩ }) frame))

/-- Settles O35: each order by its tests, a removal by `removal_tested`; and a removal as every other unit asks for it. -/
theorem queueDropAndEmpty : Obligations.QueueDropAndEmpty := by
  refine ⟨fun half s takes law => ⟨fun past => ?_, fun x hx => ⟨fun unqueued => ?_, fun e he same => ?_⟩⟩,
    fun s takes => ⟨fun none => ?_, fun some => ?_⟩, fun seat l s law => ⟨fun unqueued => ?_, fun k e there same => ?_,
      fun e he same => leaveQueue_takenOut law.2.1 he same l⟩⟩
  · exact submit_refused (i := .queueDrop half) rfl (by simp) takes (takeQueueDrop_badValue past _)
  · exact submit_refused (i := .queueDrop half) rfl (by simp) takes (takeQueueDrop_notFound (s := oweAnswer s) hx unqueued)
  · subst same
    obtain ⟨frame, told⟩ := takenOut_eq e .link (oweAnswer s)
    obtain ⟨taken, out, goesOn, ends⟩ := removal_tested (i := .queueDrop half) rfl (by simp) (by simp) (by simp) takes
      (takeQueueDrop_ok (s := oweAnswer s) hx law.2.1 he rfl) _ frame told
    refine ⟨taken, ⟨frame, out⟩, goesOn, fun ending => ?_⟩
    have entries : (takenOut e .link (oweAnswer s)).queue.entries = s.queue.entries.filter fun y => y.seat ≠ e.seat := by
      rw [frame]; rfl
    rw [entries]
    exact ends ending
  · exact submit_ok (i := .queueEmpty) rfl (by simp) takes (takeQueueEmpty_none (s := oweAnswer s) none) rfl
  · obtain ⟨frame, told⟩ := emptyQueue_eq .emptied (oweAnswer s)
    obtain ⟨taken, out, goesOn, ends⟩ := removal_tested (i := .queueEmpty) rfl (by simp) (by simp) (by simp) takes
      (takeQueueEmpty_some (s := oweAnswer s) some) _ frame told
    exact ⟨taken, ⟨frame, out⟩, goesOn, ends⟩
  · exact ⟨leaveQueue_unqueued unqueued l, entryOf_none unqueued⟩
  · subst same
    exact ⟨entryOf_mem law.2.1 (List.mem_of_getElem? there) rfl, placeOf_getElem law.2.1 there⟩

end Sys2Proof.Machine
end

section
namespace Sys2Proof.Machine
variable {s t u : State} {seat : Seat} {e : QueueEntry} {ahead behind : List QueueEntry} {n : SlotNo} {rest : List SlotNo}
  {o : Origin}

/-! ### A grant to an entry of the queue (R61, R71, R81) -/

/-- The record of a slot granted now: while the list is DRAINING a drain grant with the drain limit as its override (R71, R81). -/
abbrev grantedSlot (s : State) (seat : Seat) (o : Origin) : Slot :=
  let drain := decide (s.queue.list = .draining)
  ⟨seat, .open, o, false, s.link.clock, 0, if drain then s.queue.drainLimit else none, false, 0, drain⟩

theorem newSlot_granted (granted : o = .queue ∨ o = .next) (s : State) (seat : Seat) :
    newSlot s seat o false = grantedSlot s seat o := by
  have drain : (s.queue.draining && (o == .queue || o == .next)) = decide (s.queue.list = .draining) := by
    rcases granted with rfl | rfl <;> simp [RequestQueue.draining, beq_eq_decide]
  simp only [newSlot, drain]

theorem occupy_granted (granted : o = .queue ∨ o = .next) (n : SlotNo) (rest : List SlotNo) (seat : Seat) (s : State) :
    occupy n rest seat o false s =
      post (.floorOpened n seat o false (decide (s.queue.list = .draining)) s.link.clock) { s with
        seats := blankingRestarted s seat, floor := floorOpening n rest (grantedSlot s seat o) s.floor } := by
  simp only [occupy, newSlot_granted granted, restartBlanking_eq]
  rfl

/-- A slot put on the floor for a seat with none is the one that the seat holds. -/
theorem slotOf_opening {f : Floor} {sl : Slot} (nowhere : f.slotOf sl.seat = none) (n : SlotNo) (rest : List SlotNo) :
    (floorOpening n rest sl f).slotOf sl.seat = some n := by
  cases held : (floorOpening n rest sl f).slotOf sl.seat with
  | none =>
    exact absurd rfl (slotOf_none (a := sl) held (put_getElem_self f.slots n _))
  | some m =>
    obtain ⟨a, there, same⟩ := slotOf_some held
    rw [floorOpening, put_getElem] at there
    split at there
    · next here => rw [here]
    · exact absurd same (slotOf_none nowhere there)

/-- While a drain grant stands, and while the list is OPEN, no drain ends (R150). -/
theorem not_drainEnds_of_grant {sl : Slot} (slot : s.floor.slots[n] = some sl)
    (drain : sl.drainGrant = decide (s.queue.list = .draining)) : ¬DrainEnds s := by
  rintro ⟨draining, none, -⟩
  have := none n sl slot
  rw [drain, draining] at this
  cases this

section Split
variable (split : s.queue.entries = ahead ++ e :: behind)
include split

theorem filter_split (apart : (s.queue.entries.map (·.seat)).Nodup) :
    (s.queue.entries.filter fun x => x.seat ≠ e.seat) = ahead ++ behind ∧ ∀ x ∈ ahead, x.seat ≠ e.seat := by
  rw [split, List.map_append, List.map_cons, List.nodup_append] at apart
  obtain ⟨-, tail, cross⟩ := apart
  have before : ∀ x ∈ ahead, x.seat ≠ e.seat := fun x hx => cross _ (List.mem_map_of_mem hx) _ List.mem_cons_self
  have after : ∀ x ∈ behind, x.seat ≠ e.seat := fun x hx same =>
    (List.nodup_cons.1 tail).1 (same ▸ List.mem_map_of_mem hx)
  refine ⟨?_, before⟩
  rw [split, List.filter_append, List.filter_cons_of_neg (by simp), filter_unqueued before, filter_unqueued after]

/-- The opening path for an entry of the queue: the entry leaves, the slot opens, and no drain ends (R71, R81, R150). -/
theorem openSlot_granted (apart : (s.queue.entries.map (·.seat)).Nodup) (free : s.floor.free = n :: rest)
    (granted : o = .queue ∨ o = .next) : let t := openSlot e.seat o false s
    t = { s with
      link := t.link, seats := blankingRestarted s e.seat, queue := { s.queue with entries := ahead ++ behind }
      floor := floorOpening n rest (grantedSlot s e.seat o) s.floor } ∧
    Tells s t [.queueLeft e.seat e.kind .granted ahead.length,
      .floorOpened n e.seat o false (decide (s.queue.list = .draining)) s.link.clock] := by
  have waits : e ∈ s.queue.entries := by simp [split]
  obtain ⟨others, before⟩ := filter_split split apart
  obtain ⟨frame, told⟩ := takenOut_eq e .granted s
  rw [others] at frame
  have place : (s.queue.entries.findIdx fun x => x.seat == e.seat) = ahead.length := by
    rw [split]; exact findIdx_joined before rfl
  rw [place] at told
  have clock : (takenOut e .granted s).link.clock = s.link.clock := told.path.clock
  have occupied : occupy n rest e.seat o false (takenOut e .granted s) =
      post (.floorOpened n e.seat o false (decide (s.queue.list = .draining)) s.link.clock) { takenOut e .granted s with
        seats := blankingRestarted s e.seat, floor := floorOpening n rest (grantedSlot s e.seat o) s.floor } := by
    generalize takenOut e .granted s = out at frame clock
    rw [occupy_granted granted]
    generalize out.link = link at frame clock
    subst frame
    dsimp only at clock ⊢
    rw [grantedSlot, grantedSlot, clock]
    rfl
  have opened : openSlot e.seat o false s = post (.floorOpened n e.seat o false (decide (s.queue.list = .draining)) s.link.clock)
      { takenOut e .granted s with
        seats := blankingRestarted s e.seat, floor := floorOpening n rest (grantedSlot s e.seat o) s.floor } := by
    rw [openSlot_waiting o free ⟨e, waits, rfl⟩, takeOut_takenOut apart waits rfl, occupied]
    refine drainEndTest_goesOn (not_drainEnds_of_grant (n := n) (sl := grantedSlot s e.seat o) (put_getElem_self _ _ _) ?_)
    change decide (s.queue.list = .draining) = decide ((takenOut e .granted s).queue.list = .draining)
    rw [frame]
  dsimp only
  rw [opened]
  refine ⟨?_, told.trans ((post_tells _ _).after rfl)⟩
  exact congrArg (fun c : State => { c with
    link := (post (.floorOpened n e.seat o false (decide (s.queue.list = ListState.draining)) s.link.clock) { takenOut e .granted s with
      seats := blankingRestarted s e.seat, floor := floorOpening n rest (grantedSlot s e.seat o) s.floor }).link
    seats := blankingRestarted s e.seat, floor := floorOpening n rest (grantedSlot s e.seat o) s.floor }) frame

theorem openSlot_grants (q : Queues s) (apart : (s.queue.entries.map (·.seat)).Nodup) (free : s.floor.free = n :: rest)
    (granted : o = .queue ∨ o = .next) : Grants s (openSlot e.seat o false s) ahead behind e n rest o := by
  obtain ⟨frame, told⟩ := openSlot_granted split apart free granted
  exact ⟨frame, told.linkFrame q, told.posts q⟩

/-- The first eligible entry (R61). -/
theorem firstEligible_split (none : ∀ x ∈ ahead, eligibility s x ≠ .eligible) (may : eligibility s e = .eligible) :
    firstEligible s = some e := by
  have skipped : ahead.find? (fun x => decide (eligibility s x = .eligible)) = Option.none :=
    List.find?_eq_none.2 fun x hx => by simpa using none x hx
  rw [firstEligible_eq, split, List.find?_append, skipped, Option.none_or, List.find?_cons_of_pos (by simpa using may)]

end Split

/-! ### FLOOR NEXT and NEXT of a chair (R101) -/

theorem nextRefusal_priority (held : 0 < holdCount s) : nextRefusal s = some .priority := if_pos held

theorem nextRefusal_noSlot (free : holdCount s = 0) (full : (inForce s).speakerLimit ≤ s.floor.occupied) :
    nextRefusal s = some .noSlot := by
  have noSlot : freeSlotExists s = false := decide_eq_false (not_lt.2 full)
  simp [nextRefusal, free, noSlot]

section Room
variable (free : holdCount s = 0) (room : s.floor.occupied < (inForce s).speakerLimit)
include free room

theorem nextRefusal_room : nextRefusal s = if (firstEligible s).isNone then some .empty else none := by
  simp [nextRefusal, free, (freeSlotExists_iff s).2 room]

theorem nextRefusal_empty (nobody : ∀ e ∈ s.queue.entries, eligibility s e ≠ .eligible) : nextRefusal s = some .empty := by
  rw [nextRefusal_room free room, if_pos ((firstEligible_isNone s).2 nobody)]

theorem nextRefusal_first (first : firstEligible s = some e) : nextRefusal s = none := by
  rw [nextRefusal_room free room, first]; rfl

theorem takeFloorNext_first (first : firstEligible s = some e) : takeFloorNext s =
    answeredOk (openSlot e.seat .next false s) (seatSlotBytes e.seat ((openSlot e.seat .next false s).floor.slotOf e.seat)) := by
  simp only [takeFloorNext, nextRefusal_first free room first, first]

theorem chairNext_first (first : firstEligible s = some e) (seat : Seat) : chairNext seat s = openSlot e.seat .next false s := by
  simp only [chairNext, nextRefusal_first free room first, first]

end Room

theorem takeFloorNext_refused {c : RefusalCause} (refusal : nextRefusal s = some c) :
    takeFloorNext s = refusedWith (nextRefusalCode c) s := by simp only [takeFloorNext, refusal]

theorem chairNext_refused {c : RefusalCause} (refusal : nextRefusal s = some c) (seat : Seat) :
    chairNext seat s = refuse seat .next c s := by simp only [chairNext, refusal]

/-- Settles O38: the three refusals by `nextRefusal`, and the grant to the first eligible entry by `openSlot_granted`; the order
and the chair's NEXT differ in what a refusal is and in the answer alone. -/
theorem floorNextGrantsTheFirstEligible : Obligations.FloorNextGrantsTheFirstEligible := by
  refine ⟨fun s takes => ⟨fun held => ?_, fun free full => ?_, fun free room nobody => ?_,
    fun ahead behind e n rest laws free room split none may slots => ?_⟩, fun seat s sending => ?_⟩
  · exact submit_refused (i := .floorNext) rfl (by simp) takes
      (takeFloorNext_refused (s := oweAnswer s) (nextRefusal_priority (s := oweAnswer s) held))
  · exact submit_refused (i := .floorNext) rfl (by simp) takes
      (takeFloorNext_refused (s := oweAnswer s) (nextRefusal_noSlot (s := oweAnswer s) free full))
  · exact submit_refused (i := .floorNext) rfl (by simp) takes
      (takeFloorNext_refused (s := oweAnswer s) (nextRefusal_empty (s := oweAnswer s) free room nobody))
  · have apart : (s.queue.entries.map (·.seat)).Nodup := laws.1.2.1
    obtain ⟨frame, told⟩ := openSlot_granted (s := oweAnswer s) (o := .next) split apart slots (.inr rfl)
    have nowhere : s.floor.slotOf e.seat = Option.none := (slotOf_none_iff s.floor e.seat).2 fun m a slot same =>
      laws.2.2.2 m a slot e (by simp [split]) same.symm
    have held : (openSlot e.seat .next false (oweAnswer s)).floor.slotOf e.seat = some n := by
      rw [frame]
      exact slotOf_opening (sl := grantedSlot (oweAnswer s) e.seat .next) nowhere n rest
    have taken := takeFloorNext_first (s := oweAnswer s) free room (firstEligible_split (s := oweAnswer s) split none may)
    rw [held] at taken
    obtain ⟨eq, answers, linkFrame, posts⟩ := submit_told (i := .floorNext) rfl (by simp) (by simp) (by simp) takes taken told
    exact ⟨_, eq, answers, congrArg (State.setLink · _) frame, linkFrame, posts⟩
  · have queues : Queues s := .inl sending.2
    refine ⟨fun held => ?_, fun free full => ?_, fun free room nobody => ?_,
      fun ahead behind e n rest laws free room split none may slots => ?_⟩
    · exact refused_of_eq queues (chairNext_refused (nextRefusal_priority held) seat)
    · exact refused_of_eq queues (chairNext_refused (nextRefusal_noSlot free full) seat)
    · exact refused_of_eq queues (chairNext_refused (nextRefusal_empty free room nobody) seat)
    · rw [chairNext_first free room (firstEligible_split split none may)]
      exact openSlot_grants split queues laws.1.2.1 slots (.inr rfl)

end Sys2Proof.Machine
end

section
namespace Sys2Proof.Machine
variable {s u : State}

/-! ### FLOOR RESET (R60, R105, R147, R159) -/

/-- A change of the summary is no loss of a notice. -/
theorem noteOwners_lost (o : OwnerBits) (s : State) : (noteOwners o s).link.lost = s.link.lost := by
  unfold noteOwners Link.raise Link.startWaiting
  dsimp only
  (repeat' split) <;> rfl

/-- An answer handed on rewrites the answer register and the transmitter alone. -/
theorem withAnswer_link (a : Answer) (s : State) : ∃ r x, (withAnswer a s).link = { s.link with answer := r, tx := x } := by
  unfold withAnswer
  cases s.link.tx <;> exact ⟨_, _, rfl⟩

/-- An answer goes by the transmitter as it stood before the order (R162). -/
theorem answers_of_tx (same : u.link.tx = s.link.tx) (k : Byte) (c : ResultCode) (d : List Byte) :
    Answers s (answered k c d u) k c d := by
  have answer : answerIn (answered k c d u) k c d = answerIn u k c d := by simp [answerIn, answered, summary_withAnswer]
  unfold Answers
  rw [answer]
  cases sending : s.link.tx <;> simp [answered, withAnswer, same, sending, State.setLink]

/-- The floor and the queue as FLOOR RESET leaves them, with the notices still to go. -/
def floorEmptied (s : State) : State := setList .open none (setEntries [] (s.setFloor s.floor.cleared))

theorem floorEmptied_keeps (s : State) : KeepsTrunks s (floorEmptied s) ∧ (floorEmptied s).seats = s.seats ∧
    (floorEmptied s).floor = s.floor.cleared ∧ (floorEmptied s).queue = ⟨[], .open, none, 0⟩ := by
  simp [floorEmptied, Keeps, KeepsTrunks, setList, setEntries]

theorem floorEmptied_link (s : State) : LinkPath s.link (floorEmptied s).link ∧ (floorEmptied s).link.lost = s.link.lost :=
  ⟨setList_path _ _ _ (setEntries_path _ _ .refl), (noteOwners_lost _ _).trans (noteOwners_lost _ _)⟩

theorem exec_floorReset (takes : TakesOrders s) : exec .floorReset s = .next (answered 0x27 .ok []
    ((floorEmptied (oweAnswer s)).setLink { (floorEmptied (oweAnswer s)).link with notices := [] })) :=
  submit_taken (i := .floorReset) rfl (by simp) takes ((floorEmptied_link (oweAnswer s)).1.heldFrame.trans takes.2.2)

/-- Settles O41: the emptied floor and queue, and the link with its notices gone and the answer handed on. -/
theorem floorResetClearsTheFloor : Obligations.FloorResetClearsTheFloor := by
  intro s takes
  obtain ⟨keeps, seats, floor, queue⟩ := floorEmptied_keeps (oweAnswer s)
  obtain ⟨path, lost⟩ := floorEmptied_link (oweAnswer s)
  have tx : (floorEmptied (oweAnswer s)).link.tx = s.link.tx := (path.quiet (.inr (by simp [oweAnswer]))).1
  let cleared := (floorEmptied (oweAnswer s)).setLink { (floorEmptied (oweAnswer s)).link with notices := [] }
  obtain ⟨r, x, link⟩ := withAnswer_link (answerIn cleared 0x27 .ok []) cleared
  refine ⟨answered 0x27 .ok [] cleared, exec_floorReset takes, answers_of_tx (u := cleared) tx _ _ _, eq_with_queue_floor keeps seats, queue, ?_⟩
  have floor : (answered 0x27 .ok [] cleared).floor = s.floor.cleared := floor
  have link : (answered 0x27 .ok [] cleared).link = { cleared.link with answer := r, tx := x } := link
  rw [floor, link]
  refine ⟨fun n => ?_, rfl, rfl, fun seat => ?_, rfl, rfl, rfl, path.mask, path.clock, path.stage, lost, path.dropped, path.restart⟩
  · simp [Floor.cleared]
  · simp [Floor.cleared]

end Sys2Proof.Machine
end

section
namespace Sys2Proof.Machine
variable {s : State} {ns : List SlotNo} {n : SlotNo} {sl : Slot} {f : Floor}

/-! ### Slots closed one after another with the list OPEN (R68, R82) -/

/-- The floor with slots taken off it, each to the head of the free-slot order in its turn (R82, step 1). -/
def floorShut (ns : List SlotNo) (f : Floor) : Floor :=
  { f with
    slots := Vector.ofFn fun n => if n ∈ ns then none else f.slots[n]
    speakers := f.speakers.filter fun n => decide (n ∉ ns)
    free := ns.reverse ++ f.free }

theorem floorShut_slots (ns : List SlotNo) (f : Floor) (n : SlotNo) :
    (floorShut ns f).slots[n] = if n ∈ ns then none else f.slots[n] := by
  simp [floorShut]

theorem floorShut_nil (f : Floor) : floorShut [] f = f := by
  have slots : (floorShut [] f).slots = f.slots := Vector.ext fun i hi => by simp [floorShut]
  have speakers : (floorShut [] f).speakers = f.speakers := by simp [floorShut]
  exact congrArg₂ (fun v l => ({ f with slots := v, speakers := l } : Floor)) slots speakers

theorem floorShut_snoc (nodup : f.speakers.Nodup) (ns : List SlotNo) (n : SlotNo) :
    floorShut (ns ++ [n]) f = floorClosing n (floorShut ns f) := by
  have slots : (floorShut (ns ++ [n]) f).slots = put (floorShut ns f).slots n none := Vector.ext fun i hi => by
    have split := put_getElem (floorShut ns f).slots n ⟨i, hi⟩ none
    have inner := floorShut_slots ns f ⟨i, hi⟩
    have outer := floorShut_slots (ns ++ [n]) f ⟨i, hi⟩
    refine outer.trans (.trans ?_ split.symm)
    rw [inner]
    by_cases here : (⟨i, hi⟩ : SlotNo) = n <;> simp [here]
  have speakers : (floorShut (ns ++ [n]) f).speakers = (floorShut ns f).speakers.erase n := by
    simp only [floorShut]
    rw [(nodup.filter _).erase_eq_filter, List.filter_filter]
    simp [bne, beq_eq_decide, Bool.and_comm]
  have free : (floorShut (ns ++ [n]) f).free = n :: (floorShut ns f).free := by simp [floorShut]
  unfold floorClosing
  rw [← slots, ← speakers, ← free]
  rfl

/-- A seat speaks in one of the slots of a list. -/
def spokeIn (s : State) (ns : List SlotNo) (y : Seat) : Bool := ns.any fun n => (s.floor.slots[n]).any fun sl => sl.seat == y

/-- An entry after the close of the slots of a list: heard, when bound to a seat that spoke in one of them (R68). -/
def hearShut (s : State) (ns : List SlotNo) (e : QueueEntry) : QueueEntry :=
  if e.target.any (spokeIn s ns) then { e with heard := true } else e

theorem hearShut_snoc (slot : s.floor.slots[n] = some sl) (ns : List SlotNo) (e : QueueEntry) :
    hearShut s (ns ++ [n]) e = hearEntry sl.seat (hearShut s ns e) := by
  cases target : e.target with
  | none => simp [hearShut, hearEntry, target]
  | some y =>
    have joined : spokeIn s (ns ++ [n]) y = (spokeIn s ns y || sl.seat == y) := by simp [spokeIn, slot, -Fin.getElem_fin]
    have target' : (hearShut s ns e).target = some y := by unfold hearShut; split <;> exact target
    by_cases same : sl.seat = y
    · simp only [hearEntry, target', same, if_true]
      by_cases before : spokeIn s ns y = true <;> simp [hearShut, target, joined, before, same]
    · have other : some y ≠ some sl.seat := fun eq => same (Option.some.inj eq).symm
      rw [hearEntry, target', if_neg other]
      simp [hearShut, target, joined, same]

/-- FLOOR CLOSED for the speech in a slot. -/
def closeNotice (s : State) (c : CloseReason) (n : SlotNo) : Option NoticeBody :=
  (s.floor.slots[n]).map fun sl => .floorClosed n sl.seat c sl.origin sl.elapsed

/-- With the list OPEN the closes of a group take its slots off the floor, set heard and tell each close in its turn. -/
theorem closedInTurn_open (list : s.queue.list = .open) (nodup : s.floor.speakers.Nodup) (c : CloseReason) (ns : List SlotNo)
    (apart : ns.Nodup) (occupied : ∀ n ∈ ns, (s.floor.slots[n]).isSome = true) : let t := closedInTurn ns c s
    t = { s with link := t.link, floor := floorShut ns s.floor
                 queue := { s.queue with entries := s.queue.entries.map (hearShut s ns) } } ∧
      Tells s t (ns.filterMap (closeNotice s c)) := by
  induction ns using List.reverseRecOn with
  | nil =>
    refine ⟨?_, tells_nil rfl⟩
    have entries : s.queue.entries.map (hearShut s []) = s.queue.entries := List.map_id'' (fun e => by
      have none : e.target.any (spokeIn s []) = false := by cases e.target <;> rfl
      simp [hearShut, none]) _
    rw [floorShut_nil, entries]
    rfl
  | append_singleton ns n ih =>
    obtain ⟨before, -, fresh⟩ := List.nodup_append.1 apart
    have fresh : n ∉ ns := fun there => fresh n there n (by simp) rfl
    obtain ⟨frame, told⟩ := ih before fun m hm => occupied m (by simp [hm])
    obtain ⟨sl, slot⟩ := Option.isSome_iff_exists.1 (occupied n (by simp))
    have stands : (closedInTurn ns c s).floor.slots[n] = some sl := by
      rw [show (closedInTurn ns c s).floor = _ from congrArg State.floor frame, floorShut_slots, if_neg fresh, slot]
    obtain ⟨closed, closeTold⟩ := closeSlot_open (s := closedInTurn ns c s) (by rw [frame]; exact list) c stands
    have snoc : closedInTurn (ns ++ [n]) c s = closeSlot n c (closedInTurn ns c s) := by simp [closedInTurn]
    have heard : s.queue.entries.map (hearShut s (ns ++ [n])) = (s.queue.entries.map (hearShut s ns)).map (hearEntry sl.seat) := by
      simp [hearShut_snoc slot]
    rw [snoc, floorShut_snoc nodup, heard]
    refine ⟨closed.trans (congrArg (fun v : State => { v with
      link := (closeSlot n c (closedInTurn ns c s)).link, floor := floorClosing n v.floor
      queue := { v.queue with entries := v.queue.entries.map (hearEntry sl.seat) } }) frame), ?_⟩
    have notice : [n].filterMap (closeNotice s c) = [.floorClosed n sl.seat c sl.origin sl.elapsed] := by
      simp [closeNotice, slot]
    rw [List.filterMap_append, notice]
    exact told.trans closeTold

end Sys2Proof.Machine
end

section
namespace Sys2Proof.Machine
variable {s : State} {mask : Byte} {seat : Half} {x : Seat}

/-! ### WING MASK (R98) -/

/-- The speech in a slot stands on a wing whose enable goes from on to off under a mask (R98). -/
def goesOff (s : State) (mask : Byte) (sl : Slot) : Bool := (s.trunks.binding[sl.seat]).any fun p =>
  s.floor.mask.getLsbD p.wing.val && !mask.getLsbD p.wing.val

/-- The slots a mask closes, from the head of the speaker list. -/
def maskedSlots (s : State) (mask : Byte) : List SlotNo :=
  s.floor.speakers.filter fun n => (s.floor.slots[n]).any (goesOff s mask)

/-- The floor under a mask, its closes still to come. -/
def maskSet (s : State) (mask : Byte) : State := s.setFloor { s.floor with mask := mask.truncate 4 }

theorem newlyMasked_eq (s : State) (mask : Byte) (n : SlotNo) :
    newlyMasked s (mask.truncate 4) n = (s.floor.slots[n]).any (goesOff s mask) := by
  have low (p : Place) : (mask.truncate 4).getLsbD p.wing.val = mask.getLsbD p.wing.val := by
    simp [p.wing.isLt]
  refine congrArg (Option.any · _) (funext fun sl => ?_)
  simp only [goesOff, placeOf, low]

theorem takeWingMask_badValue (past : 15 < mask.toNat) (s : State) : takeWingMask mask s = refusedWith .badValue s :=
  if_neg (by omega)

theorem takeWingMask_ok (le : mask.toNat ≤ 15) (s : State) : takeWingMask mask s =
    answeredOk (advanceCheck (drainEndTest (closedInTurn (maskedSlots s mask) .mask (maskSet s mask)))) [mask] := by
  have same : newlyMasked s (mask.truncate 4) = fun n => (s.floor.slots[n]).any (goesOff s mask) :=
    funext (newlyMasked_eq s mask)
  unfold takeWingMask
  rw [if_pos (by omega)]
  simp only [same]
  rfl

/-- With the list OPEN and no advance following, WING MASK is the mask and its closes (R82, R98). -/
theorem maskSet_closed (still : NoAdvance s) (law : SlotListsLaw s) (mask : Byte) :
    let t := advanceCheck (drainEndTest (closedInTurn (maskedSlots s mask) .mask (maskSet s mask)))
    t = { s with link := t.link, floor := floorShut (maskedSlots s mask) (maskSet s mask).floor
                 queue := { s.queue with entries := s.queue.entries.map (hearShut s (maskedSlots s mask)) } } ∧
      Tells s t ((maskedSlots s mask).filterMap (closeNotice s .mask)) := by
  have occupied (n : SlotNo) (hn : n ∈ maskedSlots s mask) : (s.floor.slots[n]).isSome = true :=
    (law.2.2.1 n).1 (List.mem_filter.1 hn).1
  obtain ⟨frame, told⟩ := closedInTurn_open (s := maskSet s mask) still.1 law.1 .mask (maskedSlots s mask) (law.1.filter _) occupied
  have noAdvance : NoAdvance (closedInTurn (maskedSlots s mask) .mask (maskSet s mask)) :=
    still.congr (by rw [frame]; rfl) (by rw [frame]; rfl)
  rw [drainEndTest_open noAdvance.1, advanceCheck_noAdvance noAdvance]
  exact ⟨frame, told.after rfl⟩

theorem maskedSlots_shut (law : SlotListsLaw s) (mask : Byte) (n : SlotNo) :
    (floorShut (maskedSlots s mask) (maskSet s mask).floor).slots[n] = (s.floor.slots[n]).filter fun sl => !goesOff s mask sl := by
  rw [floorShut_slots]
  cases slot : s.floor.slots[n] with
  | none => simp [maskSet, slot]
  | some sl =>
    have speaks : n ∈ s.floor.speakers := (law.2.2.1 n).2 (by simp [slot])
    have closes : n ∈ maskedSlots s mask ↔ goesOff s mask sl = true := by
      simp [maskedSlots, speaks, slot, -Fin.getElem_fin]
    by_cases off : goesOff s mask sl = true <;> simp [closes, off, maskSet, slot, Option.filter]

theorem maskedSlots_speakers (law : SlotListsLaw s) (mask : Byte) : (floorShut (maskedSlots s mask) (maskSet s mask).floor).speakers =
    s.floor.speakers.filter fun n => ((floorShut (maskedSlots s mask) (maskSet s mask).floor).slots[n]).isSome := by
  refine List.filter_congr fun n hn => ?_
  rw [floorShut_slots]
  have occupied := (law.2.2.1 n).1 hn
  by_cases closes : n ∈ maskedSlots s mask <;> simp [closes, maskSet, occupied, -Fin.getElem_fin]

theorem maskedSlots_notices (s : State) (mask : Byte) : (maskedSlots s mask).filterMap (closeNotice s .mask) =
    (s.floor.speakers.filterMap fun n => s.floor.slots[n].map fun sl => (n, sl)).filterMap fun x =>
      if goesOff s mask x.2 then some (.floorClosed x.1 x.2.seat .mask x.2.origin x.2.elapsed) else none := by
  rw [maskedSlots, List.filterMap_filter, List.filterMap_filterMap]
  refine List.filterMap_congr fun n _ => ?_
  cases slot : s.floor.slots[n] <;> simp [closeNotice, slot]

/-! ### The flags a seat is held back by (R3, R18, R97, R98) -/

theorem isMasked_iff (s : State) (x : Seat) :
    isMasked s x = true ↔ ∃ p, s.trunks.binding[x] = some p ∧ s.floor.mask.toNat / 2 ^ p.wing.val % 2 = 0 := by
  have off (p : Place) : (!s.floor.mask.getLsbD p.wing.val) = true ↔ s.floor.mask.toNat / 2 ^ p.wing.val % 2 = 0 := by
    simp [BitVec.getLsbD, Nat.testBit, Nat.shiftRight_eq_div_pow, Nat.and_comm 1, Nat.and_one_is_mod]
  simp only [isMasked, placeOf, Option.any_eq_true, off]

theorem isReady_iff (s : State) (x : Seat) : isReady s x = true ↔ s.trunks.binding[x] ≠ none := by
  simp [isReady, placeOf, Option.isSome_iff_ne_none]

/-! ### UNLOCK (R97) -/

theorem takeUnlock_badValue (past : 511 < seat.toNat) (s : State) : takeUnlock seat s = refusedWith .badValue s := by
  simp only [takeUnlock, seatOf_none past]

theorem takeUnlock_notFound (hx : seat.toNat = x.val) (unlocked : s.floor.locked[x] = false) :
    takeUnlock seat s = refusedWith .notFound s := by
  simp only [takeUnlock, seatOf_val hx, isLocked, unlocked]
  rfl

theorem takeUnlock_ok (hx : seat.toNat = x.val) (locked : s.floor.locked[x] = true) : takeUnlock seat s =
    answeredOk (advanceCheck (if hasEntry s x then drainEndTest (setLocked x false s) else setLocked x false s))
      (seatBytes x) := by
  simp only [takeUnlock, seatOf_val hx, isLocked, locked, if_true]

/-- Settles O40: each order by its tests, and the closes of WING MASK by `closedInTurn_open`. -/
theorem wingMaskAndUnlock : Obligations.WingMaskAndUnlock := by
  refine ⟨fun mask s takes => ⟨fun past => ?_, fun le => ?_, fun le still law => ?_⟩,
    fun x s => ⟨isMasked_iff s x, isReady_iff s x, rfl⟩,
    fun seat s takes => ⟨fun past => ?_, fun x hx => ⟨fun unlocked => ?_, fun locked => ⟨fun queued => ?_, fun unqueued => ?_⟩,
      fun locked still => ?_⟩⟩⟩
  · exact submit_refused (i := .wingMask mask) rfl (by simp) takes (takeWingMask_badValue past _)
  · exact (submit_answered (i := .wingMask mask) rfl (by simp) (by simp) (by simp) takes (takeWingMask_ok le _)).1
  · obtain ⟨frame, told⟩ := maskSet_closed (s := oweAnswer s) still law mask
    obtain ⟨eq, answers, linkFrame, posts⟩ := submit_told (i := .wingMask mask) rfl (by simp) (by simp) (by simp) takes
      (takeWingMask_ok le _) told
    let u := advanceCheck (drainEndTest (closedInTurn (maskedSlots (oweAnswer s) mask) .mask (maskSet (oweAnswer s) mask)))
    have floor : u.floor = floorShut (maskedSlots s mask) (maskSet s mask).floor := congrArg State.floor frame
    have entries : u.queue.entries = s.queue.entries.map (hearShut s (maskedSlots s mask)) :=
      congrArg (fun v : State => v.queue.entries) frame
    refine ⟨answered 0x25 .ok [mask] u, eq, answers, linkFrame, ?_, ?_, ?_, ?_, fun n => ?_, ?_, ?_, ?_, ?_⟩
    · have whole : u = { s with link := u.link, queue := { s.queue with entries := u.queue.entries }, floor := u.floor } := by
        rw [entries, floor]; exact frame
      exact congrArg (State.setLink · (answered 0x25 .ok [mask] u).link) whole
    · refine (congrArg (fun f : Floor => f.mask.toNat) floor).trans ?_
      simp only [floorShut, maskSet, BitVec.truncate_eq_setWidth]
      exact Nat.mod_eq_of_lt (by omega)
    · exact (congrArg Floor.chairs floor :)
    · exact (congrArg Floor.locked floor :)
    · exact (congrArg (fun f : Floor => f.slots[n]) floor).trans (maskedSlots_shut law mask n)
    · have speakers := maskedSlots_speakers law mask
      rw [← floor] at speakers
      exact speakers
    · exact congrArg Floor.free floor
    · exact entries
    · exact (maskedSlots_notices s mask) ▸ posts
  · exact submit_refused (i := .unlock seat) rfl (by simp) takes (takeUnlock_badValue past _)
  · exact submit_refused (i := .unlock seat) rfl (by simp) takes (takeUnlock_notFound hx unlocked)
  · have taken := (submit_answered (i := .unlock seat) rfl (by simp) (by simp) (by simp) takes
      (takeUnlock_ok (s := oweAnswer s) hx locked)).1
    rwa [if_pos ((hasEntry_iff (oweAnswer s) x).2 queued)] at taken
  · have taken := (submit_answered (i := .unlock seat) rfl (by simp) (by simp) (by simp) takes
      (takeUnlock_ok (s := oweAnswer s) hx locked)).1
    rwa [hasEntry_eq_false (s := oweAnswer s) unqueued] at taken
  · have ok := takeUnlock_ok (s := oweAnswer s) hx locked
    have still : NoAdvance (setLocked x false (oweAnswer s)) := still
    rw [drainEndTest_open still.1, ite_self, advanceCheck_noAdvance still] at ok
    exact submit_ok (i := .unlock seat) rfl (by simp) takes
      (t := s.setFloor { s.floor with locked := put s.floor.locked x false }) ok rfl

end Sys2Proof.Machine
end

section
namespace Sys2Proof.Machine
variable {s u : State} {p q : Seat → Bool} {x : Seat}

/-! ### Blanking restarted for a set of seats (R51) -/

/-- The seat records with the blanking of a set of seats restarted. -/
def seatsBlanked (s : State) (p : Seat → Bool) : SeatTable :=
  Vector.ofFn fun x => if p x then (blankingRestarted s x)[x] else s.seats[x]

theorem blankingRestarted_self (s : State) (x : Seat) : (blankingRestarted s x)[x] = (s.seats[x]).map fun r =>
    { r with blanking := (inForce s).blankCount, howlRun := 0, releaseRun := 0 } := put_getElem_self _ _ _

theorem seatsBlanked_getElem (s : State) (p : Seat → Bool) (x : Seat) :
    (seatsBlanked s p)[x] = if p x then (blankingRestarted s x)[x] else s.seats[x] := by simp [seatsBlanked]

theorem seatsBlanked_none (none : ∀ x, p x = false) : seatsBlanked s p = s.seats :=
  Vector.ext fun i hi => (seatsBlanked_getElem s p ⟨i, hi⟩).trans (if_neg (by simp [none]))

theorem seatsBlanked_congr (same : ∀ x, p x = q x) : seatsBlanked s p = seatsBlanked s q := by
  rw [funext same]

/-- Restarted twice is restarted once. -/
theorem seatsBlanked_again (profiles : u.profiles = s.profiles) (seats : u.seats = seatsBlanked s p) (q : Seat → Bool) :
    seatsBlanked u q = seatsBlanked s fun x => p x || q x := Vector.ext fun i hi => by
  have first : u.seats[(⟨i, hi⟩ : Seat)] = _ := (congrArg (·[(⟨i, hi⟩ : Seat)]) seats).trans (seatsBlanked_getElem s p ⟨i, hi⟩)
  have profile : inForce u = inForce s := inForce_congr profiles
  refine (seatsBlanked_getElem u q ⟨i, hi⟩).trans (.trans ?_ (seatsBlanked_getElem s _ ⟨i, hi⟩).symm)
  simp only [blankingRestarted_self, first, profile]
  by_cases before : p ⟨i, hi⟩ = true <;> by_cases after : q ⟨i, hi⟩ = true <;> simp [before, after, Function.comp_def]

theorem blankingRestarted_eq (s : State) (y : Seat) : blankingRestarted s y = seatsBlanked s fun x => y == x :=
  Vector.ext fun i hi => by
    refine .trans ?_ (seatsBlanked_getElem s _ ⟨i, hi⟩).symm
    by_cases same : y = ⟨i, hi⟩
    · subst same; simp
    · have other : (⟨i, hi⟩ : Seat) ≠ y := fun eq => same eq.symm
      exact (put_getElem_ne _ _ other).trans (if_neg (by simpa using same)).symm

/-- One more seat with its blanking restarted, or none. -/
theorem seatsBlanked_next (profiles : u.profiles = s.profiles) (seats : u.seats = seatsBlanked s p) (y : Seat) (b : Bool) :
    (if b then blankingRestarted u y else u.seats) = seatsBlanked s fun x => p x || (y == x && b) := by
  cases b with
  | true => simp only [if_true, blankingRestarted_eq, seatsBlanked_again profiles seats, Bool.and_true]
  | false => simp only [Bool.false_eq_true, if_false, seats, Bool.and_false, Bool.or_false]

end Sys2Proof.Machine
end

section
namespace Sys2Proof.Machine
variable {s u : State} {f : Floor} {n : SlotNo} {ns : List SlotNo} {g : Slot → Slot}

/-! ### Slots muted and opened again one after another (R93, R94) -/

/-- The floor with the records of a list of slots changed. -/
def slotsMapped (ns : List SlotNo) (g : Slot → Slot) (f : Floor) : Floor :=
  { f with slots := Vector.ofFn fun n => if n ∈ ns then (f.slots[n]).map g else f.slots[n] }

theorem slotsMapped_slots (ns : List SlotNo) (g : Slot → Slot) (f : Floor) (n : SlotNo) :
    (slotsMapped ns g f).slots[n] = if n ∈ ns then (f.slots[n]).map g else f.slots[n] := by simp [slotsMapped]

theorem slotsMapped_nil (g : Slot → Slot) (f : Floor) : slotsMapped [] g f = f := by
  have slots : (slotsMapped [] g f).slots = f.slots := Vector.ext fun i hi => by simp [slotsMapped]
  exact congrArg (fun v => ({ f with slots := v } : Floor)) slots

theorem slotsMapped_snoc (fresh : n ∉ ns) (g : Slot → Slot) (f : Floor) :
    slotsMapped (ns ++ [n]) g f = (slotsMapped ns g f).mapSlot n g := by
  have slots : (slotsMapped (ns ++ [n]) g f).slots = put (slotsMapped ns g f).slots n (((slotsMapped ns g f).slots[n]).map g) :=
    Vector.ext fun i hi => by
      have split := put_getElem (slotsMapped ns g f).slots n ⟨i, hi⟩ (((slotsMapped ns g f).slots[n]).map g)
      refine (slotsMapped_slots (ns ++ [n]) g f ⟨i, hi⟩).trans (.trans ?_ split.symm)
      rw [slotsMapped_slots, slotsMapped_slots, if_neg fresh]
      by_cases here : (⟨i, hi⟩ : SlotNo) = n
      · subst here; simp
      · simp [here]
  unfold Floor.mapSlot
  rw [← slots]
  rfl

/-- Every speaker's slot changed is every slot changed (R78). -/
theorem slotsMapped_speakers (law : SlotListsLaw s) (g : Slot → Slot) (n : SlotNo) :
    (slotsMapped s.floor.speakers g s.floor).slots[n] = (s.floor.slots[n]).map g := by
  rw [slotsMapped_slots]
  split
  · rfl
  · next silent =>
    have free : s.floor.slots[n] = none := by simpa using mt (law.2.2.1 n).2 silent
    rw [free]
    rfl

/-- A slot record at the start of a hold with action MUTE (R93, step 2). -/
def slotMuted (sl : Slot) : Slot := if sl.condition = .open then { sl with condition := .muted } else sl

/-- A slot record at the end of a hold (R94, step 2). -/
def slotUnmuted (sl : Slot) : Slot := if sl.condition = .muted then { sl with condition := .open } else sl

/-- The seat holds a MUTED slot among a list of slots. -/
def mutedIn (s : State) (ns : List SlotNo) (x : Seat) : Bool :=
  ns.any fun n => (s.floor.slots[n]).any fun sl => sl.seat == x && sl.condition == .muted

theorem muteSlots_eq (nodup : ns.Nodup) (s : State) : ns.foldl muteSlot s = s.setFloor (slotsMapped ns slotMuted s.floor) := by
  induction ns using List.reverseRecOn with
  | nil => rw [slotsMapped_nil]; rfl
  | append_singleton ns n ih =>
    obtain ⟨before, -, fresh⟩ := List.nodup_append.1 nodup
    rw [List.foldl_append, ih before, slotsMapped_snoc fun there => fresh n there n (by simp) rfl]
    rfl

theorem unmuteSlot_eq (s : State) (n : SlotNo) : unmuteSlot s n = { s with
    seats := seatsBlanked s (mutedIn s [n]), floor := s.floor.mapSlot n slotUnmuted } := by
  have floor := unmuteSlot_floor s n
  unfold unmuteSlot at floor ⊢
  cases slot : s.floor.slots[n] with
  | none =>
    have nobody : seatsBlanked s (mutedIn s [n]) = s.seats := seatsBlanked_none fun x => by
      simp [mutedIn, slot, -Fin.getElem_fin]
    simp only [slot] at floor
    simp only [nobody]
    exact congrArg s.setFloor floor
  | some sl =>
    simp only [slot] at floor ⊢
    by_cases muted : sl.condition = .muted
    · have mine : seatsBlanked s (mutedIn s [n]) = blankingRestarted s sl.seat :=
        .trans (seatsBlanked_congr fun x => by simp [mutedIn, slot, muted, -Fin.getElem_fin]) (blankingRestarted_eq s sl.seat).symm
      rw [if_pos muted, restartBlanking_eq] at floor
      rw [if_pos muted, restartBlanking_eq, mine]
      exact congrArg (fun f => ({ s with seats := blankingRestarted s sl.seat, floor := f } : State)) floor
    · have nobody : seatsBlanked s (mutedIn s [n]) = s.seats := seatsBlanked_none fun x => by
        simp [mutedIn, slot, muted, -Fin.getElem_fin]
      rw [if_neg muted] at floor
      rw [if_neg muted, nobody]
      exact congrArg s.setFloor floor

theorem unmuteSlots_eq (nodup : ns.Nodup) (s : State) : ns.foldl unmuteSlot s = { s with
    seats := seatsBlanked s (mutedIn s ns), floor := slotsMapped ns slotUnmuted s.floor } := by
  induction ns using List.reverseRecOn with
  | nil => rw [slotsMapped_nil, seatsBlanked_none (p := mutedIn s []) fun _ => rfl]; rfl
  | append_singleton ns n ih =>
    obtain ⟨before, -, fresh⟩ := List.nodup_append.1 nodup
    have fresh : n ∉ ns := fun there => fresh n there n (by simp) rfl
    let u : State := { s with seats := seatsBlanked s (mutedIn s ns), floor := slotsMapped ns slotUnmuted s.floor }
    have stands : u.floor.slots[n] = s.floor.slots[n] := (slotsMapped_slots ns slotUnmuted s.floor n).trans (if_neg fresh)
    have same (x : Seat) : (mutedIn s ns x || mutedIn u [n] x) = mutedIn s (ns ++ [n]) x := by
      simp only [mutedIn, List.any_append, List.any_cons, List.any_nil, stands]
    rw [List.foldl_append, ih before, slotsMapped_snoc fresh]
    refine (unmuteSlot_eq u n).trans ?_
    have blanked : seatsBlanked u (mutedIn u [n]) = seatsBlanked s (mutedIn s (ns ++ [n])) :=
      (seatsBlanked_again (s := s) (u := u) (p := mutedIn s ns) rfl rfl _).trans (seatsBlanked_congr same)
    rw [blanked]

end Sys2Proof.Machine
end

section
namespace Sys2Proof.Machine
variable {s u : State} {g : ChairRecord → ChairRecord} {opens : ChairRecord → Bool} {note : ChairRecord → Option NoticeBody}
  {op : State → Seat → State} {c : ChairRecord}

/-! ### The chairs taken one after another, in order of seat (R93, R94) -/

theorem ChairsLaw.mapped (laws : ChairsLaw s) (seats : ∀ d, (g d).seat = d.seat) (plan : u.plan = s.plan)
    (chairs : u.floor.chairs = s.floor.chairs.map g) : ChairsLaw u := by
  obtain ⟨sorted, classes, few⟩ := laws
  have names : u.floor.chairs.map (·.seat) = s.floor.chairs.map (·.seat) := by
    simp only [chairs, List.map_map, Function.comp_def, seats]
  refine ⟨List.pairwise_map.1 (names ▸ List.pairwise_map.2 sorted), fun seat => ?_, plan ▸ few⟩
  have member := congrArg (seat ∈ ·) names
  simp only [List.mem_map, eq_iff_iff] at member
  rw [plan, classes, member]

/-- What an operation does to one chair: its record, its blanking when its microphone opens, and its notice. -/
def TakesChair (s : State) (op : State → Seat → State) (g : ChairRecord → ChairRecord) (opens : ChairRecord → Bool)
    (note : ChairRecord → Option NoticeBody) : Prop :=
  ∀ (u : State) (c : ChairRecord), u.trunks = s.trunks → u.floor.locked = s.floor.locked → ChairsLaw u → c ∈ u.floor.chairs →
    let t := op u c.seat
    t = { u with link := t.link, seats := if opens c then blankingRestarted u c.seat else u.seats
                 floor := { u.floor with chairs := rewritten c.seat (g c) u.floor.chairs } } ∧
      Tells u t (note c).toList

/-- The chair records with those of a list changed. -/
def chairsMapped (cs : List ChairRecord) (g : ChairRecord → ChairRecord) (s : State) : List ChairRecord :=
  s.floor.chairs.map fun d => if d ∈ cs then g d else d

theorem chairsMapped_snoc (laws : ChairsLaw s) (seats : ∀ d, (g d).seat = d.seat) (cs : List ChairRecord)
    (hc : c ∈ s.floor.chairs) : chairsMapped (cs ++ [c]) g s = rewritten c.seat (g c) (chairsMapped cs g s) := by
  rw [chairsMapped, chairsMapped, rewritten, List.map_map]
  refine List.map_congr_left fun d hd => ?_
  have seat : (if d ∈ cs then g d else d).seat = d.seat := by split <;> simp [seats]
  rw [Function.comp_apply, seat]
  by_cases same : d.seat = c.seat
  · rw [chair_unique laws hd hc same]; simp
  · have other : d ≠ c := fun eq => same (congrArg _ eq)
    simp [same, other]

theorem chairsInTurn (laws : ChairsLaw s) (seats : ∀ d, (g d).seat = d.seat) (takes : TakesChair s op g opens note)
    (cs : List ChairRecord) (sub : ∀ c ∈ cs, c ∈ s.floor.chairs) (nodup : cs.Nodup) : let t := (cs.map (·.seat)).foldl op s
    t = { s with link := t.link, seats := seatsBlanked s (fun x => cs.any fun c => c.seat == x && opens c)
                 floor := { s.floor with chairs := chairsMapped cs g s } } ∧
      Tells s t (cs.filterMap note) := by
  induction cs using List.reverseRecOn with
  | nil =>
    have chairs : chairsMapped [] g s = s.floor.chairs := List.map_id'' (fun _ => by simp) _
    have blanked : seatsBlanked s (fun x => ([] : List ChairRecord).any fun c => c.seat == x && opens c) = s.seats :=
      seatsBlanked_none fun _ => rfl
    rw [chairs, blanked]
    exact ⟨rfl, tells_nil rfl⟩
  | append_singleton cs c ih =>
    obtain ⟨before, -, fresh⟩ := List.nodup_append.1 nodup
    have fresh : c ∉ cs := fun there => fresh c there c (by simp) rfl
    obtain ⟨frame, told⟩ := ih (fun d hd => sub d (by simp [hd])) before
    have hc : c ∈ s.floor.chairs := sub c (by simp)
    let u := (cs.map (·.seat)).foldl op s
    have chairs : u.floor.chairs = chairsMapped cs g s := congrArg (fun v : State => v.floor.chairs) frame
    have seatsKept (d : ChairRecord) : (if d ∈ cs then g d else d).seat = d.seat := by split <;> simp [seats]
    have there : c ∈ u.floor.chairs := by
      rw [chairs]
      exact List.mem_map.2 ⟨c, hc, if_neg fresh⟩
    have lawsThere : ChairsLaw u := laws.mapped seatsKept (congrArg State.plan frame :) chairs
    obtain ⟨next, nextTold⟩ := takes u c (congrArg State.trunks frame :)
      (congrArg (fun v : State => v.floor.locked) frame :) lawsThere there
    have opened := seatsBlanked_next (s := s) (u := u) (congrArg State.profiles frame :) (congrArg State.seats frame :) c.seat (opens c)
    rw [chairs, ← chairsMapped_snoc laws seats cs hc, opened] at next
    have snoc : ((cs ++ [c]).map (·.seat)).foldl op s = op u c.seat := by simp [u]
    have blanked : seatsBlanked s (fun x => (cs ++ [c]).any fun c => c.seat == x && opens c) =
        seatsBlanked s fun x => (cs.any fun c => c.seat == x && opens c) || (c.seat == x && opens c) :=
      seatsBlanked_congr fun x => by simp
    rw [snoc, blanked]
    refine ⟨next.trans (congrArg (fun v : State => { v with
      link := (op u c.seat).link
      seats := seatsBlanked s fun x => (cs.any fun c => c.seat == x && opens c) || (c.seat == x && opens c)
      floor := { v.floor with chairs := chairsMapped (cs ++ [c]) g s } }) frame), ?_⟩
    have notice : [c].filterMap note = (note c).toList := by cases out : note c <;> simp [out]
    rw [List.filterMap_append, notice]
    exact told.trans nextTold

/-- All chairs taken. -/
theorem allChairsInTurn (laws : ChairsLaw s) (seats : ∀ d, (g d).seat = d.seat) (takes : TakesChair s op g opens note) :
    let t := (s.floor.chairs.map (·.seat)).foldl op s
    t = { s with link := t.link, seats := seatsBlanked s (fun x => s.floor.chairs.any fun c => c.seat == x && opens c)
                 floor := { s.floor with chairs := s.floor.chairs.map g } } ∧
      Tells s t (s.floor.chairs.filterMap note) := by
  have nodup : s.floor.chairs.Nodup := (sorted_nodup (List.pairwise_map.2 laws.1)).of_map _
  have all : chairsMapped s.floor.chairs g s = s.floor.chairs.map g := List.map_congr_left fun d hd => if_pos hd
  have taken := chairsInTurn laws seats takes s.floor.chairs (fun _ hc => hc) nodup
  rwa [all] at taken

end Sys2Proof.Machine
end

section
namespace Sys2Proof.Machine
variable {s u v : State} {c d : ChairRecord} {x : Seat}

/-! ### A chair at the start and at the end of a hold (R93, R94) -/

theorem rewritten_rewritten (same : c.seat = x) (d : ChairRecord) (cs : List ChairRecord) :
    rewritten x d (rewritten x c cs) = rewritten x d cs := by
  rw [rewritten, rewritten, List.map_map]
  refine List.map_congr_left fun y _ => ?_
  by_cases there : y.seat = x <;> simp [there, same]

theorem rewritten_same (laws : ChairsLaw s) (hc : c ∈ s.floor.chairs) : rewritten c.seat c s.floor.chairs = s.floor.chairs := by
  have same : rewritten c.seat c s.floor.chairs = mapChairs c.seat id s.floor.chairs := (mapChairs_eq laws hc rfl id).symm
  rw [same, mapChairs]
  exact List.map_id'' (fun y => ite_self _) _

/-- A microphone that a hold opens at its start (R93, step 3). -/
def heldOpens (s : State) (c : ChairRecord) : Bool := !c.micOpen && isReady s c.seat && !isLocked s c.seat

/-- A microphone that the end of a hold closes (R94, step 3). -/
def backShuts (c : ChairRecord) : Bool := c.micOpen && !c.afterHold

/-- A microphone that the end of a hold opens (R94, step 3). -/
def backOpens (s : State) (c : ChairRecord) : Bool := !c.micOpen && c.afterHold && isReady s c.seat && !isLocked s c.seat

/-- A chair record after the start of a hold. -/
def chairKept (s : State) (c : ChairRecord) : ChairRecord :=
  { c with
    afterHold := c.micOpen, micOpen := c.micOpen || heldOpens s c
    softMuted := c.softMuted && !heldOpens s c, strikes := if heldOpens s c then 0 else c.strikes }

/-- A chair record after the end of a hold. -/
def chairBack (s : State) (c : ChairRecord) : ChairRecord :=
  { c with
    micOpen := (c.micOpen && !backShuts c) || backOpens s c
    softMuted := c.softMuted && !backShuts c && !backOpens s c, strikes := if backOpens s c then 0 else c.strikes }

/-- CHAIR MIC at the start of a hold. -/
def keptNotice (s : State) (c : ChairRecord) : Option NoticeBody :=
  if heldOpens s c then some (.chairMic c.seat true) else none

/-- CHAIR MIC at the end of a hold. -/
def backNotice (s : State) (c : ChairRecord) : Option NoticeBody :=
  if backShuts c then some (.chairMic c.seat false) else if backOpens s c then some (.chairMic c.seat true) else none

theorem mayOpen_congr (trunks : u.trunks = s.trunks) (locked : u.floor.locked = s.floor.locked) (x : Seat) :
    isReady u x = isReady s x ∧ isLocked u x = isLocked s x := by
  simp [isReady, placeOf, isLocked, trunks, locked]

theorem holdChair_takes (s : State) : TakesChair s holdChair (chairKept s) (heldOpens s) (keptNotice s) := by
  intro u c trunks locked laws hc
  let noted : ChairRecord := { c with afterHold := c.micOpen }
  let kept := u.setFloor { u.floor with chairs := rewritten c.seat noted u.floor.chairs }
  obtain ⟨ready, lock⟩ := mayOpen_congr trunks locked c.seat
  have taken : holdChair u c.seat = if heldOpens s c then openChair c.seat kept else kept := by
    simp only [holdChair, chairOf_mem laws hc rfl, chairMayOpen, ready, lock, heldOpens, Bool.and_assoc]
    rw [setChairs_mapChairs (by intro _; rfl), mapChairs_eq laws hc rfl]
  cases opens : heldOpens s c with
  | false =>
    rw [opens] at taken
    have record : chairKept s c = noted := by simp [chairKept, opens, noted]
    rw [taken, record, keptNotice, opens]
    exact ⟨rfl, tells_nil rfl⟩
  | true =>
    rw [opens] at taken
    have lawsKept : ChairsLaw kept := laws.mapped (g := fun y => if y.seat = c.seat then noted else y)
      (fun y => by split <;> simp_all [noted]) rfl rfl
    obtain ⟨frame, told⟩ := openChair_eq lawsKept (List.mem_map.2 ⟨c, hc, if_pos rfl⟩ : noted ∈ kept.floor.chairs) rfl
    have record : chairKept s c = { noted with micOpen := true, softMuted := false, strikes := 0 } := by
      simp [chairKept, opens, noted]
    have chairs := rewritten_rewritten (c := noted) rfl (chairKept s c) u.floor.chairs
    rw [record] at chairs
    rw [taken, record, keptNotice, opens, ← chairs]
    exact ⟨frame, told.after rfl⟩

theorem releaseChair_takes (s : State) : TakesChair s releaseChair (chairBack s) (backOpens s) (backNotice s) := by
  intro u c trunks locked laws hc
  obtain ⟨ready, lock⟩ := mayOpen_congr trunks locked c.seat
  have taken : releaseChair u c.seat =
      if backShuts c then closeChair c.seat u else if backOpens s c then openChair c.seat u else u := by
    simp only [releaseChair, chairOf_mem laws hc rfl, chairMayOpen, ready, lock, backOpens, backShuts, Bool.and_assoc]
  cases shuts : backShuts c with
  | true =>
    have stays : backOpens s c = false := by
      have micOpen : c.micOpen = true := (Bool.and_eq_true_iff.1 shuts).1
      simp [backOpens, micOpen]
    have record : chairBack s c = { c with micOpen := false, softMuted := false } := by simp [chairBack, shuts, stays]
    obtain ⟨frame, told⟩ := closeChair_eq laws hc rfl
    rw [shuts] at taken
    rw [taken, record, backNotice, shuts, stays]
    exact ⟨frame, told⟩
  | false =>
    rw [shuts] at taken
    cases opens : backOpens s c with
    | true =>
      have record : chairBack s c = { c with micOpen := true, softMuted := false, strikes := 0 } := by
        simp [chairBack, opens]
      obtain ⟨frame, told⟩ := openChair_eq laws hc rfl
      rw [opens] at taken
      rw [taken, record, backNotice, shuts, opens]
      exact ⟨frame, told⟩
    | false =>
      have record : chairBack s c = c := by simp [chairBack, shuts, opens]
      rw [opens] at taken
      rw [taken, record, rewritten_same laws hc, backNotice, shuts, opens]
      exact ⟨rfl, tells_nil rfl⟩

/-! ### The hold of a chair set and cleared (R92) -/

/-- The chair records with the hold of a seat set or cleared. -/
def heldSet (seat : Seat) (h : Bool) (s : State) : List ChairRecord :=
  s.floor.chairs.map fun d => if d.seat = seat then { d with held := h } else d

theorem setHeld_eq (seat : Seat) (h : Bool) (s : State) : let t := setHeld seat h s
    t = { s with link := t.link, floor := { s.floor with chairs := heldSet seat h s } } ∧ Tells s t [] := by
  refine ⟨?_, (noteOwners_tells _ _).after rfl⟩
  dsimp only
  rw [setHeld, setChairs, noteOwners]
  split <;> rfl

/-- A hold set or cleared with the count on the same side of 0 changes its own chair record alone (R92). -/
theorem setHeld_quiet {seat : Seat} {h : Bool} (before : 0 < holdCount s)
    (after : 0 < holdCount (s.setFloor { s.floor with chairs := heldSet seat h s })) :
    setHeld seat h s = s.setFloor { s.floor with chairs := heldSet seat h s } := by
  have owners : ownerBits (s.setFloor { s.floor with chairs := heldSet seat h s }) = ownerBits s := by
    simp only [ownerBits, before, after]
    rfl
  exact if_pos owners

/-- A notice told after a hold was set or cleared. -/
theorem announced_eq (b : NoticeBody) (seat : Seat) (h : Bool) (s : State) : let t := post b (setHeld seat h s)
    t = { s with link := t.link, floor := { s.floor with chairs := heldSet seat h s } } ∧ Tells s t [b] := by
  obtain ⟨frame, told⟩ := setHeld_eq seat h s
  exact ⟨congrArg (State.setLink · (post b (setHeld seat h s)).link) frame, told.trans (post_tells b _)⟩

theorem holdCount_setHeld (seat : Seat) (h : Bool) (s : State) :
    holdCount (setHeld seat h s) = (heldSet seat h s).countP (·.held) := by
  rw [(setHeld_eq seat h s).1]
  rfl

/-- Where one hold is counted, no other chair has one. -/
theorem held_alone (one : holdCount s = 1) (hc : c ∈ s.floor.chairs) (held : c.held = true) (hd : d ∈ s.floor.chairs)
    (other : d.seat ≠ c.seat) : d.held = false := by
  by_contra also
  obtain ⟨e, only⟩ := List.length_eq_one_iff.1 (List.countP_eq_length_filter.symm.trans one)
  have mine : c = e := List.mem_singleton.1 (only ▸ List.mem_filter.2 ⟨hc, held⟩)
  have its : d = e := List.mem_singleton.1 (only ▸ List.mem_filter.2 ⟨hd, by simpa using also⟩)
  exact other (congrArg _ (its.trans mine.symm))

theorem unheld_of_none (none : holdCount s = 0) (hd : d ∈ s.floor.chairs) : d.held = false := by
  simpa using List.countP_eq_zero.1 none d hd

/-- The chair of a seat counts one among chairs in order of seat. -/
theorem countP_chair (laws : ChairsLaw s) (hc : c ∈ s.floor.chairs) (same : c.seat = x) :
    s.floor.chairs.countP (fun d => decide (d.seat = x)) = 1 := by
  have nodup : (s.floor.chairs.map (·.seat)).Nodup := sorted_nodup (List.pairwise_map.2 laws.1)
  have once := List.count_eq_one_of_mem nodup (List.mem_map.2 ⟨c, hc, same⟩)
  rw [List.count, List.countP_map] at once
  exact (List.countP_congr fun d _ => by simp).trans once

/-! ### The closes at the start of a hold (R82, R93) -/

/-- While a hold is counted the advance check after each close grants nothing (R90). -/
theorem closeForHolds_eq (hold : 0 < holdCount s) (ns : List SlotNo) : ns.foldl closeForHold s = closedInTurn ns .priority s := by
  induction ns generalizing s with
  | nil => rfl
  | cons n ns ih =>
    have counted : 0 < holdCount (closeSlot n .priority s) := by rwa [closeSlot_holdCount]
    have first : closeForHold s n = closeSlot n .priority s := advanceCheck_of_hold counted
    rw [List.foldl_cons, first, ih counted]
    rfl

theorem closedInTurn_frame (ns : List SlotNo) (r : CloseReason) (s : State) : let t := closedInTurn ns r s
    t = { s with link := t.link, queue := t.queue
                 floor := { t.floor with chairs := s.floor.chairs, locked := s.floor.locked } } := by
  obtain ⟨keeps, seats⟩ := closeGroup_keeps ns r s
  have chairs : (closeGroup ns r s).floor.chairs = s.floor.chairs :=
    foldl_keeps (fun u : State => u.floor.chairs) _ (fun u n => closeSlot_chairs n r u) ns s
  have locked : (closeGroup ns r s).floor.locked = s.floor.locked :=
    foldl_keeps (fun u : State => u.floor.locked) _ (fun u n => closeSlot_locked n r u) ns s
  rw [← chairs, ← locked]
  exact eq_with_queue_floor keeps seats

end Sys2Proof.Machine
end

section
namespace Sys2Proof.Machine
variable {s v : State} {seat : Seat} {c : ChairRecord}

/-! ### The start of a hold (R93) -/

/-- The chair records after the start of a hold by a seat. -/
def chairsHeld (seat : Seat) (s : State) : List ChairRecord :=
  s.floor.chairs.map fun c => { chairKept s c with held := decide (c.seat = seat) }

/-- The notices of the microphones a hold opens, in order of seat. -/
def heldMics (s : State) : List NoticeBody := (s.floor.chairs.filter (heldOpens s)).map fun c => .chairMic c.seat true

/-- The seats of the microphones a hold opens. -/
def heldOpened (s : State) (x : Seat) : Bool := s.floor.chairs.any fun c => c.seat == x && heldOpens s c

theorem heldSet_seat (seat : Seat) (h : Bool) (d : ChairRecord) : (if d.seat = seat then { d with held := h } else d).seat = d.seat := by
  split <;> rfl

/-- The chairs at the start of a hold, after the slots were muted or closed. -/
theorem holdChairs_eq (laws : ChairsLaw s) (none : holdCount s = 0)
    (frame : v = { s with link := v.link, queue := v.queue
                          floor := { v.floor with chairs := heldSet seat true s, locked := s.floor.locked } }) :
    let t := (v.floor.chairs.map (·.seat)).foldl holdChair v
    t = { v with link := t.link, seats := seatsBlanked s (heldOpened s), floor := { v.floor with chairs := chairsHeld seat s } } ∧
      Tells v t (heldMics s) := by
  have chairs : v.floor.chairs = heldSet seat true s := (congrArg (fun u : State => u.floor.chairs) frame :)
  have trunks : v.trunks = s.trunks := (congrArg State.trunks frame :)
  have locked : v.floor.locked = s.floor.locked := (congrArg (fun u : State => u.floor.locked) frame :)
  have seats : v.seats = seatsBlanked s fun _ => false :=
    (congrArg State.seats frame).trans (seatsBlanked_none fun _ => rfl).symm
  have profiles : v.profiles = s.profiles := (congrArg State.profiles frame :)
  have lawsThere : ChairsLaw v := laws.mapped (heldSet_seat seat true) (congrArg State.plan frame :) chairs
  have opens (d : ChairRecord) : heldOpens v (if d.seat = seat then { d with held := true } else d) = heldOpens s d := by
    obtain ⟨ready, lock⟩ := mayOpen_congr trunks locked d.seat
    split <;> simp only [heldOpens, ready, lock]
  have kept (d : ChairRecord) (hd : d ∈ s.floor.chairs) : chairKept v (if d.seat = seat then { d with held := true } else d) =
      { chairKept s d with held := decide (d.seat = seat) } := by
    have free := unheld_of_none none hd
    simp only [chairKept, opens]
    by_cases mine : d.seat = seat <;> simp [mine, free]
  obtain ⟨after, told⟩ := allChairsInTurn lawsThere (g := chairKept v) (fun _ => rfl) (holdChair_takes v)
  have records : v.floor.chairs.map (chairKept v) = chairsHeld seat s := by
    rw [chairs, heldSet, List.map_map]
    exact List.map_congr_left kept
  have blanked : seatsBlanked v (fun x => v.floor.chairs.any fun c => c.seat == x && heldOpens v c) = seatsBlanked s (heldOpened s) := by
    refine (seatsBlanked_again profiles seats _).trans (seatsBlanked_congr fun x => ?_)
    simp only [Bool.false_or, heldOpened, chairs, heldSet, List.any_map, Function.comp_def, opens, heldSet_seat]
  have notices : v.floor.chairs.filterMap (keptNotice v) = heldMics s := by
    rw [chairs, heldSet, List.filterMap_map, heldMics, ← List.filterMap_eq_map', List.filterMap_filter]
    exact List.filterMap_congr fun d _ => by simp only [Function.comp_apply, keptNotice, opens, heldSet_seat]
  rw [records, blanked] at after
  exact ⟨after, notices ▸ told⟩

theorem chairsHeld_count (laws : ChairsLaw s) (hc : c ∈ s.floor.chairs) (same : c.seat = seat) :
    (chairsHeld seat s).countP (·.held) = 1 := by
  rw [chairsHeld, List.countP_map]
  exact countP_chair laws hc same

/-- The floor at the start of a hold, PRIORITY ON told. -/
def holdAnnounced (seat : Seat) (s : State) : State := post (.priorityOn seat) (setHeld seat true s)

theorem holdAnnounced_eq (seat : Seat) (s : State) : let t := holdAnnounced seat s
    t = { s with link := t.link, floor := { s.floor with chairs := heldSet seat true s } } ∧ Tells s t [.priorityOn seat] :=
  announced_eq _ _ _ _

/-- The chairs of a floor taken at the start of a hold. -/
def chairsTaken (v : State) : State := (v.floor.chairs.map (·.seat)).foldl holdChair v

/-- The start of a hold mutes or closes the slots and then takes the chairs. -/
theorem raiseHold_starts (laws : ChairsLaw s) (hc : c ∈ s.floor.chairs) (same : c.seat = seat) (none : holdCount s = 0) :
    raiseHold seat s = chairsTaken (match (inForce s).priorityAction with
      | .mute => s.floor.speakers.foldl muteSlot (holdAnnounced seat s)
      | .close => closedInTurn s.floor.speakers .priority (holdAnnounced seat s)) := by
  obtain ⟨frame, -⟩ := holdAnnounced_eq seat s
  have profile : inForce (holdAnnounced seat s) = inForce s := inForce_congr (by rw [frame])
  have speakers : (holdAnnounced seat s).floor.speakers = s.floor.speakers := by rw [frame]
  have counted : 0 < holdCount (holdAnnounced seat s) := by
    have there : { c with held := true } ∈ heldSet seat true s := List.mem_map.2 ⟨c, hc, if_pos same⟩
    rw [frame]
    exact List.countP_pos_iff.2 ⟨_, there, rfl⟩
  have started : raiseHold seat s = startHold seat (setHeld seat true s) := by
    simp only [raiseHold, chairOf_mem laws hc same, none, if_true]
  rw [started, startHold]
  change chairsTaken (match (inForce (holdAnnounced seat s)).priorityAction with
    | .mute => (holdAnnounced seat s).floor.speakers.foldl muteSlot (holdAnnounced seat s)
    | .close => (holdAnnounced seat s).floor.speakers.foldl closeForHold (holdAnnounced seat s)) = _
  rw [profile, speakers, closeForHolds_eq counted]

/-- With action MUTE (R93). -/
theorem raiseHold_mute (lists : SlotListsLaw s) (laws : ChairsLaw s) (hc : c ∈ s.floor.chairs) (same : c.seat = seat)
    (none : holdCount s = 0) (action : (inForce s).priorityAction = .mute) : let t := raiseHold seat s
    t = { s with
      link := t.link, seats := seatsBlanked s (heldOpened s)
      floor := { slotsMapped s.floor.speakers slotMuted s.floor with chairs := chairsHeld seat s } } ∧
      Tells s t (.priorityOn seat :: heldMics s) := by
  obtain ⟨frame, told⟩ := holdAnnounced_eq seat s
  let v := (holdAnnounced seat s).setFloor (slotsMapped s.floor.speakers slotMuted (holdAnnounced seat s).floor)
  have started : raiseHold seat s = chairsTaken v := by
    rw [raiseHold_starts laws hc same none, action, muteSlots_eq lists.1]
  have muted : v = { s with link := v.link
                            floor := { slotsMapped s.floor.speakers slotMuted s.floor with chairs := heldSet seat true s } } :=
    congrArg (fun u : State => u.setFloor (slotsMapped s.floor.speakers slotMuted u.floor)) frame
  obtain ⟨after, mics⟩ := holdChairs_eq (v := v) (seat := seat) laws none (muted.trans (by rw [muted]; rfl))
  rw [started]
  refine ⟨after.trans (congrArg (fun u : State => { u with
    link := (chairsTaken v).link, seats := seatsBlanked s (heldOpened s)
    floor := { u.floor with chairs := chairsHeld seat s } }) muted), ?_⟩
  exact told.trans (mics.after rfl)

/-- With action CLOSE (R93). -/
theorem raiseHold_close (laws : ChairsLaw s) (hc : c ∈ s.floor.chairs) (same : c.seat = seat)
    (none : holdCount s = 0) (action : (inForce s).priorityAction = .close) : let t := raiseHold seat s
    let shut := closedInTurn s.floor.speakers .priority (holdAnnounced seat s)
    t = { shut with link := t.link, seats := seatsBlanked s (heldOpened s), floor := { shut.floor with chairs := chairsHeld seat s } } ∧
      Tells shut t (heldMics s) := by
  let shut := closedInTurn s.floor.speakers .priority (holdAnnounced seat s)
  have started : raiseHold seat s = chairsTaken shut := by rw [raiseHold_starts laws hc same none, action]
  have closed : shut = { s with link := shut.link, queue := shut.queue
                                floor := { shut.floor with chairs := heldSet seat true s, locked := s.floor.locked } } := by
    have frame := closedInTurn_frame s.floor.speakers .priority (holdAnnounced seat s)
    exact frame.trans (congrArg (fun u : State => { u with
      link := shut.link, queue := shut.queue
      floor := { shut.floor with chairs := u.floor.chairs, locked := u.floor.locked } }) (holdAnnounced_eq seat s).1)
  rw [started]
  exact holdChairs_eq laws none closed

theorem spokeIn_speakers (law : SlotListsLaw s) (y : Seat) : spokeIn s s.floor.speakers y = heldSlot s y := by
  rw [Bool.eq_iff_iff]
  simp only [spokeIn, heldSlot, List.any_eq_true]
  refine ⟨fun ⟨n, _, there⟩ => ⟨n, List.mem_finRange n, there⟩, fun ⟨n, _, there⟩ => ⟨n, (law.2.2.1 n).2 ?_, there⟩⟩
  cases slot : s.floor.slots[n] with
  | none => simp [slot] at there
  | some sl => rfl

/-- With action CLOSE and the list OPEN every slot goes from the floor (R68, R82, R93). -/
theorem raiseHold_closeOpen (lists : SlotListsLaw s) (laws : ChairsLaw s) (hc : c ∈ s.floor.chairs) (same : c.seat = seat)
    (none : holdCount s = 0) (action : (inForce s).priorityAction = .close) (list : s.queue.list = .open) :
    let t := raiseHold seat s
    t = { s with
      link := t.link, seats := seatsBlanked s (heldOpened s)
      queue := { s.queue with entries := s.queue.entries.map (hearShut s s.floor.speakers) }
      floor := { floorShut s.floor.speakers s.floor with chairs := chairsHeld seat s } } ∧
      Tells s t (.priorityOn seat :: s.floor.speakers.filterMap (closeNotice s .priority) ++ heldMics s) := by
  obtain ⟨frame, told⟩ := holdAnnounced_eq seat s
  let shut := closedInTurn s.floor.speakers .priority (holdAnnounced seat s)
  have slots : (holdAnnounced seat s).floor.slots = s.floor.slots := (congrArg (fun u : State => u.floor.slots) frame :)
  obtain ⟨closed, closesTold⟩ := closedInTurn_open (s := holdAnnounced seat s) (by rw [frame]; exact list) (by rw [frame]; exact lists.1)
    .priority s.floor.speakers lists.1 fun n hn => by rw [slots]; exact (lists.2.2.1 n).1 hn
  have hears : hearShut (holdAnnounced seat s) s.floor.speakers = hearShut s s.floor.speakers := by
    have spoke : spokeIn (holdAnnounced seat s) = spokeIn s := by funext ns y; simp only [spokeIn, slots]
    funext e; simp only [hearShut, spoke]
  have notices : closeNotice (holdAnnounced seat s) .priority = closeNotice s .priority := by
    funext n; simp only [closeNotice, slots]
  rw [hears] at closed
  rw [notices] at closesTold
  obtain ⟨after, mics⟩ := raiseHold_close laws hc same none action
  have shutFrame := closed.trans (congrArg (fun u : State => { u with
    link := shut.link, floor := floorShut s.floor.speakers u.floor
    queue := { u.queue with entries := u.queue.entries.map (hearShut s s.floor.speakers) } }) frame)
  refine ⟨after.trans (congrArg (fun u : State => { u with
    link := (raiseHold seat s).link, seats := seatsBlanked s (heldOpened s)
    floor := { u.floor with chairs := chairsHeld seat s } }) shutFrame), ?_⟩
  exact (told.trans closesTold).trans mics

/-! ### The end of a hold (R94) -/

/-- The chair records after the end of a hold. -/
def chairsBack (s : State) : List ChairRecord := s.floor.chairs.map fun d => { chairBack s d with held := false }

/-- The seats whose blanking the end of a hold restarts. -/
def backBlanked (s : State) (x : Seat) : Bool :=
  mutedIn s s.floor.speakers x || s.floor.chairs.any fun d => d.seat == x && backOpens s d

/-- The floor at the end of a hold, before its advance check. -/
def holdEnded (seat : Seat) (s : State) : State :=
  let announced := post (.priorityOff seat) (setHeld seat false s)
  let reopened := announced.floor.speakers.foldl unmuteSlot announced
  (reopened.floor.chairs.map (·.seat)).foldl releaseChair reopened

theorem heldSet_back (one : holdCount s = 1) (hc : c ∈ s.floor.chairs) (same : c.seat = seat) (held : c.held = true) :
    heldSet seat false s = s.floor.chairs.map fun d => { d with held := false } := by
  refine List.map_congr_left fun d hd => ?_
  split
  · rfl
  · next other =>
    have free := held_alone one hc held hd (same ▸ other)
    rw [← free]

theorem lowerHold_ends (laws : ChairsLaw s) (hc : c ∈ s.floor.chairs) (same : c.seat = seat) (held : c.held = true)
    (one : holdCount s = 1) : lowerHold seat s = advanceCheck (holdEnded seat s) := by
  have lowered : holdCount (setHeld seat false s) = 0 := by
    rw [holdCount_setHeld, heldSet_back one hc same held, List.countP_map]
    exact List.countP_eq_zero.2 fun d _ => by simp
  simp only [lowerHold, chairOf_mem laws hc same, held, lowered, if_true]
  rfl

theorem holdEnded_eq (lists : SlotListsLaw s) (laws : ChairsLaw s) (hc : c ∈ s.floor.chairs) (same : c.seat = seat)
    (held : c.held = true) (one : holdCount s = 1) : let t := holdEnded seat s
    t = { s with
      link := t.link, seats := seatsBlanked s (backBlanked s)
      floor := { slotsMapped s.floor.speakers slotUnmuted s.floor with chairs := chairsBack s } } ∧
      Tells s t (.priorityOff seat :: s.floor.chairs.filterMap (backNotice s)) := by
  obtain ⟨frame, told⟩ := announced_eq (.priorityOff seat) seat false s
  rw [heldSet_back one hc same held] at frame
  let announced := post (.priorityOff seat) (setHeld seat false s)
  let free := fun d : ChairRecord => { d with held := false }
  let v : State := { announced with
    seats := seatsBlanked announced (mutedIn announced s.floor.speakers)
    floor := slotsMapped s.floor.speakers slotUnmuted announced.floor }
  have ended : holdEnded seat s = (v.floor.chairs.map (·.seat)).foldl releaseChair v := by
    have speakers : announced.floor.speakers = s.floor.speakers := (congrArg (fun u : State => u.floor.speakers) frame :)
    have unmuted := unmuteSlots_eq lists.1 announced
    rw [← speakers] at unmuted
    simp only [holdEnded]
    rw [unmuted, speakers]
  have reopened : v = { s with
      link := v.link, seats := seatsBlanked s (mutedIn s s.floor.speakers)
      floor := { slotsMapped s.floor.speakers slotUnmuted s.floor with chairs := s.floor.chairs.map free } } :=
    congrArg (fun u : State => { u with
      seats := seatsBlanked u (mutedIn u s.floor.speakers), floor := slotsMapped s.floor.speakers slotUnmuted u.floor }) frame
  have chairs : v.floor.chairs = s.floor.chairs.map free := (congrArg (fun u : State => u.floor.chairs) reopened :)
  have trunks : v.trunks = s.trunks := (congrArg State.trunks reopened :)
  have locked : v.floor.locked = s.floor.locked := (congrArg (fun u : State => u.floor.locked) reopened :)
  have lawsThere : ChairsLaw v := laws.mapped (g := free) (fun _ => rfl) (congrArg State.plan reopened :) chairs
  have opens (d : ChairRecord) : backOpens v (free d) = backOpens s d := by
    obtain ⟨ready, lock⟩ := mayOpen_congr trunks locked d.seat
    simp only [backOpens, free, ready, lock]
  obtain ⟨after, mics⟩ := allChairsInTurn lawsThere (g := chairBack v) (fun _ => rfl) (releaseChair_takes v)
  have records : v.floor.chairs.map (chairBack v) = chairsBack s := by
    rw [chairs, List.map_map]
    exact List.map_congr_left fun d _ => by simp only [Function.comp_apply, chairBack, opens]; rfl
  have blanked : seatsBlanked v (fun x => v.floor.chairs.any fun c => c.seat == x && backOpens v c) = seatsBlanked s (backBlanked s) := by
    have profiles : v.profiles = s.profiles := (congrArg State.profiles reopened :)
    have seats : v.seats = seatsBlanked s (mutedIn s s.floor.speakers) := (congrArg State.seats reopened :)
    refine (seatsBlanked_again profiles seats _).trans (seatsBlanked_congr fun x => ?_)
    simp only [backBlanked, chairs, List.any_map, Function.comp_def, opens]
    rfl
  have notices : v.floor.chairs.filterMap (backNotice v) = s.floor.chairs.filterMap (backNotice s) := by
    rw [chairs, List.filterMap_map]
    exact List.filterMap_congr fun d _ => by simp only [Function.comp_apply, backNotice, opens]; rfl
  rw [records, blanked] at after
  rw [notices] at mics
  rw [ended]
  let t := (v.floor.chairs.map (·.seat)).foldl releaseChair v
  refine ⟨after.trans (congrArg (fun u : State => { u with
    link := t.link, seats := seatsBlanked s (backBlanked s)
    floor := { u.floor with chairs := chairsBack s } }) reopened), ?_⟩
  exact told.trans (mics.after rfl)

theorem chairsBack_count (s : State) : (chairsBack s).countP (·.held) = 0 := by
  rw [chairsBack, List.countP_map]
  exact List.countP_eq_zero.2 fun d _ => by simp

theorem mutedIn_speakers (law : SlotListsLaw s) (x : Seat) : mutedIn s s.floor.speakers x =
    (List.finRange 8).any fun n => (s.floor.slots[n]).any fun sl => sl.seat == x && sl.condition == .muted := by
  rw [Bool.eq_iff_iff]
  simp only [mutedIn, List.any_eq_true]
  refine ⟨fun ⟨n, _, there⟩ => ⟨n, List.mem_finRange n, there⟩, fun ⟨n, _, there⟩ => ⟨n, (law.2.2.1 n).2 ?_, there⟩⟩
  cases slot : s.floor.slots[n] with
  | none => simp [slot] at there
  | some sl => rfl

end Sys2Proof.Machine
end

section
namespace Sys2Proof.Machine
variable {s : State} {seat : Seat} {c : ChairRecord}

/-! ### The start and the end of a hold, read off the state (R92 to R94) -/

/-- What every start of a hold leaves, whatever its action. -/
theorem raiseHold_common (q : Queues s) (lists : SlotListsLaw s) (laws : ChairsLaw s) (hc : c ∈ s.floor.chairs)
    (same : c.seat = seat) (none : holdCount s = 0) : let t := raiseHold seat s
    t.seats = seatsBlanked s (heldOpened s) ∧ holdCount t = 1 ∧ LinkFrame s t := by
  have stores : (raiseHold seat s).seats = seatsBlanked s (heldOpened s) ∧
      (raiseHold seat s).floor.chairs = chairsHeld seat s := by
    cases action : (inForce s).priorityAction with
    | mute =>
      have frame := (raiseHold_mute lists laws hc same none action).1
      exact ⟨(congrArg State.seats frame :), (congrArg (fun u : State => u.floor.chairs) frame :)⟩
    | close =>
      have frame := (raiseHold_close laws hc same none action).1
      exact ⟨(congrArg State.seats frame :), (congrArg (fun u : State => u.floor.chairs) frame :)⟩
  obtain ⟨seats, chairs⟩ := stores
  refine ⟨seats, ?_, linkFrame_of_path q (raiseHold_path seat s .refl)⟩
  rw [holdCount, Floor.holdCount, chairs]
  exact chairsHeld_count laws hc same

theorem raiseHold_joins (laws : ChairsLaw s) (hc : c ∈ s.floor.chairs) (same : c.seat = seat) (counted : 0 < holdCount s) :
    raiseHold seat s = s.setFloor { s.floor with chairs := heldSet seat true s } := by
  have joined : raiseHold seat s = setHeld seat true s := by
    simp only [raiseHold, chairOf_mem laws hc same, counted.ne', if_false]
  have there : { c with held := true } ∈ heldSet seat true s := List.mem_map.2 ⟨c, hc, if_pos same⟩
  exact joined.trans (setHeld_quiet counted (List.countP_pos_iff.2 ⟨_, there, rfl⟩))

theorem lowerHold_leaves (laws : ChairsLaw s) (hc : c ∈ s.floor.chairs) (same : c.seat = seat) (held : c.held = true)
    (two : 2 ≤ holdCount s) : lowerHold seat s = s.setFloor { s.floor with chairs := heldSet seat false s } := by
  have other : 0 < (heldSet seat false s).countP (·.held) := by
    by_contra nobody
    have free := List.countP_eq_zero.1 (Nat.eq_zero_of_not_pos nobody)
    have mine (d : ChairRecord) (hd : d ∈ s.floor.chairs) (on : d.held = true) : d.seat = seat := by
      by_contra off
      exact free d (List.mem_map.2 ⟨d, hd, if_neg off⟩) on
    have most : holdCount s ≤ s.floor.chairs.countP fun d => decide (d.seat = seat) :=
      List.countP_mono_left fun d hd on => decide_eq_true (mine d hd on)
    rw [countP_chair laws hc same] at most
    omega
  have lowered : lowerHold seat s = setHeld seat false s := by
    simp only [lowerHold, chairOf_mem laws hc same, held, if_true, holdCount_setHeld, other.ne', if_false]
  exact lowered.trans (setHeld_quiet (by omega) other)

/-- Settles O45: the start by its action, the end by `holdEnded_eq`, and a hold that joins another or leaves one standing. -/
theorem priorityHoldMutesAndReturns : Obligations.PriorityHoldMutesAndReturns := by
  refine ⟨fun seat s q lists laws cls none => ?_, fun seat c s q lists laws hc same held one => ?_,
    fun seat c s laws hc same => ⟨raiseHold_joins laws hc same, lowerHold_leaves laws hc same,
      fun free => lowerHold_free (chairOf_mem laws hc same) free⟩⟩
  · obtain ⟨c, hc, same⟩ := (laws.2.1 seat).1 cls
    obtain ⟨seats, count, linkFrame⟩ := raiseHold_common q lists laws hc same none
    refine ⟨count, linkFrame, fun x => ?_, fun action => ?_, fun action => ?_, fun action list => ?_⟩
    · exact (congrArg (·[x]) seats).trans (seatsBlanked_getElem s _ x)
    · obtain ⟨frame, told⟩ := raiseHold_mute lists laws hc same none action
      have slots : (raiseHold seat s).floor.slots = (slotsMapped s.floor.speakers slotMuted s.floor).slots :=
        (congrArg (fun u : State => u.floor.slots) frame :)
      refine ⟨?_, fun n => ?_, told.posts q⟩
      · rw [seats, slots]; exact frame
      · exact (congrArg (·[n]) slots).trans (slotsMapped_speakers lists slotMuted n)
    · obtain ⟨frame, told⟩ := raiseHold_close laws hc same none action
      have path : LinkPath s.link (closedInTurn s.floor.speakers .priority (holdAnnounced seat s)).link :=
        closeGroup_path _ _ _ (holdAnnounced_eq seat s).2.path
      have queues := queues_of_path q path
      refine ⟨?_, told.linkFrame queues, told.posts queues⟩
      rw [seats]; exact frame
    · obtain ⟨frame, told⟩ := raiseHold_closeOpen lists laws hc same none action list
      have slots : (raiseHold seat s).floor.slots = (floorShut s.floor.speakers s.floor).slots :=
        (congrArg (fun u : State => u.floor.slots) frame :)
      have entries : (raiseHold seat s).queue.entries = s.queue.entries.map (hearShut s s.floor.speakers) :=
        (congrArg (fun u : State => u.queue.entries) frame :)
      have speakers : (floorShut s.floor.speakers s.floor).speakers = [] :=
        List.filter_eq_nil_iff.2 fun n hn => by simp [hn]
      refine ⟨?_, fun n => ?_, ?_, told.posts q⟩
      · rw [seats, slots, entries, ← speakers]; exact frame
      · refine (congrArg (·[n]) slots).trans ((floorShut_slots _ _ n).trans ?_)
        split
        · rfl
        · next silent => simpa using mt (lists.2.2.1 n).2 silent
      · have spoke : spokeIn s s.floor.speakers = heldSlot s := funext (spokeIn_speakers lists)
        rw [entries, ← spoke]
        rfl
  · obtain ⟨frame, told⟩ := holdEnded_eq lists laws hc same held one
    have ends := lowerHold_ends laws hc same held one
    have slots : (holdEnded seat s).floor.slots = (slotsMapped s.floor.speakers slotUnmuted s.floor).slots :=
      (congrArg (fun u : State => u.floor.slots) frame :)
    have seats : (holdEnded seat s).seats = seatsBlanked s (backBlanked s) := (congrArg State.seats frame :)
    have chairs : (holdEnded seat s).floor.chairs = chairsBack s := (congrArg (fun u : State => u.floor.chairs) frame :)
    refine ⟨holdEnded seat s, ends, fun still => ?_, ?_, ?_, told.linkFrame q, fun n => ?_, fun x => ?_, told.posts q⟩
    · exact ends.trans (advanceCheck_noAdvance (still.congr (by rw [frame]) (by rw [frame])))
    · rw [seats, slots]; exact frame
    · rw [holdCount, Floor.holdCount, chairs, chairsBack_count]
    · exact (congrArg (·[n]) slots).trans (slotsMapped_speakers lists slotUnmuted n)
    · rw [← mutedIn_speakers lists]
      exact (congrArg (·[x]) seats).trans (seatsBlanked_getElem s _ x)

end Sys2Proof.Machine
end

section
namespace Sys2Proof.Machine
variable {s t : State} {f g : Floor} {n : SlotNo} {a : Slot} {seat : Seat}

/-! ### Who sits where on the floor (R77 to R79) -/

/-- What the laws of the speakers read of the floor: the seat in each slot, the two lists of slots, the wing mask and the LOCKED
flags. -/
structure Seating where
  seats : Vector (Option Seat) 8
  speakers : List SlotNo
  free : List SlotNo
  mask : BitVec 4
  locked : Vector Bool 512

def Floor.seating (f : Floor) : Seating := ⟨f.slots.map (Option.map (·.seat)), f.speakers, f.free, f.mask, f.locked⟩

theorem seating_seats (f : Floor) (n : SlotNo) : f.seating.seats[n] = (f.slots[n]).map (·.seat) := Vector.getElem_map ..

theorem seating_slot (same : g.seating = f.seating) (slot : g.slots[n] = some a) : ∃ b, f.slots[n] = some b ∧ a.seat = b.seat := by
  have seats := seating_seats f n
  rw [← same, seating_seats, slot] at seats
  obtain ⟨b, there, eq⟩ := Option.map_eq_some_iff.1 seats.symm
  exact ⟨b, there, eq.symm⟩

theorem slots_toList (f : Floor) : f.slots.toList = (List.finRange 8).map (f.slots[·]) :=
  List.ext_getElem (by simp) fun i _ _ => by simp

theorem occupied_eq (f : Floor) : f.occupied = f.slots.countP Option.isSome := by
  rw [← Vector.countP_toList, slots_toList, List.countP_map]
  rfl

theorem occupied_le (f : Floor) : f.occupied ≤ 8 := List.countP_le_length

theorem occupied_seating (same : g.seating = f.seating) : g.occupied = f.occupied := by
  have count (f : Floor) : f.occupied = f.seating.seats.countP Option.isSome := by
    rw [occupied_eq, Floor.seating, Vector.countP_map]
    exact congrArg (Vector.countP · f.slots) (funext fun o => by simp)
  rw [count, count, same]

theorem occupied_put (f : Floor) (n : SlotNo) (o : Option Slot) : ({ f with slots := put f.slots n o } : Floor).occupied =
    f.occupied - (if (f.slots[n]).isSome then 1 else 0) + if o.isSome then 1 else 0 := by
  rw [occupied_eq, occupied_eq]
  exact Vector.countP_set _

theorem occupied_pos (slot : f.slots[n] = some a) : 0 < f.occupied := by
  rw [occupied_eq]
  exact Vector.countP_pos_iff.2 ⟨_, Vector.getElem_mem n.isLt, by rw [Fin.getElem_fin] at slot; simp [slot]⟩

/-- A slot that opens adds at most one to the occupied count. -/
theorem occupied_opening (n : SlotNo) (rest : List SlotNo) (sl : Slot) (f : Floor) :
    (floorOpening n rest sl f).occupied ≤ f.occupied + 1 := by
  have count : (floorOpening n rest sl f).occupied = _ := occupied_put f n (some sl)
  rw [count]
  simp

/-- An occupied slot that closes takes one off the occupied count. -/
theorem occupied_closing (slot : f.slots[n] = some a) : (floorClosing n f).occupied + 1 = f.occupied := by
  have count : (floorClosing n f).occupied = _ := occupied_put f n none
  have pos := occupied_pos slot
  rw [count, slot]
  simp
  omega

/-- A slot changed in place keeps its seat. -/
theorem mapSlot_seating (f : Floor) (n : SlotNo) {h : Slot → Slot} (keeps : ∀ a, (h a).seat = a.seat) :
    (f.mapSlot n h).seating = f.seating := by
  have seats : (f.mapSlot n h).seating.seats = f.seating.seats := Vector.ext fun i hi => by
    have at_i := seating_seats (f.mapSlot n h) ⟨i, hi⟩
    have was := seating_seats f ⟨i, hi⟩
    rw [Floor.mapSlot, put_getElem] at at_i
    refine at_i.trans (Eq.trans ?_ was.symm)
    split
    · next here => rw [← here, Option.map_map]; exact congrArg (Option.map · _) (funext keeps)
    · rfl
  rw [Floor.seating, Floor.seating] at *
  simpa [Floor.mapSlot] using seats

end Sys2Proof.Machine
end

section
namespace Sys2Proof.Machine
variable {s t : State} {f g : Floor} {n : SlotNo} {a : Slot} {seat : Seat}

/-! ### The laws of the queue and the slots, of the seats alone (R58, R59, R78, R79) -/

/-- An open slot of a seat with nothing else worth telling. -/
def Slot.bare (x : Seat) : Slot := ⟨x, .open, .press, false, 0, 0, none, false, 0, false⟩

/-- A floor of this seating, its slots bare. -/
def Seating.floor (S : Seating) : Floor := ⟨S.seats.map (Option.map Slot.bare), S.speakers, S.free, [], S.mask, S.locked⟩

/-- The laws of the queue and the slots, of the entries and the seating alone. -/
abbrev Seated (es : List QueueEntry) (S : Seating) : Prop := Orderly ⟨es, .open, none, 0⟩ S.floor

theorem seating_floor_slots (f : Floor) (n : SlotNo) :
    f.seating.floor.slots[n] = (f.slots[n]).map fun a => Slot.bare a.seat := by
  rw [Seating.floor, Fin.getElem_fin, Vector.getElem_map, ← Fin.getElem_fin, seating_seats, Option.map_map]
  rfl

theorem seating_floor_seating (f : Floor) : f.seating.floor.seating = f.seating := by
  simp [Seating.floor, Floor.seating, Function.comp_def, Slot.bare]

/-- The laws of the queue and the slots read the entries and the seating alone. -/
theorem FloorLaws.congr (h : FloorLaws s) (seating : t.floor.seating = s.floor.seating) (queue : t.queue.entries = s.queue.entries) :
    FloorLaws t := by
  have isSome (n : SlotNo) : (t.floor.slots[n]).isSome = (s.floor.slots[n]).isSome := by
    have seat := seating_seats t.floor n
    rw [seating, seating_seats] at seat
    simpa [-Fin.getElem_fin] using (congrArg Option.isSome seat).symm
  obtain ⟨entries, ⟨speakers, free, mem_speakers, mem_free⟩, one, waiting⟩ := h
  have lists : t.floor.speakers = s.floor.speakers ∧ t.floor.free = s.floor.free :=
    ⟨congrArg Seating.speakers seating, congrArg Seating.free seating⟩
  refine ⟨by unfold QueueLaw; rw [queue]; exact entries, ⟨lists.1 ▸ speakers, lists.2 ▸ free, fun n => ?_, fun n => ?_⟩, ?_, ?_⟩
  · rw [lists.1, isSome]; exact mem_speakers n
  · rw [lists.2, ← Option.not_isSome_iff_eq_none, isSome, Option.not_isSome_iff_eq_none]; exact mem_free n
  · intro m n a b ha hb same
    obtain ⟨a', ha', sa⟩ := seating_slot seating ha
    obtain ⟨b', hb', sb⟩ := seating_slot seating hb
    exact one m n a' b' ha' hb' (sa ▸ sb ▸ same)
  · intro n a slot
    obtain ⟨b, there, same⟩ := seating_slot seating slot
    rw [queue, same]
    exact waiting n b there

/-- The entries and the seating alone, as a state. -/
def State.bare (s : State) : State := { s with queue := ⟨s.queue.entries, .open, none, 0⟩, floor := s.floor.seating.floor }

theorem floorLaws_iff (s : State) : FloorLaws s ↔ Seated s.queue.entries s.floor.seating := by
  have seating : s.bare.floor.seating = s.floor.seating := seating_floor_seating s.floor
  have ranges : SlotRangesLaw s.bare := fun n a slot => by
    obtain ⟨b, -, rfl⟩ := Option.map_eq_some_iff.1 ((seating_floor_slots s.floor n).symm.trans slot)
    exact ⟨Nat.zero_le _, Nat.zero_le _, fun _ no => nomatch no⟩
  refine Iff.trans ?_ (orderly_iff s.bare).symm
  exact ⟨fun h => ⟨h.congr seating rfl, ⟨rfl, rfl⟩, ranges⟩, fun h => h.1.congr seating.symm rfl⟩

theorem slotOf_seating (nowhere : f.slotOf seat = none) : f.seating.floor.slotOf seat = none := by
  rw [slotOf_none_iff] at nowhere ⊢
  intro m b slot
  rw [seating_floor_slots] at slot
  obtain ⟨c, there, rfl⟩ := Option.map_eq_some_iff.1 slot
  exact nowhere m c there

theorem FloorLaws.of_seating (h : FloorLaws s) (seating : t.floor.seating = s.floor.seating)
    (less : t.queue.entries.Sublist s.queue.entries) : FloorLaws t := by
  rw [floorLaws_iff] at h ⊢
  rw [seating]
  exact h.sublist less

theorem FloorLaws.closing (h : FloorLaws s) (slot : s.floor.slots[n] = some a) (floor : t.floor = floorClosing n s.floor)
    (queue : t.queue.entries = s.queue.entries) : FloorLaws t := by
  rw [floorLaws_iff] at h ⊢
  have closed : t.floor.seating.floor = floorClosing n s.floor.seating.floor := by
    rw [floor]
    simp [Floor.seating, Seating.floor, floorClosing, put, Vector.map_set]
  rw [queue, Seated, closed]
  exact h.closing (by rw [seating_floor_slots, slot]; rfl)

theorem FloorLaws.opening (h : FloorLaws s) {rest : List SlotNo} (free : s.floor.free = n :: rest)
    (nowhere : s.floor.slotOf a.seat = none) (floor : t.floor = floorOpening n rest a s.floor)
    (queue : t.queue.entries = s.queue.entries) (unqueued : ∀ e ∈ s.queue.entries, e.seat ≠ a.seat) : FloorLaws t := by
  rw [floorLaws_iff] at h ⊢
  have opened : t.floor.seating.floor =
      floorOpening n rest (Slot.bare a.seat) s.floor.seating.floor := by
    rw [floor]
    simp [Floor.seating, Seating.floor, floorOpening, put, Vector.map_set]
  rw [queue, Seated, opened]
  exact h.opening free ⟨Nat.zero_le _, Nat.zero_le _, fun _ no => nomatch no⟩ (slotOf_seating nowhere) unqueued

theorem FloorLaws.mapped (h : FloorLaws s) {g : QueueEntry → QueueEntry} (seats : ∀ x, (g x).seat = x.seat)
    (kinds : ∀ x, (g x).kind = x.kind) (heard : ∀ x, (x.target = none → x.heard = false) → (g x).target = none → (g x).heard = false)
    (seating : t.floor.seating = s.floor.seating) (queue : t.queue.entries = s.queue.entries.map g) : FloorLaws t := by
  rw [floorLaws_iff] at h ⊢
  rw [queue, seating]
  exact h.map seats kinds heard

theorem FloorLaws.joined (h : FloorLaws s) {e : QueueEntry} (room : (∃ x ∈ s.queue.entries, x.seat = e.seat) ∨ s.queue.entries.length < 128)
    (nowhere : s.floor.slotOf e.seat = none) (heard : e.target = none → e.heard = false)
    (seating : t.floor.seating = s.floor.seating)
    (queue : t.queue.entries = joinGroup e (dropEntry e.seat s.queue.entries)) : FloorLaws t := by
  rw [floorLaws_iff] at h ⊢
  rw [queue, seating]
  exact h.join room (slotOf_seating nowhere) heard

end Sys2Proof.Machine
end

section
namespace Sys2Proof.Machine
variable {spare : Seat → Prop} {extra : Nat} {s t : State} {n : SlotNo} {a : Slot} {seat : Seat}

/-! ### The law of the speakers, with the seats a rule has still to close (R79) -/

/-- A DELEGATE seat with a READY unit on an unmasked wing that is not LOCKED (R79). -/
structure MaySpeak (s : State) (seat : Seat) : Prop where
  cls : classOf s seat = .delegate
  ready : isReady s seat = true
  unmasked : isMasked s seat = false
  unlocked : isLocked s seat = false

/-- The laws of the queue and the slots, and the law of the speakers but for the seats `spare` and for `extra` slots past the
speaker limit: what a rule may leave while its own closes are still to come. -/
structure Speaks (spare : Seat → Prop) (extra : Nat) (s : State) : Prop where
  laws : FloorLaws s
  may : ∀ (n : SlotNo) (a : Slot), s.floor.slots[n] = some a → spare a.seat ∨ MaySpeak s a.seat
  room : s.floor.occupied ≤ (inForce s).speakerLimit + extra

/-- The laws of the queue and the slots, and the law of the speakers, of every slot (R79). -/
abbrev Lawful (s : State) : Prop := Speaks (fun _ => False) 0 s

theorem lawful_iff (s : State) : Lawful s ↔ FloorLaws s ∧ SlotSeatsLaw s := by
  refine ⟨fun ⟨laws, may, room⟩ => ⟨laws, fun n a slot => ?_, room, occupied_le _⟩, fun ⟨laws, may, room, _⟩ => ⟨laws,
      fun n a slot => ?_, room⟩⟩
  · obtain ⟨cls, ready, unmasked, unlocked⟩ := (may n a slot).resolve_left id
    exact ⟨cls, ready, unmasked, unlocked⟩
  · obtain ⟨cls, ready, unmasked, unlocked⟩ := may n a slot
    exact .inr ⟨cls, ready, unmasked, unlocked⟩

theorem MaySpeak.congr (h : MaySpeak s seat) (cls : classOf t seat = classOf s seat)
    (binding : t.trunks.binding[seat] = s.trunks.binding[seat]) (mask : t.floor.mask = s.floor.mask)
    (locked : t.floor.locked[seat] = s.floor.locked[seat]) : MaySpeak t seat := by
  obtain ⟨hc, hr, hm, hl⟩ := h
  refine ⟨cls.trans hc, ?_, ?_, ?_⟩
  · rw [isReady, placeOf, binding]; exact hr
  · rw [isMasked, placeOf, binding, mask]; exact hm
  · rw [isLocked, locked]; exact hl

/-- What is left of the seats a rule has to close, once it has closed some of them. -/
theorem Speaks.spared (h : Speaks spare extra s) {left : Seat → Prop}
    (gone : ∀ (n : SlotNo) (a : Slot), s.floor.slots[n] = some a → spare a.seat → left a.seat ∨ MaySpeak s a.seat) : Speaks left extra s :=
  ⟨h.laws, fun n a slot => (h.may n a slot).elim (gone n a slot) .inr, h.room⟩

/-- A state that reads the same entries, or fewer, and the same seats under the same plan, bindings and speaker limit. -/
theorem Speaks.of_seating (h : Speaks spare extra s) (seating : t.floor.seating = s.floor.seating)
    (less : t.queue.entries.Sublist s.queue.entries) (plan : t.plan = s.plan := by simp)
    (binding : t.trunks.binding = s.trunks.binding := by simp) (profiles : t.profiles = s.profiles := by simp) : Speaks spare extra t where
  laws := h.laws.of_seating seating less
  may n a slot := by
    obtain ⟨b, there, same⟩ := seating_slot seating slot
    rw [same]
    exact (h.may n b there).imp_right fun may => may.congr (by rw [classOf, plan]; rfl) (by rw [binding])
      (congrArg Seating.mask seating) (congrArg (·.locked[b.seat]) seating)
  room := by
    rw [occupied_seating seating, inForce_congr profiles]
    exact h.room

theorem Speaks.of_floor (h : Speaks spare extra s) (floor : t.floor = s.floor := by simp)
    (queue : t.queue = s.queue := by simp) (plan : t.plan = s.plan := by simp)
    (binding : t.trunks.binding = s.trunks.binding := by simp) (profiles : t.profiles = s.profiles := by simp) : Speaks spare extra t :=
  h.of_seating (by rw [floor]) (by rw [queue]) plan binding profiles

theorem Speaks.of_entries (h : Speaks spare extra s) (less : t.queue.entries.Sublist s.queue.entries) (floor : t.floor = s.floor := by simp)
    (plan : t.plan = s.plan := by simp)
    (binding : t.trunks.binding = s.trunks.binding := by simp) (profiles : t.profiles = s.profiles := by simp) : Speaks spare extra t :=
  h.of_seating (by rw [floor]) less plan binding profiles

/-! ### Writes that the law does not read -/

@[simp] theorem post_speaks (h : Speaks spare extra s) (b : NoticeBody) : Speaks spare extra (post b s) := h.of_floor

@[simp] theorem setLink_speaks (h : Speaks spare extra s) (l : Link) : Speaks spare extra (s.setLink l) := h.of_floor

@[simp] theorem setDraws_speaks (h : Speaks spare extra s) (k : Nat) : Speaks spare extra (s.setDraws k) := h.of_floor

@[simp] theorem mapSeat_speaks (h : Speaks spare extra s) (seat : Seat) (g : SeatRecord → SeatRecord) :
    Speaks spare extra (mapSeat seat g s) := h.of_floor

@[simp] theorem restartBlanking_speaks (h : Speaks spare extra s) (seat : Seat) : Speaks spare extra (restartBlanking seat s) := h.of_floor

@[simp] theorem mapTrunk_speaks (h : Speaks spare extra s) (w : Wing) (g : Trunk → Trunk) : Speaks spare extra
    (mapTrunk w g s) := h.of_floor

@[simp] theorem setEntry_speaks (h : Speaks spare extra s) (p : Place) (e : Option ChainEntry) : Speaks spare extra (setEntry p e s) :=
  h.of_floor

@[simp] theorem setList_speaks (h : Speaks spare extra s) (list : ListState) (limit : Option Nat) :
    Speaks spare extra (setList list limit s) := h.of_entries (by simp [setList])

/-! ### Entries that leave (R70, R151) -/

@[simp] theorem takeOut_speaks (h : Speaks spare extra s) (seat : Seat) (l : LeaveReason) : Speaks spare extra (takeOut seat l s) :=
  h.of_entries (by rw [takeOut_entries]; exact dropEntry_sublist seat _)

@[simp] theorem drainEndTest_speaks (h : Speaks spare extra s) : Speaks spare extra (drainEndTest s) := h.of_entries
    (drainEndTest_entries s)

@[simp] theorem leaveQueue_speaks (h : Speaks spare extra s) (seat : Seat) (l : LeaveReason) : Speaks spare extra (leaveQueue seat l s) :=
  h.of_entries ((leaveQueue_entries seat l s).trans (dropEntry_sublist seat _))

/-! ### Slots that open and close (R81, R82) -/

/-- A slot put on the floor for a seat that may speak, with no slot and no entry, while a free slot exists. -/
theorem Speaks.opening (h : Speaks spare extra s) {rest : List SlotNo} (free : s.floor.free = n :: rest) (may : MaySpeak s a.seat)
    (nowhere : s.floor.slotOf a.seat = none) (unqueued : ∀ e ∈ s.queue.entries, e.seat ≠ a.seat)
    (room : s.floor.occupied < (inForce s).speakerLimit) (floor : t.floor = floorOpening n rest a s.floor)
    (queue : t.queue = s.queue := by simp) (plan : t.plan = s.plan := by simp)
    (binding : t.trunks.binding = s.trunks.binding := by simp) (profiles : t.profiles = s.profiles := by simp) : Speaks spare extra t where
  laws := h.laws.opening free nowhere floor (by rw [queue]) unqueued
  may m b slot := by
    have same (x : Seat) (may : MaySpeak s x) : MaySpeak t x :=
      may.congr (by rw [classOf, plan]; rfl) (by rw [binding]) (by rw [floor]; rfl) (by rw [floor]; rfl)
    rw [floor, floorOpening, put_getElem] at slot
    split at slot
    · obtain rfl := Option.some.inj slot
      exact .inr (same _ may)
    · exact (h.may m b slot).imp_right (same _)
  room := by
    have opened := occupied_opening n rest a s.floor
    rw [floor, inForce_congr profiles]
    omega

theorem Speaks.closing (h : Speaks spare extra s) (slot : s.floor.slots[n] = some a) (floor : t.floor = floorClosing n s.floor)
    (queue : t.queue.entries = s.queue.entries) (plan : t.plan = s.plan := by simp)
    (binding : t.trunks.binding = s.trunks.binding := by simp) (profiles : t.profiles = s.profiles := by simp) :
    Speaks spare (extra - 1) t where
  laws := h.laws.closing slot floor queue
  may m b there := by
    rw [floor, floorClosing, put_getElem] at there
    split at there
    · cases there
    · exact (h.may m b there).imp_right fun may =>
        may.congr (by rw [classOf, plan]; rfl) (by rw [binding]) (by rw [floor]; rfl) (by rw [floor]; rfl)
  room := by
    have closed := occupied_closing slot
    have before := h.room
    rw [floor, inForce_congr profiles]
    omega

end Sys2Proof.Machine
end

section
namespace Sys2Proof.Machine
variable {spare : Seat → Prop} {extra : Nat} {s t : State} {n : SlotNo} {a : Slot} {seat : Seat}

/-! ### The opening path and the advance check (R81, R90) -/

theorem maySpeak_of_eligible {e : QueueEntry} (eligible : isEligible s e = true) : MaySpeak s e.seat := by
  unfold isEligible eligibility at eligible
  (repeat' split at eligible) <;> simp_all
  constructor <;> simp_all

theorem occupy_speaks (h : Speaks spare extra s) {rest : List SlotNo} (free : s.floor.free = n :: rest) (may : MaySpeak s seat)
    (nowhere : s.floor.slotOf seat = none) (unqueued : ∀ e ∈ s.queue.entries, e.seat ≠ seat)
    (room : s.floor.occupied < (inForce s).speakerLimit) (o : Origin) (g : Bool) : Speaks spare extra (occupy n rest seat o g s) :=
  h.opening (a := newSlot s seat o g) free may nowhere unqueued room (occupy_floor ..)

/-- A seat that may speak and holds no slot is given a free one, its entry taken out first (R81). -/
@[simp] theorem openSlot_speaks (h : Speaks spare extra s) (may : MaySpeak s seat) (nowhere : s.floor.slotOf seat = none)
    (room : freeSlotExists s = true) (o : Origin) (g : Bool) : Speaks spare extra (openSlot seat o g s) := by
  have room := (freeSlotExists_iff s).1 room
  unfold openSlot
  split
  · exact h
  · next n rest free =>
    split
    · have gone : ∀ e ∈ (takeOut seat .granted s).queue.entries, e.seat ≠ seat := by
        rw [takeOut_entries]; exact dropEntry_gone h.laws.1.2.1 seat
      refine drainEndTest_speaks (occupy_speaks (takeOut_speaks h seat .granted) (by simpa using free) ?_
          (by simpa using nowhere) gone ?_ o g)
      · exact may.congr (by simp [classOf]) (by simp) (by simp) (by simp)
      · rw [inForce_congr (t := takeOut seat .granted s) (s := s) (by simp)]; simpa using room
    · next noEntry =>
      exact occupy_speaks h free may nowhere (fun e he same => noEntry ((hasEntry_iff s seat).2 ⟨e, he, same⟩)) room o g

/-- A seat that waits holds no slot (R79). -/
theorem FloorLaws.nowhere (h : FloorLaws s) {e : QueueEntry} (waits : e ∈ s.queue.entries) : s.floor.slotOf e.seat = none :=
  (slotOf_none_iff s.floor e.seat).2 fun m a slot same => h.2.2.2 m a slot e waits same.symm

theorem openFirst_speaks (h : Speaks spare extra s) {e : QueueEntry} (first : firstEligible s = some e) (room : freeSlotExists s = true)
    (o : Origin) : Speaks spare extra (openSlot e.seat o false s) :=
  openSlot_speaks h (maySpeak_of_eligible (List.find?_some first)) (h.laws.nowhere (firstEligible_mem first)) room o false

@[simp] theorem advance_speaks (h : Speaks spare extra s) (k : Nat) : Speaks spare extra (advance k s) := by
  induction k generalizing s with
  | zero => exact h
  | succ k ih =>
    unfold advance
    split
    · exact h
    · next granted =>
      obtain ⟨-, room, first⟩ := nextToAdvance_some granted
      exact ih (openFirst_speaks h first room .queue)

@[simp] theorem advanceCheck_speaks (h : Speaks spare extra s) : Speaks spare extra (advanceCheck s) := advance_speaks h 8

@[simp] theorem deferredAdvance_speaks (h : Speaks spare extra s) (b : Bool) : Speaks spare extra (deferredAdvance b s) := by
  unfold deferredAdvance; split <;> simp [h]

/-! ### The close path (R82, R83) -/

/-- Entries changed in place, as a close and a drop request change them. -/
theorem Speaks.mapped (h : Speaks spare extra s) {g : QueueEntry → QueueEntry} (seats : ∀ x, (g x).seat = x.seat)
    (kinds : ∀ x, (g x).kind = x.kind) (heard : ∀ x, (x.target = none → x.heard = false) → (g x).target = none → (g x).heard = false) :
    Speaks spare extra (s.setQueue { s.queue with entries := s.queue.entries.map g }) where
  laws := h.laws.mapped seats kinds heard rfl rfl
  may n a slot := (h.may n a slot).imp_right fun may => may.congr rfl rfl rfl rfl
  room := h.room

@[simp] theorem tellClose_speaks (h : Speaks spare extra s) (seat : Seat) : Speaks spare extra (tellClose seat s) := by
  refine drainEndTest_speaks (h.mapped (fun x => (hearEntry_seat seat x).1) (fun x => ?_) fun x heard none => ?_)
  · unfold hearEntry; split <;> rfl
  · rw [(hearEntry_seat seat x).2] at none
    rw [hearEntry, if_neg (by simp [none])]
    exact heard none

/-- The close of an occupied slot brings the floor one slot nearer to its limit. -/
theorem closeSlot_nearer (h : Speaks spare extra s) (slot : s.floor.slots[n] = some a) (c : CloseReason) :
    Speaks spare (extra - 1) (closeSlot n c s) := by
  rw [closeSlot_some c slot]
  exact tellClose_speaks (post_speaks (h.closing (t := s.setFloor (floorClosing n s.floor)) slot rfl rfl) _) _

theorem Speaks.atMost (h : Speaks spare extra s) {more : Nat} (le : extra ≤ more) : Speaks spare more s :=
  ⟨h.laws, h.may, h.room.trans (Nat.add_le_add_left le _)⟩

@[simp] theorem closeSlot_speaks (h : Speaks spare extra s) (n : SlotNo) (c : CloseReason) : Speaks spare extra (closeSlot n c s) := by
  obtain free | ⟨sl, slot⟩ := Option.eq_none_or_eq_some s.floor.slots[n]
  · rwa [closeSlot_none c free]
  · exact (closeSlot_nearer h slot c).atMost (Nat.sub_le _ _)

@[simp] theorem closeSeatQuiet_speaks (h : Speaks spare extra s) (seat : Seat) (c : CloseReason) :
    Speaks spare extra (closeSeatQuiet seat c s) := by
  unfold closeSeatQuiet; split <;> simp [h]

@[simp] theorem closeSeat_speaks (h : Speaks spare extra s) (seat : Seat) (c : CloseReason) :
    Speaks spare extra (closeSeat seat c s) := by
  unfold closeSeat; split <;> simp [h]

theorem foldl_speaks {α : Type} {g : State → α → State} (hg : ∀ (s : State) (a : α), Speaks spare extra s → Speaks spare extra (g s a))
    (l : List α) (h : Speaks spare extra s) : Speaks spare extra (l.foldl g s) :=
  foldl_inv (Speaks spare extra) g hg l s h

@[simp] theorem closeGroup_speaks (h : Speaks spare extra s) (ns : List SlotNo) (c : CloseReason) :
    Speaks spare extra (closeGroup ns c s) := foldl_speaks (fun _ _ h => closeSlot_speaks h _ _) ns h

/-- With the slot of a seat closed, no slot of that seat is left (R79, R83). -/
theorem closeSlot_gone (h : FloorLaws s) (held : s.floor.slotOf seat = some n) (c : CloseReason) :
    Holds seat 0 True (closeSlot n c s) := closeSlot_last (holds_of_laws h.1 h.2.2 seat) held c

/-- A close request closes what a rule has left open of a seat, with its advance check or without (R82, R83). -/
theorem closeSeats_spared (h : Speaks (fun x => spare x ∨ x = seat) extra s) (c : CloseReason) :
    Speaks spare extra (closeSeatQuiet seat c s) ∧ Speaks spare extra (closeSeat seat c s) := by
  unfold closeSeatQuiet closeSeat
  cases held : s.floor.slotOf seat with
  | none =>
    have kept : Speaks spare extra s := h.spared fun n a slot => fun
      | .inl spared => .inl spared
      | .inr same => absurd same (slotOf_none held slot)
    exact ⟨kept, kept⟩
  | some n =>
    have closed : Speaks spare extra (closeSlot n c s) := (closeSlot_speaks h n c).spared fun m a slot => fun
      | .inl spared => .inl spared
      | .inr same => absurd same ((closeSlot_gone h.laws held c).noSlot m a slot)
    exact ⟨closed, advanceCheck_speaks closed⟩

/-! ### Bindings, requests to join and refusals (R39, R62, R69) -/

@[simp] theorem dropBindings_speaks (h : Speaks spare extra s) (seat : Seat) (d : Bool) :
    Speaks spare extra (dropBindings seat d s) := by
  have unbound : Speaks spare extra (s.setQueue { s.queue with entries := s.queue.entries.map (unbindEntry seat) }) := by
    refine h.mapped (fun x => (unbindEntry_seat seat x).1) (fun x => ?_) fun x heard none => ?_
    · unfold unbindEntry; split <;> rfl
    · unfold unbindEntry at none ⊢
      split
      · rfl
      · next other => rw [if_neg other] at none; exact heard none
  unfold dropBindings; dsimp only
  (repeat' split) <;> simp [h, unbound]

/-- An entry of a seat with no slot joins its group, with room for it. -/
theorem Speaks.joined (h : Speaks spare extra s) {e : QueueEntry} (room : (∃ x ∈ s.queue.entries,
    x.seat = e.seat) ∨ s.queue.entries.length < 128)
    (nowhere : s.floor.slotOf e.seat = none) (heard : e.target = none → e.heard = false) :
    Speaks spare extra (setEntries (joinGroup e (dropEntry e.seat s.queue.entries)) s) := by
  rw [setEntries_eq]
  exact ⟨h.laws.joined room nowhere heard rfl rfl, fun n a slot => (h.may n a slot).imp_right fun may => may.congr rfl rfl rfl rfl, h.room⟩

@[simp] theorem enterQueue_speaks (h : Speaks spare extra s) {e : QueueEntry} (nowhere : s.floor.slotOf e.seat = none)
    (heard : e.target = none → e.heard = false) (room : hasEntry s e.seat = true ∨ s.queue.isFull = false) (renewed : Bool) :
    Speaks spare extra (enterQueue e renewed s) := by
  have room : (∃ x ∈ s.queue.entries, x.seat = e.seat) ∨ s.queue.entries.length < 128 :=
    room.imp (hasEntry_iff s e.seat).1 fun notFull => not_le.1 (of_decide_eq_false notFull)
  have joined := h.joined room nowhere heard
  unfold enterQueue; dsimp only; split <;> simp [joined]

@[simp] theorem showRefused_binding (seat : Seat) (s : State) : (showRefused seat s).trunks.binding = s.trunks.binding := by
  unfold showRefused; (repeat' split) <;> simp

@[simp] theorem refuse_speaks (h : Speaks spare extra s) (seat : Seat) (e : SeatEvent) (c : RefusalCause) :
    Speaks spare extra (refuse seat e c s) := h.of_floor (binding := by simp [refuse])

@[simp] theorem enqueuePress_speaks (h : Speaks spare extra s) (nowhere : s.floor.slotOf seat = none) (k : EntryKind) (e : SeatEvent) :
    Speaks spare extra (enqueuePress seat k e s) := by
  unfold enqueuePress; (repeat' split) <;> simp_all

end Sys2Proof.Machine
end

section
namespace Sys2Proof.Machine
variable {spare : Seat → Prop} {extra : Nat} {s t : State} {n : SlotNo} {a : Slot} {seat : Seat}

/-! ### Chair microphones and the hold (R91 to R94) -/

theorem Speaks.reseated (h : Speaks spare extra s) (seating : t.floor.seating = s.floor.seating := by simp)
    (queue : t.queue = s.queue := by simp) (plan : t.plan = s.plan := by simp)
    (binding : t.trunks.binding = s.trunks.binding := by simp) (profiles : t.profiles = s.profiles := by simp) : Speaks spare extra t :=
  h.of_seating seating (by rw [queue]) plan binding profiles

@[simp] theorem setChairs_seating (cs : List ChairRecord) (s : State) : (setChairs cs s).floor.seating = s.floor.seating := by
  rw [setChairs_floor]; rfl

@[simp] theorem setChairs_speaks (h : Speaks spare extra s) (cs : List ChairRecord) : Speaks spare extra (setChairs cs s) := h.reseated

@[simp] theorem openChair_speaks (h : Speaks spare extra s) (seat : Seat) : Speaks spare extra (openChair seat s) :=
  post_speaks (restartBlanking_speaks (setChairs_speaks h _) _) _

@[simp] theorem closeChair_speaks (h : Speaks spare extra s) (seat : Seat) : Speaks spare extra (closeChair seat s) := by
  simp [closeChair, h]

@[simp] theorem holdChair_speaks (h : Speaks spare extra s) (seat : Seat) : Speaks spare extra (holdChair s seat) := by
  unfold holdChair; dsimp only; (repeat' split) <;> simp [h]

@[simp] theorem releaseChair_speaks (h : Speaks spare extra s) (seat : Seat) : Speaks spare extra (releaseChair s seat) := by
  unfold releaseChair; (repeat' split) <;> simp [h]

@[simp] theorem muteSlot_speaks (h : Speaks spare extra s) (n : SlotNo) : Speaks spare extra (muteSlot s n) :=
  h.reseated (mapSlot_seating _ _ fun _ => by split <;> rfl)

@[simp] theorem unmuteSlot_speaks (h : Speaks spare extra s) (n : SlotNo) : Speaks spare extra (unmuteSlot s n) :=
  h.reseated (by rw [unmuteSlot_floor]; exact mapSlot_seating _ _ fun _ => by split <;> rfl)

@[simp] theorem closeForHold_speaks (h : Speaks spare extra s) (n : SlotNo) : Speaks spare extra (closeForHold s n) := by
  simp [closeForHold, h]

@[simp] theorem startHold_speaks (h : Speaks spare extra s) (seat : Seat) : Speaks spare extra (startHold seat s) := by
  unfold startHold; dsimp only
  refine foldl_speaks (g := holdChair) (fun _ _ h => holdChair_speaks h _) _ ?_
  split
  · exact foldl_speaks (g := muteSlot) (fun _ _ h => muteSlot_speaks h _) _ (by simp [h])
  · exact foldl_speaks (g := closeForHold) (fun _ _ h => closeForHold_speaks h _) _ (by simp [h])

@[simp] theorem endHold_speaks (h : Speaks spare extra s) (seat : Seat) : Speaks spare extra (endHold seat s) :=
  advanceCheck_speaks (foldl_speaks (g := releaseChair) (fun _ _ h => releaseChair_speaks h _) _
    (foldl_speaks (g := unmuteSlot) (fun _ _ h => unmuteSlot_speaks h _) _ (by simp [h])))

@[simp] theorem setHeld_speaks (h : Speaks spare extra s) (seat : Seat) (b : Bool) : Speaks spare extra (setHeld seat b s) := by
  simp [setHeld, h]

@[simp] theorem lowerHold_speaks (h : Speaks spare extra s) (seat : Seat) : Speaks spare extra (lowerHold seat s) := by
  unfold lowerHold; dsimp only; (repeat' split) <;> simp [h]

@[simp] theorem raiseHold_speaks (h : Speaks spare extra s) (seat : Seat) : Speaks spare extra (raiseHold seat s) := by
  unfold raiseHold; dsimp only; (repeat' split) <;> simp [h]

@[simp] theorem withdrawChair_speaks (h : Speaks spare extra s) (seat : Seat) : Speaks spare extra (withdrawChair seat s) := by
  have closed (b : Bool) : Speaks spare extra (if b then closeChair seat s else s) := by split <;> simp [h]
  unfold withdrawChair
  split
  · exact h
  · exact lowerHold_speaks (setChairs_speaks (closed _) _) seat

/-! ### LOCKED flags (R97) -/

/-- A flag cleared holds no seat back. -/
@[simp] theorem unlock_speaks (h : Speaks spare extra s) (seat : Seat) : Speaks spare extra (setLocked seat false s) where
  laws := h.laws
  may n a slot := (h.may n a slot).imp_right fun ⟨cls, ready, unmasked, unlocked⟩ => ⟨cls, ready, unmasked, by
    simp only [isLocked, setLocked, State.setFloor_floor, put_getElem]
    split
    · rfl
    · exact unlocked⟩
  room := h.room

/-- A flag is set for a seat that holds no slot (R95, R96). -/
theorem lock_speaks (h : Speaks spare extra s) (gone : ∀ (n : SlotNo) (a : Slot), s.floor.slots[n] = some a → a.seat ≠ seat) :
    Speaks spare extra (setLocked seat true s) where
  laws := h.laws
  may n a slot := (h.may n a slot).imp_right fun ⟨cls, ready, unmasked, unlocked⟩ => ⟨cls, ready, unmasked, by
    simp only [isLocked, setLocked, State.setFloor_floor, put_getElem, if_neg (gone n a slot)]
    exact unlocked⟩
  room := h.room

/-! ### Presses, voice and chair buttons (R84 to R91, R101) -/

@[simp] theorem queueOrRefuse_speaks (h : Speaks spare extra s) (nowhere : s.floor.slotOf seat = none) :
    Speaks spare extra (queueOrRefuse seat s) := by
  unfold queueOrRefuse; split <;> simp [h, nowhere]

@[simp] theorem requestOpen_speaks (h : Speaks spare extra s) (may : MaySpeak s seat) (nowhere : s.floor.slotOf seat = none) :
    Speaks spare extra (requestOpen seat s) := by
  unfold requestOpen
  split
  · next free =>
    have room : freeSlotExists s = true := (Bool.and_eq_true_iff.1 free).1
    split <;> simp [h, may, nowhere, room]
  · exact queueOrRefuse_speaks h nowhere

/-- The slot replaced makes room for the presser's. -/
theorem closeSlot_room (h : Speaks spare 0 s) (slot : s.floor.slots[n] = some a) (c : CloseReason) :
    freeSlotExists (closeSlot n c s) = true := by
  have closed := occupied_closing slot
  have room := h.room
  rw [freeSlotExists_iff, inForce_congr (t := closeSlot n c s) (s := s) (by simp), closeSlot_floor, slot]
  simp only [Option.isSome_some, if_true]
  omega

theorem replaceSpeaker_speaks (h : Speaks spare 0 s) (may : MaySpeak s seat) (nowhere : s.floor.slotOf seat = none)
    (slot : s.floor.slots[n] = some a) : Speaks spare 0 (replaceSpeaker n seat s) := by
  have still : MaySpeak (closeSlot n .replaced s) seat := may.congr (by simp [classOf]) (by simp)
    (by rw [closeSlot_floor]; split <;> rfl) (by rw [closeSlot_floor]; split <;> rfl)
  exact advanceCheck_speaks (openSlot_speaks (closeSlot_speaks h n _) still (closeSlot_nowhere nowhere n _) (closeSlot_room h slot _) _ _)

theorem oldestUnguarded_slot (oldest : oldestUnguarded s.floor = some n) : ∃ a, s.floor.slots[n] = some a := by
  unfold oldestUnguarded at oldest
  have unguarded := List.find?_some oldest
  obtain ⟨a, slot, -⟩ := (Option.any_eq_true _ _).1 unguarded
  exact ⟨a, slot⟩

@[simp] theorem requestOverride_speaks (h : Speaks spare 0 s) (may : MaySpeak s seat) (nowhere : s.floor.slotOf seat = none) :
    Speaks spare 0 (requestOverride seat s) := by
  unfold requestOverride
  split
  · split <;> simp [*]
  · split
    · next n oldest =>
      obtain ⟨a, slot⟩ := oldestUnguarded_slot oldest
      split
      · simp [h]
      · exact replaceSpeaker_speaks h may nowhere slot
    · exact queueOrRefuse_speaks h nowhere

/-- A press of a DELEGATE seat with a READY unit: where it opens a slot, the seat is neither LOCKED nor masked (R85). -/
theorem shortPress_speaks (h : Speaks spare 0 s) (cls : classOf s seat = .delegate) (ready : isReady s seat = true) :
    Speaks spare 0 (shortPress seat s) := by
  unfold shortPress
  split
  · split <;> simp [h]
  · next held =>
    have nowhere : s.floor.slotOf seat = none := Option.not_isSome_iff_eq_none.1 held
    split
    · simp [h]
    · split
      · exact h
      · split
        · simp [h]
        · next unlocked =>
          split
          · simp [h]
          · next unmasked =>
            have may : MaySpeak s seat := ⟨cls, ready, by simpa using unmasked, by simpa using unlocked⟩
            split <;> simp [h, may, nowhere]

/-- A promotion moves an entry to the tail of the other group (R64). -/
@[simp] theorem promote_speaks (h : Speaks spare extra s) (nowhere : s.floor.slotOf seat = none) : Speaks spare extra (promote seat s) := by
  unfold promote
  split
  · exact h
  · next e found =>
    have waits : e ∈ s.queue.entries := List.mem_of_find?_eq_some found
    obtain rfl : e.seat = seat := by simpa using List.find?_some found
    split
    · exact h
    · exact post_speaks (h.joined (e := { e with kind := .priority }) (.inl ⟨e, waits, rfl⟩) nowhere (h.laws.1.2.2.2 e waits)) _

@[simp] theorem longPress_speaks (h : Speaks spare extra s) (seat : Seat) : Speaks spare extra (longPress seat s) := by
  unfold longPress
  split
  · exact h
  · split
    · exact h
    · next held =>
      have nowhere : s.floor.slotOf seat = none := Option.not_isSome_iff_eq_none.1 held
      (repeat' split) <;> simp [h, nowhere]

theorem voiceStartEvent_speaks (h : Speaks spare extra s) (cls : classOf s seat = .delegate) (ready : isReady s seat = true) :
    Speaks spare extra (voiceStartEvent seat s) := by
  unfold voiceStartEvent
  split
  · next opens =>
    simp only [Bool.and_eq_true, Bool.not_eq_true', Option.isNone_iff_eq_none] at opens
    obtain ⟨⟨⟨⟨⟨-, nowhere⟩, unlocked⟩, unmasked⟩, room⟩, -⟩ := opens
    exact openSlot_speaks h ⟨cls, ready, unmasked, unlocked⟩ nowhere room _ _
  · exact h

@[simp] theorem silenceEvent_speaks (h : Speaks spare extra s) (seat : Seat) : Speaks spare extra (silenceEvent seat s) := by
  unfold silenceEvent; (repeat' split) <;> simp [h]

@[simp] theorem talk_speaks (h : Speaks spare extra s) (seat : Seat) : Speaks spare extra (talk seat s) := by
  unfold talk; (repeat' split) <;> simp [h]

theorem nextRefusal_room_of_none (none : nextRefusal s = none) : freeSlotExists s = true := by
  unfold nextRefusal at none
  (repeat' split at none) <;> simp_all

@[simp] theorem chairNext_speaks (h : Speaks spare extra s) (seat : Seat) : Speaks spare extra (chairNext seat s) := by
  unfold chairNext
  split
  · simp [h]
  · next granted =>
    split
    · next first => exact openFirst_speaks h first (nextRefusal_room_of_none granted) .next
    · exact h

/-! ### The howl guard (R95, R96) -/

theorem howlSlot_speaks (h : Speaks spare extra s) (seat : Seat) : Speaks spare extra (howlSlot seat s) := by
  unfold howlSlot
  split
  · exact h
  · next n held =>
    split
    · exact h
    · split
      · exact h
      · split
        · refine post_speaks (h.reseated (t := s.setFloor _) ?_) _
          exact mapSlot_seating _ _ fun _ => rfl
        · have told (b : NoticeBody) : (post b s).floor = s.floor := by simp
          refine lock_speaks (by simp [h]) (Holds.noSlot (bound := True) ?_)
          rw [closeSeat, told, held]
          exact advanceCheck_holds (closeSlot_gone (post_speaks h _).laws (by rw [told]; exact held) _)

end Sys2Proof.Machine
end

section
namespace Sys2Proof.Machine
variable {spare : Seat → Prop} {extra : Nat} {s t : State} {n : SlotNo} {a : Slot} {seat : Seat}

/-- A seat that is not a DELEGATE holds no slot (R79). -/
theorem Speaks.unseated (h : Lawful s) (other : classOf s seat ≠ .delegate) (n : SlotNo) (a : Slot) (slot : s.floor.slots[n] = some a) :
    a.seat ≠ seat := by
  rintro rfl
  exact other ((h.may n a slot).resolve_left id).cls

theorem howlChair_speaks (h : Lawful s) (chair : classOf s seat = .chair) : Lawful (howlChair seat s) := by
  unfold howlChair
  split
  · exact h
  · split
    · exact h
    · dsimp only
      split
      · exact post_speaks (setChairs_speaks h _) _
      · refine post_speaks (post_speaks (lock_speaks (setChairs_speaks h _) fun n a slot => ?_) _) _
        exact h.unseated (by simp [chair]) n a (by rwa [setChairs_floor] at slot)

@[simp] theorem howlEvent_speaks (h : Lawful s) (seat : Seat) : Lawful (howlEvent seat s) := by
  unfold howlEvent
  split
  · next chair => exact howlChair_speaks h chair
  · exact howlSlot_speaks h seat

/-- A slot changed in place, its seat kept. -/
theorem Speaks.mapSlot (h : Speaks spare extra s) (n : SlotNo) {g : Slot → Slot} (seats : ∀ a, (g a).seat = a.seat) :
    Speaks spare extra (s.setFloor (s.floor.mapSlot n g)) := h.reseated (mapSlot_seating _ _ seats)

@[simp] theorem howlClearSlot_speaks (h : Speaks spare extra s) (seat : Seat) : Speaks spare extra (howlClearSlot seat s) := by
  unfold howlClearSlot
  split
  · exact h
  · next n _ =>
    have cleared (k : SlotCondition) : Speaks spare extra (s.setFloor (s.floor.mapSlot n fun sl => { sl with condition := k })) :=
      h.mapSlot n fun _ => rfl
    (repeat' split) <;> simp [h, cleared]

@[simp] theorem howlClearChair_speaks (h : Speaks spare extra s) (seat : Seat) : Speaks spare extra (howlClearChair seat s) := by
  unfold howlClearChair
  (repeat' split)
  · exact h
  · exact post_speaks (restartBlanking_speaks (setChairs_speaks h _) _) _
  · exact h

@[simp] theorem howlClearEvent_speaks (h : Speaks spare extra s) (seat : Seat) : Speaks spare extra (howlClearEvent seat s) := by
  unfold howlClearEvent; split <;> simp [h]

/-! ### The seat input unit (R41 to R53) -/

/-- A seat with a record has a READY unit (R41, R54). -/
theorem TrunkLaws.recorded (h : TrunkLaws s) {r : SeatRecord} (record : s.seats[seat] = some r) : isReady s seat = true := by
  obtain ⟨-, -, -, records⟩ := h
  exact (isReady_iff s seat).2 (records seat (by simp [record]))

theorem takeRequest_speaks (h : Lawful s) (laws : TrunkLaws s) (seat : Seat) (d : Bool) : Lawful (takeRequest seat d s) := by
  unfold takeRequest
  split
  · exact h
  · next r record =>
    dsimp only
    split
    · exact mapSeat_speaks h _ _
    · exact mapSeat_speaks h _ _
    · split
      · next cls =>
        split
        · exact longPress_speaks (mapSeat_speaks h _ _) _
        · exact shortPress_speaks (mapSeat_speaks h _ _) cls (laws.recorded record)
      · exact mapSeat_speaks h _ _

@[simp] theorem takePriority_speaks (h : Speaks spare extra s) (seat : Seat) (d : Bool) : Speaks spare extra (takePriority seat d s) := by
  unfold takePriority; dsimp only; (repeat' split) <;> simp [h]

@[simp] theorem takeTalk_speaks (h : Speaks spare extra s) (seat : Seat) (d : Bool) : Speaks spare extra (takeTalk seat d s) := by
  unfold takeTalk; dsimp only; (repeat' split) <;> simp [h]

@[simp] theorem takeNext_speaks (h : Speaks spare extra s) (seat : Seat) (d : Bool) : Speaks spare extra (takeNext seat d s) := by
  unfold takeNext; dsimp only; (repeat' split) <;> simp [h]

theorem takeButtons_speaks (h : Lawful s) (laws : TrunkLaws s) (seat : Seat) (b : Buttons) : Lawful (takeButtons seat b s) := by
  unfold takeButtons
  split
  · exact takeRequest_speaks h laws _ _
  · exact takeNext_speaks (takeTalk_speaks (takePriority_speaks h _ _) _ _) _ _

theorem becomeVoiced_speaks (h : Speaks spare extra s) (ready : isReady s seat = true) : Speaks spare extra (becomeVoiced seat s) := by
  unfold becomeVoiced
  dsimp only; split
  · next cls => exact voiceStartEvent_speaks (mapSeat_speaks h _ _) cls ready
  · exact mapSeat_speaks h _ _

@[simp] theorem becomeQuiet_speaks (h : Speaks spare extra s) (seat : Seat) : Speaks spare extra (becomeQuiet seat s) := by
  unfold becomeQuiet; dsimp only; split <;> simp [h]

theorem takeVoice_speaks (h : Speaks spare extra s) (laws : TrunkLaws s) (seat : Seat) (level : Nat) :
    Speaks spare extra (takeVoice seat level s) := by
  unfold takeVoice
  split
  · exact h
  · next r record => (repeat' split) <;> simp [h, becomeVoiced_speaks h (laws.recorded record)]

@[simp] theorem raiseHowl_speaks (h : Lawful s) (seat : Seat) : Lawful (raiseHowl seat s) := by
  unfold raiseHowl; dsimp only; split <;> simp [h]

@[simp] theorem raiseHowlClear_speaks (h : Speaks spare extra s) (seat : Seat) : Speaks spare extra (raiseHowlClear seat s) := by
  unfold raiseHowlClear; dsimp only; split <;> simp [h]

@[simp] theorem takeLive_speaks (h : Lawful s) (seat : Seat) (r : SeatRecord) (level : Nat) : Lawful (takeLive seat r level s) := by
  unfold takeLive; (repeat' split) <;> simp [h]

@[simp] theorem takeLockedSoft_speaks (h : Speaks spare extra s) (seat : Seat) (r : SeatRecord) (level : Nat) :
    Speaks spare extra (takeLockedSoft seat r level s) := by
  unfold takeLockedSoft; (repeat' split) <;> simp [h]

@[simp] theorem takeHowl_speaks (h : Lawful s) (seat : Seat) (level : Nat) : Lawful (takeHowl seat level s) := by
  unfold takeHowl; dsimp only; (repeat' split) <;> simp [h]

@[simp] theorem beginSeat_speaks (h : Speaks spare extra s) (seat : Seat) (b : Buttons) : Speaks spare extra (beginSeat seat b s) :=
  h.of_floor

theorem takeReport_speaks (h : Lawful s) (laws : TrunkLaws s) (seat : Seat) (b : Buttons) (level : Nat)
    (bound : s.trunks.binding[seat] ≠ none) : Lawful (takeReport seat b level s) :=
  have begun := beginSeat_trunkLaws laws seat b bound
  takeHowl_speaks (takeVoice_speaks (takeButtons_speaks (beginSeat_speaks h _ _) begun _ _) (takeButtons_trunkLaws begun _ _) _ _) _ _

@[simp] theorem quietSeat_speaks (h : Speaks spare extra s) (seat : Seat) : Speaks spare extra (quietSeat s seat) := by
  unfold quietSeat; (repeat' split) <;> simp [h]

/-! ### Speech timing (R108 to R114) -/

@[simp] theorem warnSlot_speaks (h : Speaks spare extra s) (n : SlotNo) (sl : Slot) : Speaks spare extra (warnSlot n sl s) := by
  have warned (b : Bool) : Speaks spare extra (s.setFloor (s.floor.mapSlot n fun sl => { sl with warned := b })) :=
    h.mapSlot n fun _ => rfl
  unfold warnSlot; (repeat' split) <;> simp [h, warned]

@[simp] theorem timeSlot_speaks (h : Speaks spare extra s) (n : SlotNo) : Speaks spare extra (timeSlot s n) := by
  have counted : Speaks spare extra (s.setFloor (s.floor.mapSlot n Slot.count)) :=
    h.mapSlot n fun a => by unfold Slot.count; split <;> rfl
  unfold timeSlot; dsimp only; (repeat' split) <;> simp [h, counted]

theorem takeFloorExtend_speaks (h : Speaks spare extra s) (x n : Half) : Speaks spare extra (takeFloorExtend x n s).state := by
  unfold takeFloorExtend
  split
  · split
    · exact h
    · split
      · exact h
      · dsimp only; split
        · exact h
        · exact h.mapSlot _ fun _ => rfl
  · exact h

/-! ### Profiles (R99, R140 to R144) -/

/-- Another profile in force changes the limit alone. -/
theorem Speaks.under (h : Speaks spare extra s) {more : Nat} (room : t.floor.occupied ≤ (inForce t).speakerLimit + more)
    (floor : t.floor = s.floor := by simp) (queue : t.queue = s.queue := by simp) (plan : t.plan = s.plan := by simp)
    (binding : t.trunks.binding = s.trunks.binding := by simp) : Speaks spare more t where
  laws := h.laws.congr (by rw [floor]) (by rw [queue])
  may n a slot := (h.may n a (by rwa [floor] at slot)).imp_right fun may =>
    may.congr (by rw [classOf, plan]; rfl) (by rw [binding]) (by rw [floor]) (by rw [floor])
  room := room

/-- Under any profile, at most eight speakers are past the limit. -/
theorem Speaks.reprofiled (h : Speaks spare extra s) (p : Profiles) : Speaks spare 8 (s.setProfiles p) :=
  h.under ((occupied_le _).trans (Nat.le_add_left _ _))

/-- The speaker list holds the occupied slots once each (R77). -/
theorem SlotListsLaw.occupied (h : SlotListsLaw s) : s.floor.occupied = s.floor.speakers.length := by
  obtain ⟨nodup, -, occupied, -⟩ := h
  rw [Floor.occupied, List.countP_eq_length_filter]
  refine (List.Perm.length_eq ((List.perm_ext_iff_of_nodup nodup ((List.nodup_finRange 8).filter _)).2 fun n => ?_)).symm
  simp [occupied n]

/-- Each close from the tail brings the floor one slot nearer to the new limit (R99). -/
theorem reduce_speaks (k : Nat) (h : Speaks spare k s) : Speaks spare 0 (reduce k s) := by
  induction k generalizing s with
  | zero => exact h
  | succ k ih =>
    unfold reduce
    have lists : SlotListsLaw s := h.laws.2.1
    split
    · next past =>
      split
      · next empty =>
        rw [lists.occupied, List.getLast?_eq_none_iff.1 empty] at past
        cases past
      · next n last =>
        obtain ⟨a, slot⟩ := Option.isSome_iff_exists.1 ((lists.2.2.1 n).1 (List.mem_of_getLast? last))
        exact ih (closeSlot_nearer h slot _)
    · next within => exact ⟨h.laws, h.may, not_lt.1 within⟩

theorem changeProfile_speaks (h : Speaks spare extra s) (n : ProfileNo) (c : ChangeCause) : Speaks spare 0 (changeProfile n c s) :=
  advanceCheck_speaks (reduce_speaks 8 (post_speaks (h.reprofiled _) _))

theorem applySelected_speaks (h : Speaks spare 0 s) (c : ChangeCause) : Speaks spare 0 (applySelected c s) := by
  unfold applySelected
  split
  · exact h
  · exact changeProfile_speaks h _ c

theorem qualifyPins_speaks (h : Speaks spare 0 s) : Speaks spare 0 (qualifyPins s) := by
  unfold qualifyPins
  split
  · exact changeProfile_speaks h _ _
  · exact h

theorem takeProfilePut_speaks (h : Speaks spare 0 s) (n : Byte) (r : RawProfile) : Speaks spare 0 (takeProfilePut n r s).state := by
  unfold takeProfilePut
  split
  · next n p _ _ =>
    dsimp only [answeredOk_state]
    split
    · exact changeProfile_speaks (h.reprofiled _) _ _
    · next other =>
      have same : inForce (s.setProfiles { s.profiles with records := put s.profiles.records n p }) = inForce s :=
        put_getElem_ne _ _ (Ne.symm other)
      exact h.under (by rw [same]; exact h.room)
  · exact h

/-- The number and the source of the selection leave the profile in force. -/
theorem Speaks.selected (h : Speaks spare 0 s) (n : ProfileNo) (src : ProfileSource) :
    Speaks spare 0 (s.setProfiles { s.profiles with selected := n, source := src }) :=
  h.under h.room

theorem takeProfileSelect_speaks (h : Speaks spare 0 s) (n : Byte) : Speaks spare 0 (takeProfileSelect n s).state := by
  unfold takeProfileSelect
  split
  · exact h
  · next n _ =>
    have stored : Speaks spare 0 (s.setProfiles { s.profiles with selected := n }) := h.selected n s.profiles.source
    dsimp only [answeredOk_state]
    split
    · exact applySelected_speaks stored _
    · exact stored

theorem takeProfileSource_speaks (h : Speaks spare 0 s) (b : Byte) : Speaks spare 0 (takeProfileSource b s).state := by
  unfold takeProfileSource
  split
  · exact h
  · next src _ =>
    have set : Speaks spare 0 (s.setProfiles { s.profiles with source := src }) := h.selected s.profiles.selected src
    dsimp only [answeredOk_state]
    split
    · exact applySelected_speaks set _
    · exact set

end Sys2Proof.Machine
end

section
namespace Sys2Proof.Machine
variable {spare : Seat → Prop} {extra : Nat} {s t : State} {n : SlotNo} {a : Slot} {seat : Seat}

/-! ### Orders of the queue and the list (R65 to R73, R148, R149) -/

theorem takeQueueAdd_speaks (h : Speaks spare extra s) (x : Half) (k : Byte) (t : Half) :
    Speaks spare extra (takeQueueAdd x k t s).state := by
  unfold takeQueueAdd; dsimp only
  split
  · next y _ _ _ _ _ =>
    split
    · exact h
    · split
      · exact h
      · split
        · exact h
        · next held =>
          have nowhere := Option.not_isSome_iff_eq_none.1 held
          split
          · exact h
          · split
            · exact h
            · next room =>
              have entered (e : QueueEntry) (same : e.seat = y) (heard : e.heard = false) :=
                enterQueue_speaks h (e := e) (same ▸ nowhere) (fun _ => heard) (by
                  rw [same]; simpa [or_iff_not_imp_left] using room) (hasEntry s e.seat)
              split
              · exact entered _ rfl rfl
              · exact setDraws_speaks (entered _ rfl rfl) _
  · exact h

theorem takeQueueDrop_speaks (h : Speaks spare extra s) (x : Half) : Speaks spare extra (takeQueueDrop x s).state := by
  unfold takeQueueDrop; (repeat' split) <;> simp [h]

theorem takeQueueEmpty_speaks (h : Speaks spare extra s) : Speaks spare extra (takeQueueEmpty s).state := by
  have emptied : Speaks spare extra (emptyQueue .emptied s) :=
    foldl_speaks (g := fun s (e : QueueEntry) => takeOut e.seat .emptied s) (fun _ _ h => takeOut_speaks h _ _) _ h
  unfold takeQueueEmpty; dsimp only [answeredOk_state]
  split
  · exact h
  · exact drainEndTest_speaks emptied

theorem takeListClose_speaks (h : Speaks spare extra s) (n : Half) : Speaks spare extra (takeListClose n s).state := by
  unfold takeListClose
  (repeat' split)
  · exact h
  · exact h
  · exact drainEndTest_speaks (advanceCheck_speaks (setList_speaks h _ _))

theorem takeListOpen_speaks (h : Speaks spare extra s) : Speaks spare extra (takeListOpen s).state := by
  unfold takeListOpen; dsimp only [answeredOk_state]; split <;> simp [h]

/-! ### Orders of the floor (R97, R98, R100 to R105) -/

/-- The tests of FLOOR GRANT are those of a lawful speaker (R79, R100). -/
theorem takeFloorGrant_speaks (h : Speaks spare extra s) (x : Half) (g : Byte) : Speaks spare extra (takeFloorGrant x g s).state := by
  unfold takeFloorGrant
  split
  · next y b _ _ =>
    split
    · exact h
    · split
      · exact h
      · next held =>
        split
        · exact h
        · next fits =>
          simp only [not_or, Decidable.not_not, Bool.not_eq_false, Bool.not_eq_true] at fits
          obtain ⟨cls, ready, unmasked, unlocked⟩ := fits
          split
          · exact h
          · next room =>
            exact openSlot_speaks h ⟨cls, ready, unmasked, unlocked⟩ (Option.not_isSome_iff_eq_none.1 held) (by simpa using room) _ _
  · exact h

theorem takeFloorNext_speaks (h : Speaks spare extra s) : Speaks spare extra (takeFloorNext s).state := by
  unfold takeFloorNext
  split
  · exact h
  · next granted =>
    split
    · next first => exact openFirst_speaks h first (nextRefusal_room_of_none granted) .next
    · exact h

theorem takeFloorRevoke_speaks (h : Speaks spare extra s) (x : Half) : Speaks spare extra (takeFloorRevoke x s).state := by
  unfold takeFloorRevoke; (repeat' split) <;> simp [h]

theorem takeFloorClear_speaks (h : Speaks spare extra s) : Speaks spare extra (takeFloorClear s).state := by
  simp [takeFloorClear, h]

/-- The slots that are left after a group of closes. -/
theorem closeGroup_left (ns : List SlotNo) (c : CloseReason) (slot : (closeGroup ns c s).floor.slots[n] = some a) :
    n ∉ ns ∧ s.floor.slots[n] = some a := by
  induction ns generalizing s with
  | nil => exact ⟨List.not_mem_nil, slot⟩
  | cons m ns ih =>
    obtain ⟨later, left⟩ := ih slot
    rw [closeSlot_floor] at left
    split at left
    · rw [floorClosing, put_getElem] at left
      split at left
      · cases left
      · next other => exact ⟨fun among => (List.mem_cons.1 among).elim (fun same => other same) later, left⟩
    · next free =>
      refine ⟨fun among => ?_, left⟩
      rcases List.mem_cons.1 among with rfl | among
      · simp [left] at free
      · exact later among

/-- The speakers of the wings that a mask takes off the floor are closed with it; no other wing had a speaker (R98). -/
theorem closeMasked_speaks (h : Lawful s) (mask : BitVec 4) :
    Lawful (closeGroup (s.floor.speakers.filter (newlyMasked s mask)) .mask (s.setFloor { s.floor with mask := mask })) := by
  have set : Speaks (isMasked (s.setFloor { s.floor with mask := mask }) · = true) 0 (s.setFloor { s.floor with mask := mask }) :=
    ⟨h.laws, fun n a slot => by
      obtain ⟨cls, ready, -, unlocked⟩ := (h.may n a slot).resolve_left id
      exact Decidable.or_iff_not_imp_left.2 fun unmasked => ⟨cls, ready, by simpa using unmasked, unlocked⟩, h.room⟩
  refine (closeGroup_speaks set _ _).spared fun n a slot masked => ?_
  obtain ⟨stays, slot⟩ : n ∉ s.floor.speakers.filter (newlyMasked s mask) ∧ s.floor.slots[n] = some a :=
    closeGroup_left (s := s.setFloor { s.floor with mask := mask }) _ _ slot
  have before : isMasked s a.seat = false := ((h.may n a slot).resolve_left id).unmasked
  have speaking : n ∈ s.floor.speakers := (h.laws.2.1.2.2.1 n).2 (slot ▸ rfl)
  refine absurd (List.mem_filter.2 ⟨speaking, ?_⟩) stays
  unfold isMasked at before masked
  rw [newlyMasked, slot, Option.any_some]
  cases bound : placeOf s a.seat with
  | none =>
    rw [show placeOf (s.setFloor { s.floor with mask := mask }) a.seat = none from bound] at masked
    cases masked
  | some p =>
    rw [show placeOf (s.setFloor { s.floor with mask := mask }) a.seat = some p from bound] at masked
    simp_all

theorem takeWingMask_speaks (h : Lawful s) (m : Byte) : Lawful (takeWingMask m s).state := by
  unfold takeWingMask
  split
  · exact advanceCheck_speaks (drainEndTest_speaks (closeMasked_speaks h _))
  · exact h

theorem takeUnlock_speaks (h : Speaks spare extra s) (x : Half) : Speaks spare extra (takeUnlock x s).state := by
  unfold takeUnlock
  split
  · exact h
  · split
    · refine advanceCheck_speaks ?_
      split
      · exact drainEndTest_speaks (unlock_speaks h _)
      · exact unlock_speaks h _
    · exact h

/-- A cleared floor has no slot, and an empty queue no entry (R105). -/
theorem FloorLaws.cleared {f : Floor} (queue : t.queue.entries = []) (floor : t.floor = f.cleared) : FloorLaws t := by
  obtain ⟨speakers, free, mem_speakers, mem_free, one, -⟩ := cleared_orderly f
  unfold FloorLaws QueueLaw SlotListsLaw OneSlotLaw
  rw [queue, floor]
  exact ⟨by simp, ⟨speakers, free, mem_speakers, mem_free⟩, one, fun _ _ _ _ none => nomatch none⟩

theorem takeFloorReset_speaks (s : State) : Speaks spare extra (takeFloorReset s).state := by
  have queue : (takeFloorReset s).state.queue.entries = [] := by simp [takeFloorReset, setList, setEntries]
  have floor : (takeFloorReset s).state.floor = s.floor.cleared := by simp [takeFloorReset]
  refine ⟨.cleared queue floor, fun n a slot => ?_, ?_⟩
  · simp [floor, Floor.cleared] at slot
  · simp [floor, Floor.cleared, Floor.occupied]

/-! ### The allowance (R125) -/

theorem closeSpent_speaks (h : Speaks spare extra s) (l : List Seat) : Speaks spare extra (closeSpent l s) := by
  have closed := foldl_speaks (g := fun s x => closeSeatQuiet x .allowance s) (fun _ _ h => closeSeatQuiet_speaks h _ _) l h
  unfold closeSpent; dsimp only; split <;> simp [closed]

theorem expireAccounts_speaks (h : Speaks spare extra s) (m : AllowanceMode) : Speaks spare extra (expireAccounts m s) :=
  closeSpent_speaks (foldl_speaks (fun _ _ h => h.of_floor) _ h) _

end Sys2Proof.Machine
end

section
namespace Sys2Proof.Machine
variable {spare : Seat → Prop} {extra : Nat} {s t : State} {n : SlotNo} {a : Slot} {seat : Seat} {p : Place} {e : ChainEntry}

/-! ### Units that leave (R26, R29, R31) -/

/-- A seat whose unit leaves it is closed and leaves the queue; the advance check is the caller's (R26, R29). -/
@[simp] theorem leaveSeat_speaks (h : Speaks spare extra s) (seat : Seat) (c : CloseReason) (l : LeaveReason) :
    Speaks spare extra (leaveSeat seat c l s) := by
  have left : Speaks (fun x => spare x ∨ x = seat) extra (unbound seat s) :=
    ⟨h.laws, fun n a slot => by
      by_cases same : a.seat = seat
      · exact .inl (.inr same)
      · have bound : (unbound seat s).trunks.binding[a.seat] = s.trunks.binding[a.seat] := put_getElem_ne _ _ same
        exact (h.may n a slot).imp .inl fun may => may.congr rfl bound rfl rfl, h.room⟩
  have gone : Speaks spare extra (dropped seat c l s) :=
    dropBindings_speaks (leaveQueue_speaks (closeSeats_spared left c).1 seat l) seat _
  rw [leaveSeat_eq]
  split
  · exact withdrawChair_speaks gone seat
  · exact gone

@[simp] theorem setBlocked_speaks (h : Speaks spare extra s) (b : List BlockedEntry) : Speaks spare extra (setBlocked b s) :=
  h.of_floor (binding := by rw [setBlocked_trunks])

@[simp] theorem leaveBlocked_speaks (h : Speaks spare extra s) (p : Place) : Speaks spare extra (leaveBlocked p s) :=
  setBlocked_speaks h _

@[simp] theorem loseEffects_speaks (h : Speaks spare extra s) (p : Place) (e : ChainEntry) : Speaks spare extra (loseEffects p e s) := by
  unfold loseEffects
  split
  · exact h
  · exact post_speaks (leaveBlocked_speaks h p) _
  · exact deferredAdvance_speaks (post_speaks (leaveSeat_speaks h _ _ _) _) _
  · exact h

@[simp] theorem failAssignment_speaks (h : Speaks spare extra s) (p : Place) (c : AssignFailure) :
    Speaks spare extra (failAssignment p c s) := by
  unfold failAssignment; (repeat' split) <;> simp [h]

@[simp] theorem loseUnit_speaks (h : Speaks spare extra s) (p : Place) : Speaks spare extra (loseUnit p s) := by
  unfold loseUnit
  split
  · exact h
  · exact failAssignment_speaks (setEntry_speaks (loseEffects_speaks h p _) p none) p _

@[simp] theorem timeoutAssignment_speaks (h : Speaks spare extra s) (p : Place) : Speaks spare extra (timeoutAssignment p s) := by
  unfold timeoutAssignment; (repeat' split) <;> simp [h]

@[simp] theorem endPoll_speaks (h : Speaks spare extra s) (w : Wing) : Speaks spare extra (endPoll w s) := mapTrunk_speaks h _ _

@[simp] theorem endPollAt_speaks (h : Speaks spare extra s) (p : Place) : Speaks spare extra (endPollAt p s) := by
  unfold endPollAt; split <;> simp [h]

theorem sendPoll_speaks (h : Speaks spare extra s) (w : Wing) : Speaks spare extra (sendPoll w s) := by
  unfold sendPoll; dsimp only; split <;> simp [h]

theorem refusalAt_speaks (h : Speaks spare extra s) (w : Wing) (p : Pos) : Speaks spare extra (refusalAt w s p) :=
  h.of_floor (binding := rfl)

/-! ### Units that settle, and the re-check (R23, R28) -/

/-- A binding given to a seat that has no other: no READY seat's unit moves (R23). -/
theorem Speaks.bound (h : Speaks spare extra s) (unbound : s.trunks.binding[seat] = none ∨ s.trunks.binding[seat] = some p)
    (binding : t.trunks.binding = put s.trunks.binding seat (some p)) (floor : t.floor = s.floor := by simp)
    (queue : t.queue = s.queue := by simp) (plan : t.plan = s.plan := by simp) (profiles : t.profiles = s.profiles := by simp) :
    Speaks spare extra t where
  laws := h.laws.congr (by rw [floor]) (by rw [queue])
  may n a slot := (h.may n a (by rwa [floor] at slot)).imp_right fun may => by
    refine may.congr (by rw [classOf, plan]; rfl) ?_ (by rw [floor]) (by rw [floor])
    rw [binding, put_getElem]
    split
    · next same => exact (unbound.resolve_left (same ▸ (isReady_iff s a.seat).1 may.ready)).symm ▸ same ▸ rfl
    · rfl
  room := by
    rw [floor, inForce_congr profiles]
    exact h.room

theorem becomeReady_speaks (h : Speaks spare extra s) (check : checkUnit s p e = .ready seat) (e' : ChainEntry) :
    Speaks spare extra (becomeReady p e' seat s) := by
  obtain ⟨-, -, -, unbound⟩ := checkUnit_passes check
  exact h.bound unbound (by rw [becomeReady_trunks]; rfl)

@[simp] theorem becomeBlocked_speaks (h : Speaks spare extra s) (p : Place) (e : ChainEntry) (k : BlockKind) :
    Speaks spare extra (becomeBlocked p e k s) := post_speaks (setBlocked_speaks (setEntry_speaks h _ _) _) _

@[simp] theorem settleUnit_speaks (h : Speaks spare extra s) (p : Place) (e : ChainEntry) : Speaks spare extra (settleUnit p e s) := by
  unfold settleUnit
  split
  · next check => exact becomeReady_speaks h check _
  · exact becomeBlocked_speaks h _ _ _

@[simp] theorem recheckBlocked_speaks (h : Speaks spare extra s) (b : BlockedEntry) : Speaks spare extra (recheckBlocked s b) := by
  unfold recheckBlocked
  split
  · exact h
  · split
    · next seat check =>
      obtain ⟨-, -, -, unbound⟩ := checkUnit_passes check
      exact post_speaks (leaveBlocked_speaks (h.bound unbound rfl) _) _
    · dsimp only; split
      · exact h
      · exact post_speaks (setBlocked_speaks (setEntry_speaks h _ _) _) _

@[simp] theorem recheckBound_speaks (h : Speaks spare extra s) (seat : Seat) : Speaks spare extra (recheckBound seat s) := by
  unfold recheckBound
  (repeat' split)
  · exact h
  · exact h
  · exact h
  · exact deferredAdvance_speaks (becomeBlocked_speaks (leaveSeat_speaks h _ _ _) _ _ _) _

theorem recheckSeat_speaks (h : Speaks spare extra s) (seat : Seat) : Speaks spare extra (recheckSeat seat s) :=
  foldl_speaks (fun _ _ h => recheckBlocked_speaks h _) _ (recheckBound_speaks h seat)

/-! ### Answers (R21 to R36) -/

theorem releaseForAssignment_speaks (h : Speaks spare extra s) (p : Place) (e : ChainEntry) (requested : Seat) :
    Speaks spare extra (releaseForAssignment p e requested s) := by
  unfold releaseForAssignment; (repeat' split) <;> simp [h]

theorem completeAssignment_speaks (h : Speaks spare extra s) (p : Place) (e : ChainEntry) (a : TrunkAnswer) (requested : Seat) :
    Speaks spare extra (completeAssignment p e a requested s) := by
  have released := releaseForAssignment_speaks (mapTrunk_speaks h p.wing fun t => { t with assignment := none }) p e requested
  unfold completeAssignment; dsimp only
  split
  · next check => exact post_speaks (becomeReady_speaks released check _) _
  · exact post_speaks (becomeBlocked_speaks released _ _ _) _

theorem ordinaryAnswer_speaks (h : Lawful s) (laws : TrunkLaws s) (unit : s.trunks.entryAt p = some e) (a : TrunkAnswer)
    (type : a.buttons.unitType = e.buttons.unitType) : Lawful (ordinaryAnswer p e a s) := by
  have heard : TrunkLaws (setEntry p (some { e with miss := 0, buttons := a.buttons, level := a.level }) s) :=
    setEntry_trunkLaws laws unit (by simp [ChainEntry.standing, type])
  unfold ordinaryAnswer; dsimp only
  split
  · split <;> simp [h]
  · exact setEntry_speaks h _ _
  · next ready =>
    split
    · next seat addr =>
      have bound : s.trunks.binding[seat] = some p := (laws.1.1 seat p).2 ⟨e, unit, ready, addr⟩
      exact takeReport_speaks (setEntry_speaks h _ _) heard _ _ _ (by
        rw [show (setEntry p _ s).trunks.binding = s.trunks.binding from rfl, bound]
        exact Option.some_ne_none p)
    · exact setEntry_speaks h _ _

theorem takeAnswer_speaks (h : Lawful s) (laws : TrunkLaws s) (p : Place) (a : TrunkAnswer) : Lawful (takeAnswer p a s) := by
  unfold takeAnswer
  split
  · exact setEntry_speaks h _ _
  · next unit =>
    split
    · exact completeAssignment_speaks h _ _ _ _
    · split
      · next same => exact ordinaryAnswer_speaks h laws unit a same.2
      · exact setEntry_speaks (loseUnit_speaks h p) _ _

theorem takeMiss_speaks (h : Speaks spare extra s) (p : Place) : Speaks spare extra (takeMiss p s) := by
  unfold takeMiss; dsimp only; (repeat' split) <;> simp [h]

theorem finishPoll_speaks (h : Speaks spare extra s) (w : Wing) {take : Place → State → State}
    (taken : ∀ p, Speaks spare extra (take p s)) : Speaks spare extra (finishPoll w take s) := by
  unfold finishPoll
  split
  · exact h
  · exact endPoll_speaks (timeoutAssignment_speaks (taken _) _) _

theorem takeSeatAssign_speaks (h : Speaks spare extra s) (w p : Byte) (x : Half) : Speaks spare extra (takeSeatAssign w p x s).state := by
  unfold takeSeatAssign; dsimp only
  (repeat' split) <;> simp only [refusedWith_state, answeredOk_state, h, mapTrunk_speaks]
  exact leaveQueue_speaks (closeSeat_speaks (mapTrunk_speaks h _ _) _ _) _ _

theorem takeTrunkRestart_speaks (h : Speaks spare extra s) (w : Byte) : Speaks spare extra (takeTrunkRestart w s).state := by
  unfold takeTrunkRestart
  split
  · exact h
  · next w _ =>
    dsimp only [answeredOk_state]
    generalize List.finRange 128 = positions
    refine mapTrunk_speaks (foldl_speaks (g := restartPos w) (fun _ _ h => loseUnit_speaks h _) positions ?_) _ _
    split
    · exact failAssignment_speaks h _ _
    · exact h

/-! ### PLAN PUT (R12 to R14) -/

theorem leaveDelegate_speaks (h : Speaks (fun x => spare x ∨ x = seat) extra s) (now : SeatClass) :
    Speaks spare extra (leaveDelegate seat now s) := by
  have dropped := dropBindings_speaks (leaveQueue_speaks (closeSeats_spared h .plan).2 seat .plan) seat false
  unfold leaveDelegate; dsimp only
  split
  · exact unlock_speaks dropped seat
  · exact dropped

theorem leaveChair_speaks (h : Speaks spare extra s) (seat : Seat) (now : SeatClass) : Speaks spare extra (leaveChair seat now s) := by
  have removed := setChairs_speaks (withdrawChair_speaks h seat) ((withdrawChair seat s).floor.chairs.filter fun c => c.seat ≠ seat)
  unfold leaveChair; dsimp only
  split
  · exact unlock_speaks removed seat
  · exact removed

/-- The class requests of a PLAN PUT close the slot of a seat that leaves class DELEGATE (R13). -/
theorem classRequests_speaks {before now : SeatClass} (h : Speaks (fun x => before = .delegate ∧ now ≠ .delegate ∧ x = seat) extra s) :
    Speaks (fun _ => False) extra (classRequests seat before now s) := by
  have kept (stays : before = .delegate → now = .delegate) : Speaks (fun _ => False) extra s :=
    h.spared fun _ _ _ ⟨was, leaves, _⟩ => absurd (stays was) leaves
  have added {u : State} (hu : Speaks (fun _ => False) extra u) :
      Speaks (fun _ => False) extra (if now = .chair then addChair seat u else u) := by
    split
    · exact setChairs_speaks hu _
    · exact hu
  unfold classRequests
  split
  · next same => exact kept fun was => same ▸ was
  · cases before with
    | delegate => exact added (leaveDelegate_speaks (h.spared fun _ _ _ ⟨_, _, same⟩ => .inl (.inr same)) now)
    | chair => exact added (leaveChair_speaks (kept (by simp)) seat now)
    | vacant => exact added (kept (by simp))
    | listener => exact added (kept (by simp))

theorem writePlan_speaks (h : Lawful s) (seat : Seat) (r : PlanRecord) : Lawful (writePlan seat r s) := by
  have written : Speaks (fun x => classOf s seat = .delegate ∧ r.cls ≠ .delegate ∧ x = seat) 0
      ((s.setPlan (put s.plan seat r)).setCursor { s.cursor with index := seat.succ }) :=
    ⟨h.laws, fun n a slot => by
      obtain ⟨cls, ready, unmasked, unlocked⟩ := (h.may n a slot).resolve_left id
      refine Decidable.or_iff_not_imp_left.2 fun stays => ⟨?_, ready, unmasked, unlocked⟩
      simp only [classOf, State.setCursor_plan, State.setPlan_plan, put_getElem]
      split
      · next same => exact Decidable.not_not.1 fun leaves => stays ⟨same ▸ cls, leaves, same⟩
      · exact cls, h.room⟩
  exact classRequests_speaks (recheckSeat_speaks written seat)

theorem takePlanPut_speaks (h : Lawful s) (cls wing position delegation voice : Byte) :
    Lawful (takePlanPut cls wing position delegation voice s).state := by
  unfold takePlanPut; dsimp only
  (repeat' split) <;> simp [h, writePlan_speaks]

end Sys2Proof.Machine
end

section
namespace Sys2Proof.Machine
variable {s t : State}

/-! ### Every order and every command -/

/-- An order that leaves what the law reads. -/
theorem Speaks.of_order {i : Instr} (h : Lawful s) (floor : (deliver i s).state.floor = s.floor := by unfold deliver; simp)
    (queue : (deliver i s).state.queue = s.queue := by unfold deliver; simp)
    (plan : (deliver i s).state.plan = s.plan := by unfold deliver; simp)
    (binding : (deliver i s).state.trunks.binding = s.trunks.binding := by unfold deliver; simp)
    (profiles : (deliver i s).state.profiles = s.profiles := by unfold deliver; simp) : Lawful (deliver i s).state :=
  h.of_floor floor queue plan binding profiles

theorem deliver_speaks (i : Instr) (h : Lawful s) : Lawful (deliver i s).state := by
  cases i with
  | planPut a b c d e => exact takePlanPut_speaks h a b c d e
  | seatAssign w p x => exact takeSeatAssign_speaks h w p x
  | trunkRestart w => exact takeTrunkRestart_speaks h w
  | queueAdd x k t => exact takeQueueAdd_speaks h x k t
  | queueDrop x => exact takeQueueDrop_speaks h x
  | queueEmpty => exact takeQueueEmpty_speaks h
  | floorGrant x g => exact takeFloorGrant_speaks h x g
  | floorNext => exact takeFloorNext_speaks h
  | floorRevoke x => exact takeFloorRevoke_speaks h x
  | floorClear => exact takeFloorClear_speaks h
  | wingMask m => exact takeWingMask_speaks h m
  | unlock x => exact takeUnlock_speaks h x
  | floorReset => exact takeFloorReset_speaks s
  | floorExtend x n => exact takeFloorExtend_speaks h x n
  | profilePut n r => exact takeProfilePut_speaks h n r
  | profileSelect n => exact takeProfileSelect_speaks h n
  | profileSource b => exact takeProfileSource_speaks h b
  | listClose n => exact takeListClose_speaks h n
  | listOpen => exact takeListOpen_speaks h
  | _ => exact h.of_order

theorem powerUp_speaks (s : State) : Lawful (powerUp s) := by
  obtain ⟨-, -, floor, -, -, -, -, -, -, seats, -⟩ := resetMeetsTheLaws
  exact ((lawful_iff State.reset).2 ⟨floor, seats⟩).of_floor rfl rfl rfl rfl rfl

/-- A sample counted leaves the profile in force (R141). -/
theorem sampled_inForce (pins : ProfileNo) (s : State) : inForce (s.setProfiles (s.profiles.sample pins)) = inForce s := by
  unfold Profiles.sample
  split <;> rfl

/-- Every command keeps the floor to lawful speakers. -/
theorem exec_speaks (h : Lawful s) (laws : TrunkLaws s) (c : Instr) (e : exec c s = .next t) : Lawful t := by
  have link : ∀ (s : State) (l : Link), Lawful s → Lawful (s.setLink l) := fun _ l h => setLink_speaks h l
  have order : ∀ (i : Instr) (s : State), Lawful s → Lawful (deliver i s).state := fun i _ h => deliver_speaks i h
  have ends {g : State → State} (kept : Lawful (g s)) (e : whileRunning s g = .next t) : Lawful t := whileRunning_inv h kept e
  cases c with
  | powerReset => cases e; exact powerUp_speaks s
  | resetHeldLow => cases e; exact (powerUp_speaks s).of_floor rfl rfl rfl rfl rfl
  | resetPin ns =>
    simp only [exec, execResetPin] at e
    (repeat' split at e) <;> cases e
    · exact (powerUp_speaks s).of_floor rfl rfl rfl rfl rfl
    · exact (powerUp_speaks s).of_floor rfl rfl rfl rfl rfl
    · exact powerUp_speaks _
    · exact setDraws_speaks h _
    · exact h
  | refclkReturns => cases e; exact h
  | receiveByte b => exact ends (receive_inv link order b s h) e
  | receiveGapTimeout => exact ends (link s { s.link with stage := .hunt } h) e
  | transmitFrameEnd => exact ends (finishFrame_inv link order s h) e
  | deciExpiry => exact ends (Speaks.of_floor (t := endDeci s) h) e
  | restarted =>
    simp only [exec, execRestarted] at e
    refine ends ?_ e
    split
    · exact h.of_floor
    · exact h
  | speechTimingExpiry =>
    simp only [exec, execSpeechTimingExpiry] at e
    have timed := foldl_speaks (g := timeSlot) (fun _ _ h => timeSlot_speaks h _) s.floor.speakers h
    refine ends ?_ e
    split <;> simp [timed]
  | timeLimitClose slot =>
    simp only [exec, execTimeLimitClose] at e
    refine ends ?_ e
    (repeat' split)
    · exact h
    · exact h
    · exact advanceCheck_speaks (closeSlot_speaks h _ _)
    · exact h
  | allowanceExpiry =>
    simp only [exec, execAllowanceExpiry] at e
    refine ends ?_ e
    split
    · exact h
    · exact expireAccounts_speaks h _
  | seatInputExpiry =>
    have quiet (l : List Seat) : Lawful (l.foldl quietSeat s) := foldl_speaks (fun _ _ h => quietSeat_speaks h _) l h
    simp only [exec, execSeatInputExpiry] at e
    exact ends (quiet _) e
  | silence seat =>
    simp only [exec, execSilence] at e
    refine ends ?_ e
    (repeat' split) <;> simp [h]
  | voiceStart seat =>
    simp only [exec, execVoiceStart] at e
    refine ends ?_ e
    split
    · next r record =>
      split
      · exact h
      · exact becomeVoiced_speaks h (laws.recorded record)
    · exact h
  | howl seat =>
    simp only [exec, execHowl] at e
    refine ends ?_ e
    split <;> simp [h]
  | howlClear seat =>
    simp only [exec, execHowlClear] at e
    refine ends ?_ e
    split <;> simp [h]
  | pselSample pins =>
    simp only [exec, execPselSample] at e
    exact ends (g := fun s => qualifyPins (s.setProfiles (s.profiles.sample pins.toFin))) 
      (qualifyPins_speaks (h.under (by rw [sampled_inForce]; exact h.room))) e
  | profilePinsQualify => exact ends (qualifyPins_speaks h) e
  | refusalCountExpiry w =>
    have counted (l : List Pos) : Lawful (l.foldl (refusalAt w) s) := foldl_speaks (fun _ p h => refusalAt_speaks h w p) l h
    simp only [exec, execRefusalCountExpiry] at e
    exact ends (counted _) e
  | pollSent w => exact ends (sendPoll_speaks h w) e
  | pollGoodAnswer w answer =>
    simp only [exec, execPollGoodAnswer] at e
    refine ends ?_ e
    split
    · exact finishPoll_speaks h w fun p => takeAnswer_speaks h laws p _
    · exact finishPoll_speaks h w fun p => takeMiss_speaks h p
  | pollMissedAnswer w => exact ends (finishPoll_speaks h w fun p => takeMiss_speaks h p) e
  | settleComplete w position =>
    simp only [exec, execSettleComplete] at e
    refine ends ?_ e
    (repeat' split) <;> simp [h]
  | unitLost w position =>
    simp only [exec, execUnitLost] at e
    refine ends ?_ e
    (repeat' split) <;> simp [h]
  | assignTimeout w =>
    simp only [exec, execAssignTimeout] at e
    refine ends ?_ e
    split <;> simp [h]
  | _ => exact ends (submitOrder_inv link order _ s h) e

/-- Settles O59: every rule that seats a speaker tests it, and every rule that unseats one, or lowers the limit, closes the slots it
leaves unlawful before it ends; a step runs one command on the rest of the queue. -/
theorem stepsKeepTheSpeakersLawful : Obligations.StepsKeepTheSpeakersLawful := by
  intro s t floor trunks seats e
  have h : Lawful s := (lawful_iff s).2 ⟨floor, seats⟩
  suffices Lawful t from ((lawful_iff t).1 this).2
  unfold step at e
  split at e
  · cases e; exact h
  · next rest _ =>
    have front : TrunkLaws (s.setPending rest) := trunks.of_kept rfl rfl rfl
    exact exec_speaks (h.of_floor) front _ e

end Sys2Proof.Machine
end

section
namespace Sys2Proof.Machine
variable {s t : State} {n : SlotNo} {a : Slot}

/-! ### A change of the profile in force (R99, R144) -/

/-- A slot that closes leaves the speaker list and heads the free-slot order (R82). -/
theorem SlotListsLaw.closed (h : SlotListsLaw s) (slot : s.floor.slots[n] = some a) (c : CloseReason) :
    SlotListsLaw (closeSlot n c s) := by
  obtain ⟨speakers, free, occupied, vacant⟩ := h
  have floor : (closeSlot n c s).floor = floorClosing n s.floor := by rw [closeSlot_floor, slot]; rfl
  rw [SlotListsLaw, floor]
  refine ⟨speakers.erase n, List.nodup_cons.2 ⟨by simp [vacant, slot], free⟩, fun m => ?_, fun m => ?_⟩
  all_goals
    simp only [floorClosing, put_getElem, speakers.mem_erase_iff, List.mem_cons, occupied, vacant]
    split <;> simp_all

/-- The slots past the limit close from the tail of the speaker list, as many as there are (R99). -/
theorem reduce_eq (k : Nat) (lists : SlotListsLaw s) (enough : s.floor.occupied ≤ (inForce s).speakerLimit + k) :
    reduce k s = closedInTurn (s.floor.speakers.drop (inForce s).speakerLimit).reverse .profile s := by
  have within {s : State} (lists : SlotListsLaw s) (few : s.floor.occupied ≤ (inForce s).speakerLimit) :
      closedInTurn (s.floor.speakers.drop (inForce s).speakerLimit).reverse .profile s = s := by
    rw [List.drop_eq_nil_of_le (lists.occupied ▸ few)]; rfl
  induction k generalizing s with
  | zero => exact (within lists enough).symm
  | succ k ih =>
    unfold reduce
    split
    · next past =>
      have some : s.floor.speakers ≠ [] := fun empty => by simp [lists.occupied, empty] at past
      obtain ⟨init, n, list⟩ := (List.eq_nil_or_concat s.floor.speakers).resolve_left some
      rw [List.concat_eq_append] at list
      obtain ⟨a, slot⟩ := Option.isSome_iff_exists.1 ((lists.2.2.1 n).1 (by simp [list]))
      have closed := lists.closed slot .profile
      have floor : (closeSlot n .profile s).floor = floorClosing n s.floor := by rw [closeSlot_floor, slot]; rfl
      have profile : inForce (closeSlot n .profile s) = inForce s := inForce_congr (by simp)
      have apart : n ∉ init := fun among => (List.nodup_append.1 (list ▸ lists.1)).2.2 n among n (by simp) rfl
      have left : (closeSlot n .profile s).floor.speakers = init := by
        rw [floor, floorClosing, list, List.erase_append_right _ apart, List.erase_cons_head, List.append_nil]
      have beyond : (inForce s).speakerLimit ≤ init.length := by
        rw [lists.occupied, list, List.length_append] at past
        exact Nat.lt_succ_iff.1 past
      have nearer := ih closed (by
        rw [profile, closed.occupied, left]
        rw [lists.occupied, list, List.length_append] at enough
        simp at enough
        omega)
      rw [profile, left] at nearer
      simp only [list, List.getLast?_concat, List.drop_append_of_le_length beyond, List.reverse_append]
      exact nearer
    · next few => exact (within lists (not_lt.1 few)).symm

theorem reduceFloor_post (lists : SlotListsLaw s) (b : NoticeBody) : reduceFloor (post b s) =
    advanceCheck (closedInTurn (s.floor.speakers.drop (inForce s).speakerLimit).reverse .profile (post b s)) := by
  have floor : (post b s).floor = s.floor := by simp
  have profile : inForce (post b s) = inForce s := inForce_congr (by simp)
  have posted : SlotListsLaw (post b s) := by rw [SlotListsLaw, floor]; exact lists
  rw [reduceFloor, reduce_eq 8 posted ((occupied_le _).trans (Nat.le_add_left _ _)), floor, profile]

/-- A change of the profile in force, as the statements write it. -/
theorem changeProfile_eq (lists : SlotListsLaw s) (n : ProfileNo) (c : ChangeCause) : changeProfile n c s =
    profileChange s.profiles.inForce c (s.setProfiles { s.profiles with inForce := n }) :=
  reduceFloor_post (s := s.setProfiles { s.profiles with inForce := n }) lists _

theorem changeProfile_profiles (n : ProfileNo) (c : ChangeCause) (s : State) :
    (changeProfile n c s).profiles = { s.profiles with inForce := n } := by simp [changeProfile]

/-- With room for every speaker and nobody to be granted the floor, a change comes to its notice (R99, R144). -/
theorem changeProfile_quiet {n : ProfileNo} (room : s.floor.occupied ≤ (s.profiles.records[n]).speakerLimit)
    (auto : (s.profiles.records[n]).autoAdvance = false) (list : s.queue.list = .open) (c : ChangeCause) : changeProfile n c s =
      post (.profileChanged n s.profiles.inForce c s.profiles.source) (s.setProfiles { s.profiles with inForce := n }) := by
  have still : NoAdvance (s.setProfiles { s.profiles with inForce := n }) := ⟨list, auto⟩
  have reduced {u : State} (few : u.floor.occupied ≤ (inForce u).speakerLimit) : reduce 8 u = u := by
    rw [reduce, if_neg (not_lt.2 few)]
  rw [changeProfile, reduceFloor, reduced, advanceCheck_noAdvance (still.congr (by simp) (by simp))]
  have profile := inForce_congr (t := post (.profileChanged n s.profiles.inForce c s.profiles.source)
    (s.setProfiles { s.profiles with inForce := n })) (s := s.setProfiles { s.profiles with inForce := n }) (by simp)
  rw [profile]
  exact room

/-! ### The profile pins (R141) -/

/-- The state with a sample of the pins counted. -/
abbrev pinsSampled (pins : ProfileNo) (s : State) : State := s.setProfiles { s.profiles with
  lastSample := some pins, stable := if s.profiles.lastSample = some pins then min (s.profiles.stable + 1) 3 else 1 }

theorem sample_eq (pins : ProfileNo) (s : State) : s.setProfiles (s.profiles.sample pins) = pinsSampled pins s := by
  refine congrArg s.setProfiles ?_
  unfold Profiles.sample
  split
  · next same => rw [← same]
  · rfl

theorem qualifyPins_qualifies {n : ProfileNo} (last : s.profiles.lastSample = some n) (source : s.profiles.source = .external)
    (stable : s.profiles.stable = 3) (other : n ≠ s.profiles.inForce) : qualifyPins s = changeProfile n .pins s := by
  have qualified : s.profiles.qualified = some n := by simp [Profiles.qualified, last, source, stable, other]
  rw [qualifyPins, qualified]

theorem qualifyPins_fails (fails : ∀ n, s.profiles.lastSample = some n →
    ¬(s.profiles.source = .external ∧ s.profiles.stable = 3 ∧ n ≠ s.profiles.inForce)) : qualifyPins s = s := by
  have qualified : s.profiles.qualified = none := by
    unfold Profiles.qualified
    split
    · next n last => exact if_neg (fails n last)
    · rfl
  rw [qualifyPins, qualified]

/-- Settles O53: the sample is counted, then the test is made; the change is the one of R144. -/
theorem pinsQualifyAtTheThirdSample : Obligations.PinsQualifyAtTheThirdSample := by
  refine ⟨fun pins s running => ?_, fun s running => ⟨fun n last source stable other lists => ?_, fun n last source stable other => ?_,
    fun fails => ?_⟩⟩
  · have effect : exec (.pselSample pins) s = .next (qualifyPins (s.setProfiles (s.profiles.sample pins.toFin))) :=
      whileRunning_running (f := fun s => qualifyPins (s.setProfiles (s.profiles.sample pins.toFin))) running
    rw [effect, sample_eq]
    refine ⟨fun fails => ?_, fun ⟨source, stable, other⟩ lists => ?_, fun ⟨source, stable, other⟩ => ⟨_, rfl, ?_⟩⟩
    · rw [qualifyPins_fails]
      intro n last
      cases last
      exact fails
    · rw [qualifyPins_qualifies (s := pinsSampled pins.toFin s) rfl source stable other]
      exact congrArg _ (changeProfile_eq (s := pinsSampled pins.toFin s) lists pins.toFin .pins)
    · rw [qualifyPins_qualifies (s := pinsSampled pins.toFin s) rfl source stable other]
      refine ⟨changeProfile_profiles _ _ _, by simp, by simp, by simp, by simp, fun room auto list sending => ?_⟩
      rw [changeProfile_quiet (s := pinsSampled pins.toFin s) room auto list]
      have source : (pinsSampled pins.toFin s).profiles.source = .external := source
      have told : Tells s _ _ := (post_tells (.profileChanged pins.toFin s.profiles.inForce .pins .external)
        ((pinsSampled pins.toFin s).setProfiles { (pinsSampled pins.toFin s).profiles with inForce := pins.toFin })).after rfl
      rw [source]
      exact ⟨rfl, told.linkFrame (.inl sending), told.posts (.inl sending)⟩
  · rw [show exec .profilePinsQualify s = .next (qualifyPins s) from whileRunning_running running _,
      qualifyPins_qualifies last source stable other, changeProfile_eq lists]
  · refine ⟨qualifyPins s, whileRunning_running running _, ?_⟩
    rw [qualifyPins_qualifies last source stable other]
    exact ⟨changeProfile_profiles _ _ _, by simp, by simp, by simp⟩
  · rw [show exec .profilePinsQualify s = .next (qualifyPins s) from whileRunning_running running _, qualifyPins_fails]
    rintro n last ⟨source, stable, other⟩
    simp_all

end Sys2Proof.Machine
end

section
namespace Sys2Proof.Machine
variable {s t u : State} {i : Instr} {k : Byte} {d : List Byte} {n : ProfileNo} {c : ChangeCause} {p : Profiles}

/-! ### PROFILE SELECT and PROFILE SOURCE (R142 to R144) -/

/-- The notice of a change is queued before what its closes and its advance check tell (R144). -/
theorem changeProfile_told (q : Queues s) (n : ProfileNo) (c : ChangeCause) : ∃ more, s.link.notices.length < 32 →
    s.link.mask.getLsbD 18 = true → (changeProfile n c s).link.notices =
      s.link.notices ++ ⟨s.link.clock, .profileChanged n s.profiles.inForce c s.profiles.source⟩ :: more := by
  have told : Tells s _ _ := (post_tells (.profileChanged n s.profiles.inForce c s.profiles.source)
    (s.setProfiles { s.profiles with inForce := n })).after rfl
  obtain ⟨more, rest⟩ := ((reduceFloor_path _ .refl).quiet (queues_of_path q told.path)).2
  refine ⟨more, fun room shown => ?_⟩
  have first := told.posts q (Nat.succ_le_of_lt room)
  rw [changeProfile, ← rest, first]
  have enabled : NoticeBody.enabled s.link.mask (.profileChanged n s.profiles.inForce c s.profiles.source) = true := shown
  simp [enabled]

/-- An order that brings a profile into force, answered after the whole change. -/
theorem submit_changes (hk : orderKind i = some k) (hi : i ≠ .status) (hm : ∀ m, i ≠ .noticeMask m) (hfr : i ≠ .floorReset)
    (h : TakesOrders s) (still : p.inForce = s.profiles.inForce)
    (hd : deliver i (oweAnswer s) = answeredOk (changeProfile n c ((oweAnswer s).setProfiles p)) d) :
    (SlotListsLaw s → submit i s = .next (answered k .ok d
      (profileChange s.profiles.inForce c ((oweAnswer s).setProfiles { p with inForce := n })))) ∧
    ∃ t more, submit i s = .next t ∧ Answers s t k .ok d ∧ t.profiles = { p with inForce := n } ∧ t.plan = s.plan ∧
      t.cursor = s.cursor ∧ t.trunks = s.trunks ∧ t.allowance = s.allowance ∧
      (s.link.notices.length < 32 → s.link.mask.getLsbD 18 = true → t.link.notices =
        s.link.notices ++ ⟨s.link.clock, .profileChanged n s.profiles.inForce c p.source⟩ :: more) := by
  obtain ⟨taken, answers, -⟩ := submit_answered hk hi hm hfr h hd
  obtain ⟨more, told⟩ := changeProfile_told (s := (oweAnswer s).setProfiles p) (.inr (by simp [oweAnswer])) n c
  obtain ⟨-, -, -, plan, cursor, allowance, trunks⟩ := changeProfile_keeps n c ((oweAnswer s).setProfiles p)
  rw [← still]
  refine ⟨fun lists => ?_, _, more, taken, answers, changeProfile_profiles n c _, ?_, ?_, ?_, ?_, fun room shown => ?_⟩
  · rw [taken, changeProfile_eq (s := (oweAnswer s).setProfiles p) lists]
    rfl
  · exact plan
  · exact cursor
  · exact trunks
  · exact allowance
  · exact (withAnswer_notices _ _).trans (told room shown)

theorem byteOf_toNat {b : Byte} {m : Nat} (e : b.toNat = m) : byteOf m = b := by
  rw [← e]
  simp [byteOf]

theorem takeProfileSelect_badValue {b : Byte} (past : 15 < b.toNat) (s : State) :
    takeProfileSelect b s = refusedWith .badValue s := by
  have none : profileNoOf b = none := dif_neg (by omega)
  rw [takeProfileSelect, none]

theorem takeProfileSelect_external {b : Byte} (e : b.toNat = n.val) (external : s.profiles.source = .external) : takeProfileSelect b s =
    answeredOk (s.setProfiles { s.profiles with selected := n }) [b, 1, byteOf s.profiles.inForce.val] := by
  simp only [takeProfileSelect, profileNoOf_val e, external]
  rfl

theorem takeProfileSelect_stays {b : Byte} (e : b.toNat = n.val) (internal : s.profiles.source = .internal)
    (same : n = s.profiles.inForce) : takeProfileSelect b s = answeredOk (s.setProfiles { s.profiles with selected := n }) [b, 0, b] := by
  have applied : applySelected .select
      (s.setProfiles { s.profiles with selected := n }) = s.setProfiles { s.profiles with selected := n } :=
    if_pos same
  rw [takeProfileSelect, profileNoOf_val e]
  dsimp only
  have code : s.profiles.source.code = 0 := by rw [internal]; rfl
  have number : byteOf s.profiles.inForce.val = b := by rw [← same, byteOf_toNat e]
  rw [if_pos internal, applied, State.setProfiles_profiles, code, number]

theorem takeProfileSelect_changes {b : Byte} (e : b.toNat = n.val) (internal : s.profiles.source = .internal)
    (other : n ≠ s.profiles.inForce) : takeProfileSelect b s =
      answeredOk (changeProfile n .select (s.setProfiles { s.profiles with selected := n })) [b, 0, b] := by
  have applied : applySelected .select (s.setProfiles { s.profiles with selected := n }) =
    changeProfile n .select (s.setProfiles { s.profiles with selected := n }) := if_neg other
  rw [takeProfileSelect, profileNoOf_val e]
  dsimp only
  have code : s.profiles.source.code = 0 := by rw [internal]; rfl
  rw [if_pos internal, applied, changeProfile_profiles, State.setProfiles_profiles, code, byteOf_toNat e]

theorem takeProfileSource_badValue {b : Byte} (past : 1 < b.toNat) (s : State) :
    takeProfileSource b s = refusedWith .badValue s := by
  have none : sourceOf b = none := by
    unfold sourceOf
    rw [if_neg (by rintro rfl; simp at past), if_neg (by rintro rfl; simp at past)]
  rw [takeProfileSource, none]

theorem takeProfileSource_external (s : State) : takeProfileSource 1 s = answeredOk
    (s.setProfiles { s.profiles with source := .external }) [1, byteOf s.profiles.selected.val, byteOf s.profiles.inForce.val] := rfl

theorem takeProfileSource_stays (same : s.profiles.selected = s.profiles.inForce) : takeProfileSource 0 s = answeredOk
    (s.setProfiles { s.profiles with source := .internal })
      [0, byteOf s.profiles.selected.val, byteOf s.profiles.selected.val] := by
  have applied : applySelected .source (s.setProfiles { s.profiles with source := .internal }) =
    s.setProfiles { s.profiles with source := .internal } := if_pos same
  have known : sourceOf 0 = some .internal := rfl
  rw [takeProfileSource, known]
  dsimp only
  have number : byteOf s.profiles.inForce.val = byteOf s.profiles.selected.val := by rw [same]
  rw [if_pos rfl, applied, State.setProfiles_profiles, number]
  rfl

theorem takeProfileSource_changes (other : s.profiles.selected ≠ s.profiles.inForce) : takeProfileSource 0 s = answeredOk
    (changeProfile s.profiles.selected .source (s.setProfiles { s.profiles with source := .internal }))
      [0, byteOf s.profiles.selected.val, byteOf s.profiles.selected.val] := by
  have applied : applySelected .source (s.setProfiles { s.profiles with source := .internal }) =
    changeProfile s.profiles.selected .source (s.setProfiles { s.profiles with source := .internal }) := if_neg other
  have known : sourceOf 0 = some .internal := rfl
  rw [takeProfileSource, known]
  dsimp only
  rw [if_pos rfl, applied, changeProfile_profiles]
  rfl

/-- Settles O52: each order by its tests; a number that differs under INTERNAL is a change of the profile in force. -/
theorem selectAndSourceSetTheProfile : Obligations.SelectAndSourceSetTheProfile := by
  refine ⟨fun number s takes => ⟨fun past => ?_, fun n e => ?_⟩, fun source s takes => ⟨fun past => ?_, fun external => ?_,
    fun internal same => ?_, ?_⟩⟩
  · exact submit_refused (i := .profileSelect number) rfl (by simp) takes (takeProfileSelect_badValue past _)
  · have changes (internal : s.profiles.source = .internal) (other : n ≠ s.profiles.inForce) :=
      submit_changes (i := .profileSelect number) (n := n) (p := { s.profiles with selected := n }) rfl (by simp) (by simp)
          (by simp) takes rfl
        (takeProfileSelect_changes (s := oweAnswer s) e internal other)
    refine ⟨fun external => ?_, fun internal same => ?_, fun internal other lists => ?_, fun internal other => ?_⟩
    · exact submit_ok (i := .profileSelect number) rfl (by simp) takes (takeProfileSelect_external (s := oweAnswer s) e external) rfl
    · exact submit_ok (i := .profileSelect number) rfl (by simp) takes (takeProfileSelect_stays (s := oweAnswer s) e internal same) rfl
    · exact (changes internal other).1 lists
    · have := (changes internal other).2
      rw [← internal]
      exact this
  · exact submit_refused (i := .profileSource source) rfl (by simp) takes (takeProfileSource_badValue past _)
  · subst external
    exact submit_ok (i := .profileSource 1) rfl (by simp) takes (takeProfileSource_external (oweAnswer s)) rfl
  · subst internal
    exact submit_ok (i := .profileSource 0) rfl (by simp) takes (takeProfileSource_stays (s := oweAnswer s) same) rfl
  · have changes (other : s.profiles.selected ≠ s.profiles.inForce) :=
      submit_changes (i := .profileSource 0) (p := { s.profiles with source := .internal }) rfl (by simp) (by simp) (by simp) takes rfl
        (takeProfileSource_changes (s := oweAnswer s) other)
    refine ⟨fun internal other lists => ?_, fun internal other => ?_⟩
    · subst internal
      exact (changes other).1 lists
    · subst internal
      exact (changes other).2

end Sys2Proof.Machine
end

section
namespace Sys2Proof.Machine
variable {s : State} {n : SlotNo} {rest : List SlotNo} {x : Seat} {g : Bool} {half : Half} {protect : Byte}

/-! ### The slot that FLOOR GRANT opens (R81, R100) -/

/-- The record of a slot opened now from the link, protected as given. -/
abbrev linkSlot (s : State) (x : Seat) (g : Bool) : Slot := ⟨x, .open, .link, g, s.link.clock, 0, none, false, 0, false⟩

/-- The seat's entry taken out, where it has one. -/
abbrev grantOut (x : Seat) (s : State) : State := (s.queue.entryOf x).toList.foldl (fun u e => takenOut e .granted u) s

/-- The seat opened by FLOOR GRANT, the drain end test still to come. -/
abbrev grantOpened (n : SlotNo) (rest : List SlotNo) (x : Seat) (g : Bool) (s : State) : State :=
  post (.floorOpened n x .link g false s.link.clock) { grantOut x s with
    seats := blankingRestarted s x, floor := floorOpening n rest (linkSlot s x g) s.floor }

theorem takeOut_grantOut (apart : (s.queue.entries.map (·.seat)).Nodup) (x : Seat) : takeOut x .granted s = grantOut x s := by
  rw [takeOut_eq apart, grantOut, entryOf_eq]

theorem grantOut_eq (x : Seat) (s : State) : let t := grantOut x s
    t = { s with link := t.link, queue := { s.queue with entries := s.queue.entries.filter fun e => e.seat ≠ x } } ∧
      Tells s t ((s.queue.entryOf x).toList.map fun e => .queueLeft x e.kind .granted (s.queue.placeOf x)) := by
  cases found : s.queue.entryOf x with
  | none =>
    have unqueued : ∀ e ∈ s.queue.entries, e.seat ≠ x := fun e he same => by
      simpa [same] using List.find?_eq_none.1 found e he
    simp only [grantOut, found, Option.toList_none, List.foldl_nil, List.map_nil, filter_unqueued unqueued]
    exact ⟨trivial, tells_nil rfl⟩
  | some e =>
    obtain rfl : e.seat = x := by simpa using List.find?_some found
    simp only [grantOut, found, Option.toList_some, List.foldl_cons, List.foldl_nil, List.map_cons, List.map_nil]
    exact takenOut_eq e .granted s

theorem occupy_link (n : SlotNo) (rest : List SlotNo) (x : Seat) (g : Bool) (s : State) : occupy n rest x .link g s =
    post (.floorOpened n x .link g false s.link.clock) { s with
      seats := blankingRestarted s x, floor := floorOpening n rest (linkSlot s x g) s.floor } := by
  have slot : newSlot s x .link g = linkSlot s x g := by simp [newSlot]
  simp only [occupy, slot, restartBlanking_eq]
  rfl

theorem occupy_grantOut (n : SlotNo) (rest : List SlotNo) (x : Seat) (g : Bool) (s : State) :
    occupy n rest x .link g (grantOut x s) = grantOpened n rest x g s := by
  obtain ⟨frame, told⟩ := grantOut_eq x s
  have clock : (grantOut x s).link.clock = s.link.clock := told.path.clock
  have seats : blankingRestarted (grantOut x s) x = blankingRestarted s x := by rw [frame]; rfl
  have floor : (grantOut x s).floor = s.floor := by rw [frame]
  rw [occupy_link, clock, seats, linkSlot, clock, floor]

theorem openSlot_grantOpened (apart : (s.queue.entries.map (·.seat)).Nodup) (free : s.floor.free = n :: rest) (x : Seat) (g : Bool) :
    openSlot x .link g s = if hasEntry s x then drainEndTest (grantOpened n rest x g s) else grantOpened n rest x g s := by
  have opened := occupy_grantOut n rest x g s
  unfold openSlot
  rw [free]
  dsimp only
  split
  · rw [takeOut_grantOut apart, opened]
  · next unqueued =>
    have none : s.queue.entryOf x = none := by simpa [hasEntry] using unqueued
    rw [← opened, grantOut, none]
    rfl

theorem grantOpened_eq (n : SlotNo) (rest : List SlotNo) (x : Seat) (g : Bool) (s : State) : let t := grantOpened n rest x g s
    t = { s with link := t.link, seats := blankingRestarted s x
                 queue := { s.queue with entries := s.queue.entries.filter fun e => e.seat ≠ x }
                 floor := floorOpening n rest (linkSlot s x g) s.floor } ∧
      Tells s t (((s.queue.entryOf x).toList.map fun e => .queueLeft x e.kind .granted (s.queue.placeOf x))
        ++ [.floorOpened n x .link g false s.link.clock]) := by
  obtain ⟨frame, told⟩ := grantOut_eq x s
  refine ⟨?_, told.trans ((post_tells _ _).after rfl)⟩
  exact congrArg (fun c : State => { c with
    link := (grantOpened n rest x g s).link, seats := blankingRestarted s x
    floor := floorOpening n rest (linkSlot s x g) s.floor }) frame

/-! ### The tests of FLOOR GRANT (R100) -/

theorem takeFloorGrant_badValue (bad : 511 < half.toNat ∨ 1 < protect.toNat) (s : State) :
    takeFloorGrant half protect s = refusedWith .badValue s := by
  unfold takeFloorGrant
  rcases bad with past | past
  · rw [seatOf_none past]
  · rw [(yesNoOf_none protect).2 past]
    split <;> simp_all

theorem yesNoOf_le {b : Byte} (le : b.toNat ≤ 1) : yesNoOf b = some (decide (b = 1)) := by
  unfold yesNoOf
  split
  · next zero => subst zero; rfl
  · split
    · next one => subst one; rfl
    · bv_omega

/-- The fourth test, said of the plan and the binding map. -/
theorem ineligible_iff (s : State) (x : Seat) :
    (classOf s x ≠ .delegate ∨ isReady s x = false ∨ isMasked s x = true ∨ isLocked s x = true) ↔
      (s.plan[x].cls ≠ .delegate ∨ s.trunks.binding[x] = none ∨ isMasked s x = true ∨ s.floor.locked[x] = true) := by
  have unready : isReady s x = false ↔ s.trunks.binding[x] = none := by
    rw [← Bool.not_eq_true, isReady_iff, not_not]
  rw [unready]
  rfl

section Tests
variable (seat : half.toNat = x.val) (flag : protect.toNat ≤ 1)
include seat flag

theorem takeFloorGrant_tests (s : State) : takeFloorGrant half protect s =
    if 0 < holdCount s then refusedWith .notPermitted s
    else if (s.floor.slotOf x).isSome then refusedWith .held s
    else if classOf s x ≠ .delegate ∨ isReady s x = false ∨ isMasked s x = true ∨ isLocked s x = true then
      refusedWith .notEligible s
    else if !freeSlotExists s then refusedWith .full s
    else answeredOk (openSlot x .link (decide (protect = 1)) s)
      (seatSlotBytes x ((openSlot x .link (decide (protect = 1)) s).floor.slotOf x)) := by
  rw [takeFloorGrant, seatOf_val seat, yesNoOf_le flag]

theorem takeFloorGrant_notPermitted (held : 0 < holdCount s) : takeFloorGrant half protect s = refusedWith .notPermitted s := by
  rw [takeFloorGrant_tests seat flag, if_pos held]

variable (hold : holdCount s = 0)
include hold

theorem takeFloorGrant_speaking (speaks : s.floor.slotOf x ≠ none) : takeFloorGrant half protect s = refusedWith .held s := by
  rw [takeFloorGrant_tests seat flag, if_neg (Nat.not_lt.2 hold.le), if_pos (Option.isSome_iff_ne_none.2 speaks)]

variable (nowhere : s.floor.slotOf x = none)
include nowhere

theorem takeFloorGrant_silent : takeFloorGrant half protect s =
    if s.plan[x].cls ≠ .delegate ∨ s.trunks.binding[x] = none ∨ isMasked s x = true ∨ s.floor.locked[x] = true then
      refusedWith .notEligible s
    else if !freeSlotExists s then refusedWith .full s
    else answeredOk (openSlot x .link (decide (protect = 1)) s)
      (seatSlotBytes x ((openSlot x .link (decide (protect = 1)) s).floor.slotOf x)) := by
  rw [takeFloorGrant_tests seat flag, if_neg (Nat.not_lt.2 hold.le), if_neg (by simp [nowhere])]
  exact if_congr (ineligible_iff s x) rfl rfl

end Tests

section Opens
variable (apart : (s.queue.entries.map (·.seat)).Nodup) (free : s.floor.free = n :: rest) (nowhere : s.floor.slotOf x = none)
include apart free nowhere

/-- The slot that the answer of FLOOR GRANT names. -/
theorem openSlot_link_slotOf (g : Bool) : (openSlot x .link g s).floor.slotOf x = some n := by
  have floor : (openSlot x .link g s).floor = floorOpening n rest (linkSlot s x g) s.floor := by
    obtain ⟨frame, -⟩ := grantOpened_eq n rest x g s
    rw [openSlot_grantOpened apart free]
    split
    · rw [(drainEndTest_keeps _).2.2, frame]
    · rw [frame]
  rw [floor]
  exact slotOf_opening (sl := linkSlot s x g) nowhere n rest

end Opens

/-- Settles O37: the tests of `takeFloorGrant` one after the other, and the opening path by `openSlot_grantOpened`. -/
theorem floorGrantOpensASlot : Obligations.FloorGrantOpensASlot := by
  intro half protect s takes queue codes
  have apart : (s.queue.entries.map (·.seat)).Nodup := queue.2.1
  have refused {c : ResultCode} (h : takeFloorGrant half protect (oweAnswer s) = refusedWith c (oweAnswer s)) : codes c :=
    submit_refused (i := .floorGrant half protect) rfl (by simp) takes h
  refine ⟨fun bad => refused (takeFloorGrant_badValue bad _), fun x seat flag => ?_⟩
  intro holds ineligible
  have held : s.floor.slotOf x ≠ none ↔ holds := slotOf_ne_none_iff s.floor x
  have free (silent : ¬holds) : s.floor.slotOf x = none := not_not.1 (mt held.1 silent)
  have tests (hold : holdCount s = 0) (silent : ¬holds) :=
    takeFloorGrant_silent (s := oweAnswer s) seat flag hold (free silent)
  refine ⟨fun hold => refused (takeFloorGrant_notPermitted (s := oweAnswer s) seat flag hold),
    fun hold speaks => refused (takeFloorGrant_speaking (s := oweAnswer s) seat flag hold (held.2 speaks)),
    fun hold silent bars => refused ((tests hold silent).trans (if_pos bars)),
    fun hold silent fits full => refused ((tests hold silent).trans ((if_neg fits).trans (if_pos ?_))),
    fun n rest hold silent fits room slots => ?_⟩
  · have noSlot : freeSlotExists (oweAnswer s) = false := decide_eq_false (not_lt.2 full)
    rw [noSlot]
    rfl
  · intro g answer out opened
    have path := openSlot_grantOpened (s := oweAnswer s) apart slots x g
    have slot := openSlot_link_slotOf (s := oweAnswer s) apart slots (free silent) g
    obtain ⟨frame, told⟩ := grantOpened_eq n rest x g (oweAnswer s)
    have taken : takeFloorGrant half protect (oweAnswer s) =
        answeredOk (openSlot x .link g (oweAnswer s)) (seatBytes x ++ [byteOf (slotNumber n)]) := by
      refine (tests hold silent).trans ((if_neg fits).trans ((if_neg ?_).trans ?_))
      · simp [(freeSlotExists_iff (oweAnswer s)).2 room]
      · rw [slot]; rfl
    have done {u : State} (eq : openSlot x .link g (oweAnswer s) = u) : exec (.floorGrant half protect) s = .next (answer u) :=
      (submit_answered (i := .floorGrant half protect) rfl (by simp) (by simp) (by simp) takes (eq ▸ taken)).1
    refine ⟨fun waits => done ?_, fun still => done ?_, eq_with_stores_rewritten frame, congrArg (·.queue.entries) frame,
        congrArg State.floor frame,
      congrArg State.seats frame, told.owed.1, told.owed.2⟩
    · exact path.trans (if_pos ((hasEntry_iff (oweAnswer s) x).2 waits))
    · rcases still with unqueued | list
      · rw [path, hasEntry_eq_false (s := oweAnswer s) unqueued]
        rfl
      · have still : drainEndTest opened = opened := drainEndTest_open ((congrArg (·.queue.list) frame).trans list)
        rw [path]
        split
        · exact still
        · rfl

end Sys2Proof.Machine
end

section
namespace Sys2Proof.Machine
variable {s t : State} {n : SlotNo} {rest : List SlotNo} {a : Slot} {e : QueueEntry}

/-! ### The conditions of the advance check (R90) -/

/-- One of the conditions of the advance check fails (R90). -/
abbrev AdvanceEnds (s : State) : Prop :=
  ((inForce s).autoAdvance = false ∧ s.queue.list = .open) ∨ (inForce s).mode = .voice ∨ 0 < holdCount s ∨
    (inForce s).speakerLimit ≤ s.floor.occupied ∨ ∀ e ∈ s.queue.entries, eligibility s e ≠ .eligible

theorem nextToAdvance_eq (s : State) : nextToAdvance s =
    if ((inForce s).autoAdvance = true ∨ s.queue.list = .draining) ∧ (inForce s).mode ≠ .voice ∧ holdCount s = 0 ∧
      s.floor.occupied < (inForce s).speakerLimit then firstEligible s else none := by
  refine if_congr ?_ rfl rfl
  simp only [Bool.and_eq_true, Bool.or_eq_true, bne_iff_ne, beq_iff_eq, freeSlotExists_iff, RequestQueue.draining,
    and_assoc]

theorem nextToAdvance_none_iff (s : State) : nextToAdvance s = none ↔ AdvanceEnds s := by
  have nobody : firstEligible s = none ↔ ∀ e ∈ s.queue.entries, eligibility s e ≠ .eligible :=
    Option.isNone_iff_eq_none.symm.trans (firstEligible_isNone s)
  have still : ¬((inForce s).autoAdvance = true ∨ s.queue.list = .draining) ↔ (inForce s).autoAdvance = false ∧ s.queue.list = .open := by
    rw [not_or, Bool.not_eq_true]
    cases s.queue.list <;> simp
  rw [nextToAdvance_eq, ite_eq_right_iff, nobody, AdvanceEnds, ← still, ← not_lt (a := s.floor.occupied), Nat.pos_iff_ne_zero]
  tauto

/-! ### How far the advance check runs (R90) -/

/-- A slot put in an empty place raises the occupied count by one. -/
theorem occupied_opened {f : Floor} (vacant : f.slots[n] = none) (rest : List SlotNo) (a : Slot) :
    (floorOpening n rest a f).occupied = f.occupied + 1 := by
  have count : (floorOpening n rest a f).occupied = _ := occupied_put f n (some a)
  rw [count, vacant]
  simp

/-- While fewer than eight slots are occupied, one heads the free-slot order. -/
theorem SlotListsLaw.free_cons (h : SlotListsLaw s) (few : s.floor.occupied < 8) : ∃ n rest, s.floor.free = n :: rest := by
  by_contra none
  have empty : s.floor.free = [] := by
    cases free : s.floor.free with
    | nil => rfl
    | cons n rest => exact absurd ⟨n, rest, free⟩ none
  have all (n : SlotNo) : (s.floor.slots[n]).isSome = true := by
    rw [Option.isSome_iff_ne_none, ne_eq, ← h.2.2.2 n, empty]
    exact List.not_mem_nil
  rw [Floor.occupied, List.countP_eq_length.2 fun n _ => all n] at few
  simp at few

/-- A grant of the advance check fills a free slot, under the same laws. -/
theorem FloorLaws.granted (h : FloorLaws s) (limit : (inForce s).speakerLimit ≤ 8) (next : nextToAdvance s = some e) :
    FloorLaws (openSlot e.seat .queue false s) ∧ inForce (openSlot e.seat .queue false s) = inForce s ∧
      ∃ n rest a, s.floor.slots[n] = none ∧ (openSlot e.seat .queue false s).floor = floorOpening n rest a s.floor := by
  obtain ⟨-, room, first⟩ := nextToAdvance_some next
  have any : Speaks (fun _ => True) 8 s := ⟨h, fun _ _ _ => .inl trivial, (occupied_le _).trans (Nat.le_add_left _ _)⟩
  obtain ⟨n, rest, free⟩ := h.2.1.free_cons (lt_of_lt_of_le ((freeSlotExists_iff s).1 room) limit)
  exact ⟨(openFirst_speaks any first room .queue).laws, inForce_congr (by simp), n, rest, _,
    (h.2.1.2.2.2 n).1 (by simp [free]), openSlot_floor e.seat .queue false free⟩

/-- The rounds of the advance check are enough when they make up the slots up to the limit. -/
theorem advance_ends (k : Nat) (h : FloorLaws s) (limit : (inForce s).speakerLimit ≤ 8)
    (enough : (inForce s).speakerLimit ≤ s.floor.occupied + k) : nextToAdvance (advance k s) = none := by
  induction k generalizing s with
  | zero => exact (nextToAdvance_none_iff s).2 (.inr (.inr (.inr (.inl enough))))
  | succ k ih =>
    unfold advance
    split
    · assumption
    · next next =>
      obtain ⟨laws, profile, n, rest, a, vacant, floor⟩ := h.granted limit next
      refine ih laws (profile ▸ limit) ?_
      rw [profile, floor, occupied_opened vacant]
      omega

/-- What the advance check keeps of the floor. -/
theorem advance_extends (k : Nat) (h : FloorLaws s) (limit : (inForce s).speakerLimit ≤ 8) :
    (∀ (n : SlotNo) (a : Slot), s.floor.slots[n] = some a → (advance k s).floor.slots[n] = some a) ∧
      s.floor.speakers <+: (advance k s).floor.speakers := by
  induction k generalizing s with
  | zero => exact ⟨fun _ _ slot => slot, List.prefix_rfl⟩
  | succ k ih =>
    rw [advance]
    cases next : nextToAdvance s with
    | none => exact ⟨fun _ _ slot => slot, List.prefix_rfl⟩
    | some e =>
      obtain ⟨laws, profile, n, rest, a, vacant, floor⟩ := h.granted limit next
      obtain ⟨slots, speakers⟩ := ih laws (profile ▸ limit)
      rw [floor] at slots speakers
      refine ⟨fun m b slot => slots m b ?_, (List.prefix_append _ _).trans speakers⟩
      rw [floorOpening, put_getElem, if_neg]
      · exact slot
      · rintro rfl
        rw [vacant] at slot
        cases slot

/-- A run that has ended is the same with a round more. -/
theorem advance_succ_of_ends (k : Nat) (ends : nextToAdvance (advance k s) = none) : advance (k + 1) s = advance k s := by
  induction k generalizing s with
  | zero =>
    have none : nextToAdvance s = none := ends
    simp only [advance, none]
  | succ k ih =>
    cases next : nextToAdvance s with
    | none => simp only [advance, next]
    | some e =>
      have rest : nextToAdvance (advance k (openSlot e.seat .queue false s)) = none := by simpa only [advance, next] using ends
      have more := ih rest
      rw [advance, next, advance, next]
      exact more

theorem advanceCheck_granted (h : FloorLaws s) (limit : (inForce s).speakerLimit ≤ 8) (next : nextToAdvance s = some e) :
    advanceCheck s = advanceCheck (openSlot e.seat .queue false s) := by
  obtain ⟨laws, profile, n, rest, a, vacant, floor⟩ := h.granted limit next
  have first : advanceCheck s = advance 7 (openSlot e.seat .queue false s) := by rw [advanceCheck, advance, next]
  have occupied := occupied_opened vacant rest a
  rw [first, advanceCheck]
  refine (advance_succ_of_ends 7 (advance_ends 7 laws (profile ▸ limit) ?_)).symm
  rw [profile, floor]
  omega

theorem advanceCheck_of_ends (ends : AdvanceEnds s) : advanceCheck s = s := by
  rw [advanceCheck, advance, (nextToAdvance_none_iff s).2 ends]

/-! ### Eligibility (R61, R67) -/

theorem eligibility_notDelegate (other : classOf s e.seat ≠ .delegate) : eligibility s e = .notDelegate := if_pos other

section Delegate
variable (cls : classOf s e.seat = .delegate)
include cls

theorem eligibility_notReady (unbound : s.trunks.binding[e.seat] = none) : eligibility s e = .notReady := by
  have unready : isReady s e.seat = false := by simp [isReady, placeOf, unbound]
  rw [eligibility, if_neg (not_not.2 cls), unready]
  rfl

variable {p : Place} (bound : s.trunks.binding[e.seat] = some p)
include bound

theorem eligibility_bound : eligibility s e = if !s.floor.mask.getLsbD p.wing.val then .masked
    else if s.floor.locked[e.seat] then .locked else if e.target.isSome && !e.heard then .awaitingReply else .eligible := by
  have ready : isReady s e.seat = true := by simp [isReady, placeOf, bound]
  have masked : isMasked s e.seat = !s.floor.mask.getLsbD p.wing.val := by simp only [isMasked, placeOf, bound, Option.any_some]
  rw [eligibility, if_neg (not_not.2 cls), ready, masked]
  rfl

end Delegate

/-- Settles O44: eight rounds reach the limit, each grant taking a slot; the cases of eligibility in their order. -/
theorem advanceCheckRunsToItsEnd : Obligations.AdvanceCheckRunsToItsEnd := by
  refine ⟨fun s laws limit => ?_, fun s ends => advanceCheck_of_ends ends,
    fun e s => ⟨eligibility_notDelegate, fun cls => ⟨eligibility_notReady cls, fun p bound => ?_⟩, rfl,
      List.countP_eq_length_filter, List.countP_eq_length_filter⟩,
    fun s laws limit auto mode hold room ahead behind e n rest split skipped eligible free => ?_⟩
  · have ends := advance_ends 8 laws (limit := limit) (limit.trans (Nat.le_add_left _ _))
    exact ⟨(nextToAdvance_none_iff _).1 ends, advance_extends 8 laws limit⟩
  · rw [eligibility_bound cls bound]
    refine ⟨fun off => by simp only [off]; rfl, fun on => ?_⟩
    simp only [on, Bool.not_true, Bool.false_eq_true, if_false]
    refine ⟨fun locked => if_pos locked, fun unlocked => ?_⟩
    simp only [unlocked, Bool.false_eq_true, if_false]
    refine ⟨fun y target unheard => by simp [target, unheard], fun free => if_neg ?_⟩
    rcases free with none | heard <;> simp [*]
  · have next : nextToAdvance s = some e := by
      rw [nextToAdvance_eq, if_pos ⟨auto, mode, hold, room⟩, firstEligible_split split skipped eligible]
    exact ⟨advanceCheck_granted laws limit next, fun sending => openSlot_grants split (.inl sending) laws.1.2.1 free (.inl rfl)⟩

end Sys2Proof.Machine
end

section
namespace Sys2Proof.Machine
variable {s : State} {n : SlotNo} {sl : Slot} {c : CloseReason} {half : Half} {x : Seat}

/-! ### The close path (R68, R82, R150) -/

/-- A notice reads of the queue its length and its list state alone. -/
theorem post_setQueue {q : RequestQueue} (length : q.entries.length = s.queue.entries.length) (list : q.list = s.queue.list)
    (b : NoticeBody) : post b (s.setQueue q) = (post b s).setQueue q := by
  have owners : ownerBits (s.setQueue q) = ownerBits s := by
    have full : q.isFull = s.queue.isFull := by rw [RequestQueue.isFull, RequestQueue.isFull, length]
    have draining : q.draining = s.queue.draining := by rw [RequestQueue.draining, RequestQueue.draining, list]
    simp only [ownerBits, State.setQueue_queue, full, draining]
    rfl
  rw [post, owners]
  rfl

/-- The close path up to its advance check is the close with the drain end test behind it. -/
theorem closeSlot_closedSlot (c : CloseReason) (slot : s.floor.slots[n] = some sl) :
    closeSlot n c s = drainEndTest (closedSlot n sl c s) := by
  have told := post_setQueue (s := s.setFloor (floorClosing n s.floor))
    (q := { s.queue with entries := s.queue.entries.map (hearEntry sl.seat) }) (List.length_map _) rfl
    (.floorClosed n sl.seat c sl.origin sl.elapsed)
  rw [closeSlot_some c slot]
  exact congrArg drainEndTest told.symm

theorem closedSlot_tells (n : SlotNo) (sl : Slot) (c : CloseReason) (s : State) :
    Tells s (closedSlot n sl c s) [.floorClosed n sl.seat c sl.origin sl.elapsed] := (post_tells _ _).after rfl

/-- Heard changes no notice of the end of a drain. -/
theorem drainNotices_heard (k : Nat) (x : Seat) (es : List QueueEntry) :
    drainNotices k (es.map (hearEntry x)) = drainNotices k es := by
  have kind (e : QueueEntry) : (hearEntry x e).kind = e.kind := by unfold hearEntry; split <;> rfl
  simp [drainNotices, (hearEntry_seat x _).1, kind, Function.comp_def]

/-- The close that ends a drain leaves the queue empty and the list OPEN, so that no advance follows (R90, R151). -/
theorem closeSlot_drained (slot : s.floor.slots[n] = some sl) (ends : DrainEnds (closedSlot n sl c s)) :
    let t := advanceCheck (closeSlot n c s)
    t = { s with link := t.link, queue := ⟨[], .open, none, 0⟩, floor := floorClosing n s.floor } ∧
      Tells s t (.floorClosed n sl.seat c sl.origin sl.elapsed :: drainNotices s.queue.skips s.queue.entries) := by
  obtain ⟨frame, told⟩ := drainEndTest_ends ends
  rw [← closeSlot_closedSlot c slot] at frame told
  have still : advanceCheck (closeSlot n c s) = closeSlot n c s := by
    refine advanceCheck_of_ends (.inr (.inr (.inr (.inr fun e he => ?_))))
    rw [frame] at he
    cases he
  have notices : drainNotices (closedSlot n sl c s).queue.skips (closedSlot n sl c s).queue.entries =
    drainNotices s.queue.skips s.queue.entries := drainNotices_heard _ _ _
  dsimp only
  rw [still, ← notices]
  exact ⟨frame, (closedSlot_tells n sl c s).trans told⟩

/-! ### FLOOR REVOKE (R102) -/

theorem takeFloorRevoke_badValue (past : 511 < half.toNat) (s : State) : takeFloorRevoke half s = refusedWith .badValue s := by
  rw [takeFloorRevoke, seatOf_none past]

theorem takeFloorRevoke_notFound (hx : half.toNat = x.val) (nowhere : s.floor.slotOf x = none) :
    takeFloorRevoke half s = refusedWith .notFound s := by
  rw [takeFloorRevoke, seatOf_val hx]
  dsimp only
  rw [nowhere]

theorem takeFloorRevoke_closes (hx : half.toNat = x.val) (held : s.floor.slotOf x = some n) : takeFloorRevoke half s =
    answeredOk (advanceCheck (closeSlot n .link s)) (seatBytes x ++ [byteOf (slotNumber n)]) := by
  rw [takeFloorRevoke, seatOf_val hx]
  dsimp only
  rw [held, closeSeat_some held]
  rfl

/-! ### FLOOR CLEAR (R103) -/

/-- With every speaker shut the floor is empty (R103). -/
theorem floorShut_speakers (lists : SlotListsLaw s) : floorShut s.floor.speakers s.floor = { s.floor with
    slots := Vector.replicate 8 none, speakers := [], free := s.floor.speakers.reverse ++ s.floor.free } := by
  have slots : (floorShut s.floor.speakers s.floor).slots = Vector.replicate 8 none := Vector.ext fun i hi => by
    have shut := floorShut_slots s.floor.speakers s.floor ⟨i, hi⟩
    rw [Vector.getElem_replicate]
    refine shut.trans (ite_eq_left_iff.2 fun silent => ?_)
    rwa [lists.2.2.1, Option.not_isSome_iff_eq_none] at silent
  have speakers : (floorShut s.floor.speakers s.floor).speakers = [] := List.filter_eq_nil_iff.2 fun n hn => by simp [hn]
  exact congrArg₂ (fun v l => ({ s.floor with slots := v, speakers := l, free := s.floor.speakers.reverse ++ s.floor.free } : Floor))
    slots speakers

/-- FLOOR CLEAR with no advance following (R82, R103). -/
theorem floorClear_noAdvance (still : NoAdvance s) (lists : SlotListsLaw s) :
    let t := advanceCheck (closedInTurn s.floor.speakers .chair s)
    t = { s with
      link := t.link
      queue := { s.queue with entries := s.queue.entries.map fun e => if e.target.any (heldSlot s) then { e with heard := true } else e }
      floor := { s.floor with
        slots := Vector.replicate 8 none, speakers := [], free := s.floor.speakers.reverse ++ s.floor.free } } ∧
      Tells s t (s.floor.speakers.filterMap (closeNotice s .chair)) := by
  obtain ⟨frame, told⟩ := closedInTurn_open still.1 lists.1 .chair s.floor.speakers lists.1 fun n hn => (lists.2.2.1 n).1 hn
  have noAdvance : NoAdvance (closedInTurn s.floor.speakers .chair s) := by rw [frame]; exact still
  have heard : hearShut s s.floor.speakers = fun e => if e.target.any (heldSlot s) then { e with heard := true } else e := by
    funext e
    rw [hearShut, show spokeIn s s.floor.speakers = heldSlot s from funext (spokeIn_speakers lists)]
  dsimp only
  rw [floorShut_speakers lists, heard] at frame
  rw [advanceCheck_noAdvance noAdvance]
  exact ⟨frame, told⟩

/-- An order answered after entries and slots alone were rewritten. -/
theorem answered_rewritten {u : State} {es : List QueueEntry} {f : Floor} (k : Byte) (code : ResultCode) (d : List Byte)
    (frame : u = { oweAnswer s with link := u.link, queue := { s.queue with entries := es }, floor := f }) :
    let t := answered k code d u
    t = { s with link := t.link, queue := { s.queue with entries := t.queue.entries }, floor := t.floor } := by
  generalize u.link = l at frame
  subst frame
  rfl

/-- Settles O39: each order by its tests; the close path by `closeSlot_closedSlot`, and the closes of FLOOR CLEAR by
`closedInTurn_open`. -/
theorem revokeAndClearCloseSlots : Obligations.RevokeAndClearCloseSlots := by
  refine ⟨fun half s takes => ⟨fun past => ?_, fun x hx => ⟨fun nowhere => ?_, fun n sl held slot => ?_⟩⟩,
    fun s takes => ⟨?_, fun still lists => ?_⟩, fun n c s queues => ⟨closeSlot_none c, fun sl slot => ?_⟩,
    fun seat c s => ⟨slotOf_none_iff _ _, fun n sl one slot same => ?_, fun nowhere => ?_, fun n held => closeSeat_some held c⟩⟩
  · exact submit_refused (i := .floorRevoke half) rfl (by simp) takes (takeFloorRevoke_badValue past _)
  · exact submit_refused (i := .floorRevoke half) rfl (by simp) takes (takeFloorRevoke_notFound (s := oweAnswer s) hx nowhere)
  · have taken := takeFloorRevoke_closes (s := oweAnswer s) hx held
    have seat : sl.seat = x := slotOf_seat held slot
    refine ⟨(submit_answered (i := .floorRevoke half) rfl (by simp) (by simp) (by simp) takes taken).1, fun still => ?_, fun ends => ?_⟩
    · obtain ⟨frame, told⟩ := closeSlot_noAdvance (s := oweAnswer s) held slot still .link
      obtain ⟨eq, answers, linkFrame, posts⟩ := submit_told (i := .floorRevoke half) rfl (by simp) (by simp) (by simp) takes taken told
      refine ⟨_, eq, answers, linkFrame, ?_, ?_, ?_, posts⟩
      · exact answered_rewritten _ _ _ frame
      · exact congrArg (·.queue.entries) frame
      · exact congrArg State.floor frame
    · obtain ⟨frame, told⟩ := closeSlot_drained (s := oweAnswer s) slot ends
      rw [seat] at told
      obtain ⟨eq, answers, linkFrame, posts⟩ := submit_told (i := .floorRevoke half) rfl (by simp) (by simp) (by simp) takes taken told
      exact ⟨_, eq, answers, linkFrame, congrArg (State.setLink · _) frame, posts⟩
  · exact (submit_answered (i := .floorClear) rfl (by simp) (by simp) (by simp) takes rfl).1
  · obtain ⟨frame, told⟩ := floorClear_noAdvance (s := oweAnswer s) still lists
    have taken : takeFloorClear (oweAnswer s) = answeredOk (advanceCheck (closedInTurn s.floor.speakers .chair (oweAnswer s)))
        [byteOf s.floor.speakers.length] := by
      rw [← lists.occupied]
      rfl
    obtain ⟨eq, answers, linkFrame, posts⟩ := submit_told (i := .floorClear) rfl (by simp) (by simp) (by simp) takes taken told
    exact ⟨_, eq, answers, linkFrame, answered_rewritten _ _ _ frame, congrArg State.floor frame, congrArg (·.queue.entries) frame,
      posts⟩
  · have told := closedSlot_tells n sl c s
    refine ⟨rfl, told.linkFrame queues, told.posts queues, fun goesOn => ?_, fun ends => ?_⟩
    · rw [closeSlot_closedSlot c slot, drainEndTest_goesOn goesOn]
    · obtain ⟨frame, drained⟩ := drainEndTest_ends ends
      rw [closeSlot_closedSlot c slot]
      have queues := queues_of_path queues told.path
      exact ⟨frame, drained.linkFrame queues, drained.posts queues⟩
  · cases held : s.floor.slotOf seat with
    | none => exact absurd same (slotOf_none held slot)
    | some m =>
      obtain ⟨a, there, seat⟩ := slotOf_some held
      rw [one.1 m n a sl there slot (seat.trans same.symm)]
  · rw [closeSeat, nowhere]

end Sys2Proof.Machine
end
